-- ==== Sys2Proof/Config.lean ====
section
/-! DEFINITION. What the specification fixes once for the part: limits, reset values of tuning, the
link's constants. Nothing here is left open by the specification, so no value is free. -/

namespace Sys2Proof.Config

/-- R and D saturate here (R8). -/
def volumeMax : Nat := 16777215
/-- Ages, cycles since proof saturate here (R40, R89); the arrival counter wraps after it (R105). -/
def wordMax : Nat := 65535
/-- The breach count saturates here (R132). -/
def breachMax : Nat := 255
/-- A count of 255 is an open order (R87). -/
def openOrder : Nat := 255
/-- A conversion reads at most 2400, which is 24.00 mA (section 2.2). -/
def readingMax : Nat := 2400
/-- A clearance entry has at most four holders (R134). -/
def holdersMax : Nat := 4
/-- The settle mark of a test-current proof runs for 20, that is 2.0 s (section 7.2). -/
def settleMark : Nat := 20
/-- Outside RUN the effective floor is 7 (R107). -/
def floorMax : Nat := 7

/-- Reset value of the hang threshold (R5). -/
def hangThresholdReset : Nat := 250
/-- Reset value of the blend shift k (R5). -/
def blendShiftReset : Nat := 2
/-- Reset value of the disagreement limit (R5). -/
def disagreementReset : Nat := 250
/-- Reset value of the stale limit (R5). -/
def staleLimitReset : Nat := 100
/-- Reset value of the grant timeout (R49). -/
def grantTimeoutReset : Nat := 900
/-- Reset value of the hold time (R76). -/
def holdTimeReset : Nat := 30
/-- Reset value of the stroke time (R76). -/
def strokeTimeReset : Nat := 80
/-- Reset value of the nudge time (R76). -/
def nudgeTimeReset : Nat := 5
/-- Reset value of the travel limit (R103). -/
def travelLimitReset : Nat := 600
/-- Reset value of the break limit (R103). -/
def breakLimitReset : Nat := 3000
/-- Reset value of the settle time (R156). -/
def settleTimeReset : Nat := 600
/-- Reset value of the proof window (R156). -/
def proofWindowReset : Nat := 100
/-- Every bank's debounce time after either reset, in ms (R166). -/
def debounceReset : Nat := 20

/-- A reply tag of FFFFh asks for no answer (R177). -/
def noAnswerTag : Nat := 0xFFFF
/-- Start byte of a request frame (R175). -/
def requestStart : BitVec 8 := 0xA5
/-- Start byte of an answer frame (R175). -/
def answerStart : BitVec 8 := 0x5A
/-- The longest body of a frame (R175). -/
def bodyMax : Nat := 240
/-- The check's generator x^16+x^12+x^5+1 without its leading term (R175). -/
def crcPolynomial : BitVec 16 := 0x1021
/-- The check's register starts at FFFFh (R175). -/
def crcStart : BitVec 16 := 0xFFFF

/-- The codes of the request table (section 10.3). -/
def requestCodes : List Nat :=
  [0x01, 0x02, 0x03, 0x04, 0x05, 0x06, 0x07, 0x10, 0x11, 0x12, 0x13, 0x14, 0x15, 0x16,
   0x20, 0x21, 0x28, 0x29, 0x2A, 0x30, 0x31, 0x38, 0x39, 0x3A, 0x3B, 0x40, 0x41, 0x42,
   0x48, 0x49, 0x4A, 0x50, 0x51, 0x52, 0x53, 0x58, 0x59, 0x5A]

/-- The station address strapped on the board of `State.reset`. DESIGN CHOICE, unsafe (log 3): the
board sets the straps, and the specification names no value. -/
def resetAddress : Nat := 1
/-- The baud strap of `State.reset`: the first of the four rates of R175. DESIGN CHOICE, unsafe (log 3). -/
def resetBaud : Nat := 0

end Sys2Proof.Config
end

