-- ==== Sys2Proof/Word.lean ====
section
/-! DEFINITION. Bytes, index types of the records, and the plainest arithmetic the part's rules share. -/

namespace Sys2Proof

/-- One byte of a frame on the Pass Link (R175). -/
abbrev Byte := BitVec 8

/-- Index of a pass, 0–5 ("Index Ranges" of the overview). -/
abbrev PassIdx := Fin 6
/-- Index of a tip point, 0–15. -/
abbrev TipIdx := Fin 16
/-- Index of a chute, 0–7. -/
abbrev ChuteIdx := Fin 8
/-- Index of a breaker station, 0–3. -/
abbrev StationIdx := Fin 4
/-- Index of a clearance entry, 0–23. -/
abbrev EntryIdx := Fin 24
/-- Index of a level channel, 0–7. -/
abbrev ChannelIdx := Fin 8
/-- Index of a field line, 0–47. -/
abbrev LineIdx := Fin 48
/-- Index of a bank of eight field lines, A to F. -/
abbrev BankIdx := Fin 6

/-- "clamped to a..b": a value below a becomes a and a value above b becomes b (overview,
"Units and Number Conventions"). -/
def clamp (a b x : Nat) : Nat := if x < a then a else if b < x then b else x

/-- An index field of a request, as the record it names if there is one. -/
def index? (n i : Nat) : Option (Fin n) := if h : i < n then some ⟨i, h⟩ else none

end Sys2Proof
end

