-- ==== Sys2Proof/Syntax.lean ====
section
/-! DEFINITION. The commands: one constructor of `Instr` for each row of opcode_table.json. -/

namespace Sys2Proof

/-- One segment of a pass's profile (section 1.1). -/
structure Segment where
  height : Nat
  area : Nat
deriving DecidableEq, Repr

/-- What every request frame carries besides its fields: the reply tag (R177) and the body's length
byte, which the common checks compare with the length the encoding gives (R178). -/
structure Request where
  tag : Nat
  length : Nat
deriving DecidableEq, Repr

/-- The commands of the part, in the order of opcode_table.json. The operands of a request are the
fields of its body as R178 encodes them: a number as it stands in its field, `none` for a field of all
ones where the field can say none or absent, a set as its bitmap. A field that names a record holds
the index byte as sent, so it may be out of range. -/
inductive Instr where
  | powerOn
  | resetLine
  /-- The straps as they stand at the release (R175): the address pins, and which of the four rates. -/
  | resetRelease (address baud : Nat)
  | definePass (rq : Request) (pass height count : Nat) (segments : List Segment)
  | defineTip (rq : Request) (tip pass elevation load level : Nat)
      (grizzly call sensor lamp oversize : Option Nat)
  | defineChute (rq : Request) (chute pass elevation volume : Nat)
      (openValve closeValve openLimit closedLimit loadCall : Option Nat)
  | defineBreakerStation (rq : Request) (station tip group : Nat)
  | defineBreaker (rq : Request) (go code0 code1 inPosition grizzlyClear parked : Option Nat)
  | defineChannel (rq : Request) (channel : Nat) (assignment : Option Nat) (zeroAt span : Nat)
      (testLine : Option Nat)
  | defineStation (rq : Request) (estop : Option Nat)
  | read (rq : Request) (type index : Nat)
  | tunePass (rq : Request) (pass tipLimit cushion hang shift disagreement stale : Nat)
  | tuneTip (rq : Request) (tip timeout level : Nat)
  | tuneChute (rq : Request) (chute holdTime strokeTime nudgeTime interval : Nat)
  | tuneStation (rq : Request) (settleTime travelLimit breakLimit proofWindow : Nat)
  | setFill (rq : Request) (pass volume : Nat)
  | clearHang (rq : Request) (pass : Nat)
  | callTip (rq : Request) (tip : Nat)
  | withdraw (rq : Request) (tip : Nat)
  | order (rq : Request) (chute count : Nat)
  | hold (rq : Request) (chutes : BitVec 8)
  | free (rq : Request) (chutes : BitVec 8)
  | breakJob (rq : Request) (station level : Nat)
  | floor (rq : Request) (level : Nat)
  | postClearance (rq : Request) (kind pass low high : Nat) (tips : BitVec 16) (chutes : BitVec 8)
      (breaker : Bool) (tag : Nat)
  | join (rq : Request) (entry tag : Nat)
  | leave (rq : Request) (entry tag : Nat)
  | cancel (rq : Request) (entry : Nat)
  | proveChute (rq : Request) (chute : Nat)
  | proveChannel (rq : Request) (channel : Nat)
  | acceptProof (rq : Request) (type index : Nat)
  | linesRead (rq : Request) (bank : Nat)
  | linesWrite (rq : Request) (bank : Nat) (directionSet directions latchSet latches : BitVec 8)
      (debounce : Option Nat)
  | scanList (rq : Request) (quiet breaking : BitVec 8)
  | start (rq : Request)
  | stop (rq : Request)
  | resume (rq : Request)
  | setup (rq : Request)
  | acknowledge (rq : Request) (type index : Nat) (conditions : BitVec 32)
  | summary (rq : Request)
  | attentionMask (rq : Request) (kinds : BitVec 32)
  /-- A request whose code stands in no row of the request table (R178). -/
  | unknownRequest (rq : Request) (code : Nat)
  | broadcastStop
  | ignoredFrame
  | frameGapTimeout
  | answerSend
  /-- The plant now applies this level to this line's pin (R169). -/
  | rawLevelChange (line : LineIdx) (level : Bool)
  | debounceExpiry (line : LineIdx)
  | grantTimerExpiry (tip : TipIdx)
  | holdTimerExpiry (chute : ChuteIdx)
  | strokeTimerExpiry (chute : ChuteIdx)
  | nudgeTimerExpiry (chute : ChuteIdx)
  /-- The loop current that was measured, in units of 10 µA (section 2.2). -/
  | conversionCompletion (current : Nat)
  | stalenessExpiry (channel : ChannelIdx)
  | windowTimerExpiry (channel : ChannelIdx)
  | settleMarkExpiry (channel : ChannelIdx)
  | settleTimerExpiry (entry : EntryIdx)
  | travelTimerExpiry
  | breakTimerExpiry
  | returnTimerExpiry
  | frameStartByte
  | framingError
  | lengthAbove240
  | answerSent
  | ageTick
deriving DecidableEq, Repr

end Sys2Proof
end

