-- ==== Sys2Proof/WellFormed.lean ====
section
/-! DEFINITION. Which terms of `Instr` a frame or an event can carry: every field fits the bytes R178
gives it. -/

namespace Sys2Proof

/-- A number encoded in one byte (R178). -/
def fitsByte (n : Nat) : Bool := n < 256
/-- A number encoded in two bytes (R178). -/
def fitsWord (n : Nat) : Bool := n < 65536
/-- A number encoded in three bytes (R178). -/
def fitsTriple (n : Nat) : Bool := n < 16777216
/-- A field of one byte whose all-ones value says none or absent (R178). -/
def fitsOption (o : Option Nat) : Bool := o.all (· < 255)

/-- A reply tag has two bytes, and a length byte above 240 begins no request (R175, R176). -/
def Request.wellFormed (rq : Request) : Bool := fitsWord rq.tag && decide (rq.length ≤ Config.bodyMax)

/-- A segment's height and area have two bytes each (R178, DEFINE PASS). -/
def Segment.fits (g : Segment) : Bool := fitsWord g.height && fitsWord g.area

/-- The command can be carried by a frame (R175, R178) or is an event the plant can give. -/
def Instr.wellFormed : Instr → Bool
  | .powerOn => true
  | .resetLine => true
  | .resetRelease address baud => decide (address < 64) && decide (baud < 4)
  | .definePass rq pass height count segments =>
      rq.wellFormed && fitsByte pass && fitsWord height && fitsByte count
        && segments.all Segment.fits && decide (segments.length = count)
  | .defineTip rq tip pass elevation load level grizzly call sensor lamp oversize =>
      rq.wellFormed && fitsByte tip && fitsByte pass && fitsWord elevation && fitsWord load
        && fitsByte level && fitsOption grizzly && fitsOption call && fitsOption sensor
        && fitsOption lamp && fitsOption oversize
  | .defineChute rq chute pass elevation volume openValve closeValve openLimit closedLimit loadCall =>
      rq.wellFormed && fitsByte chute && fitsByte pass && fitsWord elevation && fitsWord volume
        && fitsOption openValve && fitsOption closeValve && fitsOption openLimit
        && fitsOption closedLimit && fitsOption loadCall
  | .defineBreakerStation rq station tip group =>
      rq.wellFormed && fitsByte station && fitsByte tip && fitsByte group
  | .defineBreaker rq go code0 code1 inPosition grizzlyClear parked =>
      rq.wellFormed && fitsOption go && fitsOption code0 && fitsOption code1
        && fitsOption inPosition && fitsOption grizzlyClear && fitsOption parked
  | .defineChannel rq channel assignment zeroAt span testLine =>
      rq.wellFormed && fitsByte channel && fitsOption assignment && fitsWord zeroAt && fitsWord span
        && fitsOption testLine
  | .defineStation rq estop => rq.wellFormed && fitsOption estop
  | .read rq type index => rq.wellFormed && fitsByte type && fitsByte index
  | .tunePass rq pass tipLimit cushion hang shift disagreement stale =>
      rq.wellFormed && fitsByte pass && fitsTriple tipLimit && fitsTriple cushion && fitsWord hang
        && fitsByte shift && fitsWord disagreement && fitsWord stale
  | .tuneTip rq tip timeout level => rq.wellFormed && fitsByte tip && fitsWord timeout && fitsByte level
  | .tuneChute rq chute holdTime strokeTime nudgeTime interval =>
      rq.wellFormed && fitsByte chute && fitsWord holdTime && fitsWord strokeTime
        && fitsByte nudgeTime && fitsWord interval
  | .tuneStation rq settleTime travelLimit breakLimit proofWindow =>
      rq.wellFormed && fitsWord settleTime && fitsWord travelLimit && fitsWord breakLimit
        && fitsWord proofWindow
  | .setFill rq pass volume => rq.wellFormed && fitsByte pass && fitsTriple volume
  | .clearHang rq pass => rq.wellFormed && fitsByte pass
  | .callTip rq tip => rq.wellFormed && fitsByte tip
  | .withdraw rq tip => rq.wellFormed && fitsByte tip
  | .order rq chute count => rq.wellFormed && fitsByte chute && fitsByte count
  | .hold rq _ => rq.wellFormed
  | .free rq _ => rq.wellFormed
  | .breakJob rq station level => rq.wellFormed && fitsByte station && fitsByte level
  | .floor rq level => rq.wellFormed && fitsByte level
  | .postClearance rq kind pass low high _ _ _ tag =>
      rq.wellFormed && fitsByte kind && fitsByte pass && fitsWord low && fitsWord high && fitsWord tag
  | .join rq entry tag => rq.wellFormed && fitsByte entry && fitsWord tag
  | .leave rq entry tag => rq.wellFormed && fitsByte entry && fitsWord tag
  | .cancel rq entry => rq.wellFormed && fitsByte entry
  | .proveChute rq chute => rq.wellFormed && fitsByte chute
  | .proveChannel rq channel => rq.wellFormed && fitsByte channel
  | .acceptProof rq type index => rq.wellFormed && fitsByte type && fitsByte index
  | .linesRead rq bank => rq.wellFormed && fitsByte bank
  | .linesWrite rq bank _ _ _ _ debounce => rq.wellFormed && fitsByte bank && fitsOption debounce
  | .scanList rq _ _ => rq.wellFormed
  | .start rq => rq.wellFormed
  | .stop rq => rq.wellFormed
  | .resume rq => rq.wellFormed
  | .setup rq => rq.wellFormed
  | .acknowledge rq type index _ => rq.wellFormed && fitsByte type && fitsByte index
  | .summary rq => rq.wellFormed
  | .attentionMask rq _ => rq.wellFormed
  | .unknownRequest rq code =>
      rq.wellFormed && fitsByte code && decide (code ∉ Config.requestCodes)
  | .broadcastStop => true
  | .ignoredFrame => true
  | .frameGapTimeout => true
  | .answerSend => true
  | .rawLevelChange _ _ => true
  | .debounceExpiry _ => true
  | .grantTimerExpiry _ => true
  | .holdTimerExpiry _ => true
  | .strokeTimerExpiry _ => true
  | .nudgeTimerExpiry _ => true
  | .conversionCompletion _ => true
  | .stalenessExpiry _ => true
  | .windowTimerExpiry _ => true
  | .settleMarkExpiry _ => true
  | .settleTimerExpiry _ => true
  | .travelTimerExpiry => true
  | .breakTimerExpiry => true
  | .returnTimerExpiry => true
  | .frameStartByte => true
  | .framingError => true
  | .lengthAbove240 => true
  | .answerSent => true
  | .ageTick => true

end Sys2Proof
end

