-- ==== Sys2Proof/Decode.lean ====
section
/-! DEFINITION. From the bytes of a frame to a command and back (R175 to R178). The opcode table gives
its rows no bits, so no word spells a command by it: `decodeTableWord` answers none. -/

namespace Sys2Proof

/-- "All multi-byte numbers in frames are sent most significant byte first" (R175): the low `n` bytes
of `v`. -/
def bigEndian : Nat → Nat → List Byte
  | 0, _ => []
  | n + 1, v => BitVec.ofNat 8 (v / 256 ^ n) :: bigEndian n v

/-- The number some bytes spell, most significant first (R175). -/
def bytesToNat (bs : List Byte) : Nat := bs.foldl (fun a b => a * 256 + b.toNat) 0

/-- The number in the `len` bytes of a body from offset `start` on. -/
def field (body : List Byte) (start len : Nat) : Nat := bytesToNat ((body.drop start).take len)

/-- A field of one byte that can say none or absent: all ones (R178). -/
def optionField (body : List Byte) (start : Nat) : Option Nat :=
  if field body start 1 = 255 then none else some (field body start 1)

/-- The byte of a field that can say none or absent (R178). -/
def optionByte (o : Option Nat) : List Byte := bigEndian 1 (o.getD 255)

/-- One bit of the check: the register is shifted left, and the generator is added when its top bit
falls out (R175). -/
def crcShift (r : BitVec 16) : BitVec 16 :=
  if r.msb then (r <<< 1) ^^^ Config.crcPolynomial else r <<< 1

/-- One byte of the check, most significant bit first (R175). -/
def crcByte (r : BitVec 16) (b : Byte) : BitVec 16 :=
  Nat.iterate crcShift 8 (r ^^^ (b.setWidth 16 <<< 8))

/-- The check over some bytes (R175). -/
def crc16 (bs : List Byte) : BitVec 16 := bs.foldl crcByte Config.crcStart

/-- The two check bytes, "sent high byte first" (R175). -/
def crcBytes (bs : List Byte) : List Byte := bigEndian 2 (crc16 bs).toNat

/-- The segments of a DEFINE PASS body from offset 4 on, bottom first: height, then area (R178). -/
def decodeSegments : Nat → List Byte → List Segment
  | 0, _ => []
  | n + 1, bs => ⟨field bs 0 2, field bs 2 2⟩ :: decodeSegments n (bs.drop 4)

/-- The segments of a DEFINE PASS body (R178). -/
def encodeSegments (gs : List Segment) : List Byte :=
  gs.flatMap fun g => bigEndian 2 g.height ++ bigEndian 2 g.area

/-- The command a request frame carries: its code (section 10.3) and its body, whose fields stand "in
the order in which the owning rule lists them", each in the smallest number of bytes that holds its
range (R178). A body of another length than the encoding gives is refused before any field is read
(R178), so its fields are read here as if zeros followed. -/
def decodeRequest (code : Nat) (rq : Request) (b : List Byte) : Instr :=
  match code with
  | 0x01 => .definePass rq (field b 0 1) (field b 1 2) (field b 3 1)
      (decodeSegments (field b 3 1) (b.drop 4))
  | 0x02 => .defineTip rq (field b 0 1) (field b 1 1) (field b 2 2) (field b 4 2) (field b 6 1)
      (optionField b 7) (optionField b 8) (optionField b 9) (optionField b 10) (optionField b 11)
  | 0x03 => .defineChute rq (field b 0 1) (field b 1 1) (field b 2 2) (field b 4 2)
      (optionField b 6) (optionField b 7) (optionField b 8) (optionField b 9) (optionField b 10)
  | 0x04 => .defineBreakerStation rq (field b 0 1) (field b 1 1) (field b 2 1)
  | 0x05 => .defineBreaker rq (optionField b 0) (optionField b 1) (optionField b 2)
      (optionField b 3) (optionField b 4) (optionField b 5)
  | 0x06 => .defineChannel rq (field b 0 1) (optionField b 1) (field b 2 2) (field b 4 2)
      (optionField b 6)
  | 0x07 => .defineStation rq (optionField b 0)
  | 0x10 => .read rq (field b 0 1) (field b 1 1)
  | 0x11 => .tunePass rq (field b 0 1) (field b 1 3) (field b 4 3) (field b 7 2) (field b 9 1)
      (field b 10 2) (field b 12 2)
  | 0x12 => .tuneTip rq (field b 0 1) (field b 1 2) (field b 3 1)
  | 0x13 => .tuneChute rq (field b 0 1) (field b 1 2) (field b 3 2) (field b 5 1) (field b 6 2)
  | 0x14 => .tuneStation rq (field b 0 2) (field b 2 2) (field b 4 2) (field b 6 2)
  | 0x15 => .setFill rq (field b 0 1) (field b 1 3)
  | 0x16 => .clearHang rq (field b 0 1)
  | 0x20 => .callTip rq (field b 0 1)
  | 0x21 => .withdraw rq (field b 0 1)
  | 0x28 => .order rq (field b 0 1) (field b 1 1)
  | 0x29 => .hold rq (BitVec.ofNat 8 (field b 0 1))
  | 0x2A => .free rq (BitVec.ofNat 8 (field b 0 1))
  | 0x30 => .breakJob rq (field b 0 1) (field b 1 1)
  | 0x31 => .floor rq (field b 0 1)
  | 0x38 => .postClearance rq (field b 0 1) (field b 1 1) (field b 2 2) (field b 4 2)
      (BitVec.ofNat 16 (field b 6 2)) (BitVec.ofNat 8 (field b 8 1))
      (field b 9 1 % 2 == 1) (field b 10 2)
  | 0x39 => .join rq (field b 0 1) (field b 1 2)
  | 0x3A => .leave rq (field b 0 1) (field b 1 2)
  | 0x3B => .cancel rq (field b 0 1)
  | 0x40 => .proveChute rq (field b 0 1)
  | 0x41 => .proveChannel rq (field b 0 1)
  | 0x42 => .acceptProof rq (field b 0 1) (field b 1 1)
  | 0x48 => .linesRead rq (field b 0 1)
  | 0x49 => .linesWrite rq (field b 0 1) (BitVec.ofNat 8 (field b 1 1))
      (BitVec.ofNat 8 (field b 2 1)) (BitVec.ofNat 8 (field b 3 1)) (BitVec.ofNat 8 (field b 4 1))
      (optionField b 5)
  | 0x4A => .scanList rq (BitVec.ofNat 8 (field b 0 1)) (BitVec.ofNat 8 (field b 1 1))
  | 0x50 => .start rq
  | 0x51 => .stop rq
  | 0x52 => .resume rq
  | 0x53 => .setup rq
  | 0x58 => .acknowledge rq (field b 0 1) (field b 1 1) (BitVec.ofNat 32 (field b 2 4))
  | 0x59 => .summary rq
  | 0x5A => .attentionMask rq (BitVec.ofNat 32 (field b 0 4))
  | _ => .unknownRequest rq code

/-- The code and body of a request (section 10.3, R178); none for a command that is no request of the
table. -/
def encodeRequest : Instr → Option (Nat × List Byte)
  | .definePass _ pass height count segments => some (0x01,
      bigEndian 1 pass ++ bigEndian 2 height ++ bigEndian 1 count ++ encodeSegments segments)
  | .defineTip _ tip pass elevation load level grizzly call sensor lamp oversize => some (0x02,
      bigEndian 1 tip ++ bigEndian 1 pass ++ bigEndian 2 elevation ++ bigEndian 2 load
        ++ bigEndian 1 level ++ optionByte grizzly ++ optionByte call ++ optionByte sensor
        ++ optionByte lamp ++ optionByte oversize)
  | .defineChute _ chute pass elevation volume openValve closeValve openLimit closedLimit loadCall =>
      some (0x03, bigEndian 1 chute ++ bigEndian 1 pass ++ bigEndian 2 elevation
        ++ bigEndian 2 volume ++ optionByte openValve ++ optionByte closeValve
        ++ optionByte openLimit ++ optionByte closedLimit ++ optionByte loadCall)
  | .defineBreakerStation _ station tip group => some (0x04,
      bigEndian 1 station ++ bigEndian 1 tip ++ bigEndian 1 group)
  | .defineBreaker _ go code0 code1 inPosition grizzlyClear parked => some (0x05,
      optionByte go ++ optionByte code0 ++ optionByte code1 ++ optionByte inPosition
        ++ optionByte grizzlyClear ++ optionByte parked)
  | .defineChannel _ channel assignment zeroAt span testLine => some (0x06,
      bigEndian 1 channel ++ optionByte assignment ++ bigEndian 2 zeroAt ++ bigEndian 2 span
        ++ optionByte testLine)
  | .defineStation _ estop => some (0x07, optionByte estop)
  | .read _ type index => some (0x10, bigEndian 1 type ++ bigEndian 1 index)
  | .tunePass _ pass tipLimit cushion hang shift disagreement stale => some (0x11,
      bigEndian 1 pass ++ bigEndian 3 tipLimit ++ bigEndian 3 cushion ++ bigEndian 2 hang
        ++ bigEndian 1 shift ++ bigEndian 2 disagreement ++ bigEndian 2 stale)
  | .tuneTip _ tip timeout level => some (0x12,
      bigEndian 1 tip ++ bigEndian 2 timeout ++ bigEndian 1 level)
  | .tuneChute _ chute holdTime strokeTime nudgeTime interval => some (0x13,
      bigEndian 1 chute ++ bigEndian 2 holdTime ++ bigEndian 2 strokeTime ++ bigEndian 1 nudgeTime
        ++ bigEndian 2 interval)
  | .tuneStation _ settleTime travelLimit breakLimit proofWindow => some (0x14,
      bigEndian 2 settleTime ++ bigEndian 2 travelLimit ++ bigEndian 2 breakLimit
        ++ bigEndian 2 proofWindow)
  | .setFill _ pass volume => some (0x15, bigEndian 1 pass ++ bigEndian 3 volume)
  | .clearHang _ pass => some (0x16, bigEndian 1 pass)
  | .callTip _ tip => some (0x20, bigEndian 1 tip)
  | .withdraw _ tip => some (0x21, bigEndian 1 tip)
  | .order _ chute count => some (0x28, bigEndian 1 chute ++ bigEndian 1 count)
  | .hold _ chutes => some (0x29, [chutes])
  | .free _ chutes => some (0x2A, [chutes])
  | .breakJob _ station level => some (0x30, bigEndian 1 station ++ bigEndian 1 level)
  | .floor _ level => some (0x31, bigEndian 1 level)
  | .postClearance _ kind pass low high tips chutes breaker tag => some (0x38,
      bigEndian 1 kind ++ bigEndian 1 pass ++ bigEndian 2 low ++ bigEndian 2 high
        ++ bigEndian 2 tips.toNat ++ [chutes] ++ bigEndian 1 breaker.toNat ++ bigEndian 2 tag)
  | .join _ entry tag => some (0x39, bigEndian 1 entry ++ bigEndian 2 tag)
  | .leave _ entry tag => some (0x3A, bigEndian 1 entry ++ bigEndian 2 tag)
  | .cancel _ entry => some (0x3B, bigEndian 1 entry)
  | .proveChute _ chute => some (0x40, bigEndian 1 chute)
  | .proveChannel _ channel => some (0x41, bigEndian 1 channel)
  | .acceptProof _ type index => some (0x42, bigEndian 1 type ++ bigEndian 1 index)
  | .linesRead _ bank => some (0x48, bigEndian 1 bank)
  | .linesWrite _ bank directionSet directions latchSet latches debounce => some (0x49,
      bigEndian 1 bank ++ [directionSet, directions, latchSet, latches] ++ optionByte debounce)
  | .scanList _ quiet breaking => some (0x4A, [quiet, breaking])
  | .start _ => some (0x50, [])
  | .stop _ => some (0x51, [])
  | .resume _ => some (0x52, [])
  | .setup _ => some (0x53, [])
  | .acknowledge _ type index conditions => some (0x58,
      bigEndian 1 type ++ bigEndian 1 index ++ bigEndian 4 conditions.toNat)
  | .summary _ => some (0x59, [])
  | .attentionMask _ kinds => some (0x5A, bigEndian 4 kinds.toNat)
  | .unknownRequest _ _ => none
  | .powerOn => none
  | .resetLine => none
  | .resetRelease _ _ => none
  | .broadcastStop => none
  | .ignoredFrame => none
  | .frameGapTimeout => none
  | .answerSend => none
  | .rawLevelChange _ _ => none
  | .debounceExpiry _ => none
  | .grantTimerExpiry _ => none
  | .holdTimerExpiry _ => none
  | .strokeTimerExpiry _ => none
  | .nudgeTimerExpiry _ => none
  | .conversionCompletion _ => none
  | .stalenessExpiry _ => none
  | .windowTimerExpiry _ => none
  | .settleMarkExpiry _ => none
  | .settleTimerExpiry _ => none
  | .travelTimerExpiry => none
  | .breakTimerExpiry => none
  | .returnTimerExpiry => none
  | .frameStartByte => none
  | .framingError => none
  | .lengthAbove240 => none
  | .answerSent => none
  | .ageTick => none

/-- The reply tag and length byte a command carries, if it is a request. -/
def Instr.request? : Instr → Option Request
  | .definePass rq _ _ _ _ => some rq
  | .defineTip rq _ _ _ _ _ _ _ _ _ _ => some rq
  | .defineChute rq _ _ _ _ _ _ _ _ _ => some rq
  | .defineBreakerStation rq _ _ _ => some rq
  | .defineBreaker rq _ _ _ _ _ _ => some rq
  | .defineChannel rq _ _ _ _ _ => some rq
  | .defineStation rq _ => some rq
  | .read rq _ _ => some rq
  | .tunePass rq _ _ _ _ _ _ _ => some rq
  | .tuneTip rq _ _ _ => some rq
  | .tuneChute rq _ _ _ _ _ => some rq
  | .tuneStation rq _ _ _ _ => some rq
  | .setFill rq _ _ => some rq
  | .clearHang rq _ => some rq
  | .callTip rq _ => some rq
  | .withdraw rq _ => some rq
  | .order rq _ _ => some rq
  | .hold rq _ => some rq
  | .free rq _ => some rq
  | .breakJob rq _ _ => some rq
  | .floor rq _ => some rq
  | .postClearance rq _ _ _ _ _ _ _ _ => some rq
  | .join rq _ _ => some rq
  | .leave rq _ _ => some rq
  | .cancel rq _ => some rq
  | .proveChute rq _ => some rq
  | .proveChannel rq _ => some rq
  | .acceptProof rq _ _ => some rq
  | .linesRead rq _ => some rq
  | .linesWrite rq _ _ _ _ _ _ => some rq
  | .scanList rq _ _ => some rq
  | .start rq => some rq
  | .stop rq => some rq
  | .resume rq => some rq
  | .setup rq => some rq
  | .acknowledge rq _ _ _ => some rq
  | .summary rq => some rq
  | .attentionMask rq _ => some rq
  | .unknownRequest rq _ => some rq
  | .powerOn => none
  | .resetLine => none
  | .resetRelease _ _ => none
  | .broadcastStop => none
  | .ignoredFrame => none
  | .frameGapTimeout => none
  | .answerSend => none
  | .rawLevelChange _ _ => none
  | .debounceExpiry _ => none
  | .grantTimerExpiry _ => none
  | .holdTimerExpiry _ => none
  | .strokeTimerExpiry _ => none
  | .nudgeTimerExpiry _ => none
  | .conversionCompletion _ => none
  | .stalenessExpiry _ => none
  | .windowTimerExpiry _ => none
  | .settleMarkExpiry _ => none
  | .settleTimerExpiry _ => none
  | .travelTimerExpiry => none
  | .breakTimerExpiry => none
  | .returnTimerExpiry => none
  | .frameStartByte => none
  | .framingError => none
  | .lengthAbove240 => none
  | .answerSent => none
  | .ageTick => none

/-- A station whose straps read 1–62 has that address; one whose straps read 0 or 63 has none (R175). -/
def ownAddress (straps : Nat) : Option Nat := if 1 ≤ straps ∧ straps ≤ 62 then some straps else none

/-- What a complete frame with a matching check is taken as (R176, R177): a request at the station's
own address, a halt at a broadcast STOP with an empty body, and otherwise nothing. -/
def decodeAddressed (straps address tag code : Nat) (body : List Byte) : Instr :=
  if address = 0 then
    if code = 0x51 ∧ body = [] then .broadcastStop else .ignoredFrame
  else if ownAddress straps = some address then decodeRequest code ⟨tag, body.length⟩ body
  else .ignoredFrame

/-- The command a received frame spells, byte for byte from its start byte to its last check byte
(R175, R176); none where the bytes are no complete frame. -/
def decodeFrame (straps : Nat) (frame : List Byte) : Option Instr :=
  match frame with
  | start :: address :: tagHigh :: tagLow :: code :: n :: rest =>
      if start = Config.requestStart ∧ n.toNat ≤ Config.bodyMax ∧ rest.length = n.toNat + 2 then
        let body := rest.take n.toNat
        let checked := address :: tagHigh :: tagLow :: code :: n :: body
        if rest.drop n.toNat = crcBytes checked then
          some (decodeAddressed straps address.toNat (bytesToNat [tagHigh, tagLow]) code.toNat body)
        else some .ignoredFrame
      else none
  | _ => none

/-- The frame of a request to a station (R175); none for a command that is no request of the table. -/
def encodeFrame (address : Nat) (i : Instr) : Option (List Byte) :=
  match i.request?, encodeRequest i with
  | some rq, some (code, body) =>
      let checked := bigEndian 1 address ++ bigEndian 2 rq.tag ++ bigEndian 1 code
        ++ bigEndian 1 rq.length ++ body
      some (Config.requestStart :: checked ++ crcBytes checked)
  | _, _ => none

/-- The opcode table gives no row any bits, so no word spells a command by them (opcode_table.json,
every row's "fields" is empty). -/
def decodeTableWord (_nbits _w : Nat) : Option Instr := none

end Sys2Proof
end

