-- ==== Sys2Proof/Machine/Records.lean ====
section
/-! DEFINITION. The part's records, one structure for each record table of the specification, and the
values each takes at a reset. Quantities are numbers in the units of the overview; a timer is stopped
(`none`) or running with the time remaining. -/

namespace Sys2Proof.Machine

/-- "stopped, or running with the time remaining". -/
abbrev Timer := Option Nat

/-- A condition set: "four bytes, in which bit k stands for kind k" (section 10.5). -/
abbrev CondSet := BitVec 32

/-! ## Field lines (section 9.1) -/

/-- The function a line serves: a role together with the record that owns it (section 9.1). -/
inductive LineFn where
  | call (t : TipIdx)
  | tipSensor (t : TipIdx)
  | oversize (t : TipIdx)
  | lamp (t : TipIdx)
  | openValve (c : ChuteIdx)
  | closeValve (c : ChuteIdx)
  | openLimit (c : ChuteIdx)
  | closedLimit (c : ChuteIdx)
  | loadCall (c : ChuteIdx)
  | go
  | code0
  | code1
  | inPosition
  | grizzlyClear
  | parked
  | test (ch : ChannelIdx)
  | estop
deriving DecidableEq, Repr

/-- A line's direction (section 9.1). -/
inductive Direction where
  | input
  | output
deriving DecidableEq, Repr

/-- A field line (section 9.1). `plant` is the level the plant applies to the pin (R169); `raw` is the
level at the pin, which is the driven level where the part drives it. -/
structure Line where
  direction : Direction
  latch : Bool
  binding : Option LineFn
  plant : Bool
  raw : Bool
  debounced : Bool
  timer : Timer
deriving DecidableEq, Repr

/-- A line after power-on and its release, with the plant applying 0 (R166). The plant's level is a
DESIGN CHOICE, unsafe (log 2). -/
def Line.reset : Line where
  direction := .input
  latch := false
  binding := none
  plant := false
  raw := false
  debounced := false
  timer := none

/-! ## Passes (section 1.1) -/

/-- The pass states (section 1.1). -/
inductive PassState where
  | unknown
  | running
  | hung
  | outOfService
deriving DecidableEq, Repr

/-- A pass record (section 1.1): geometry, tuning, working state. `e`, `r` and `d` are the estimate,
the reference volume and the unconfirmed draw. -/
structure Pass where
  defined : Bool
  height : Nat
  profile : List Segment
  capacity : Nat
  tipLimit : Nat
  cushion : Nat
  hangThreshold : Nat
  blendShift : Nat
  disagreement : Nat
  staleLimit : Nat
  e : Nat
  known : Bool
  r : Nat
  d : Nat
  reserved : Nat
  state : PassState
  amended : Bool
  waiting : List TipIdx
  conds : CondSet
deriving DecidableEq, Repr

/-- A pass after either reset (R5). -/
def Pass.reset : Pass where
  defined := false
  height := 0
  profile := []
  capacity := 0
  tipLimit := 0
  cushion := 0
  hangThreshold := Config.hangThresholdReset
  blendShift := Config.blendShiftReset
  disagreement := Config.disagreementReset
  staleLimit := Config.staleLimitReset
  e := 0
  known := false
  r := 0
  d := 0
  reserved := 0
  state := .unknown
  amended := false
  waiting := []
  conds := 0

/-! ## Tip points (section 3.1) -/

/-- The tip states (section 3.1). -/
inductive TipState where
  | idle
  | waiting
  | granted
deriving DecidableEq, Repr

/-- Who made the call now standing (section 3.2). -/
inductive CallSource where
  | field
  | link
deriving DecidableEq, Repr

/-- A tip point record (section 3.1). Its four line fields are the bindings of the lines (R168). -/
structure Tip where
  defined : Bool
  pass : PassIdx
  elevation : Nat
  load : Nat
  level : Nat
  grizzly : Option StationIdx
  timeout : Nat
  state : TipState
  source : CallSource
  timer : Timer
  conds : CondSet
deriving DecidableEq, Repr

/-- A tip point after either reset (R49). -/
def Tip.reset : Tip where
  defined := false
  pass := 0
  elevation := 0
  load := 0
  level := 0
  grizzly := none
  timeout := Config.grantTimeoutReset
  state := .idle
  source := .field
  timer := none
  conds := 0

/-! ## Chutes (section 4.1) -/

/-- The cycle states (section 4.1). -/
inductive CycleState where
  | closed
  | opening
  | holding
  | closing
  | nudging
  | reclosing
deriving DecidableEq, Repr

/-- A chute's last proof result (section 4.1). -/
inductive ProofResult where
  | none
  | pass
  | fail
  | aborted
deriving DecidableEq, Repr

/-- The Proof Unit's pending result of a nudge proof in flight, where it is present (section 7.1). -/
inductive NudgeResult where
  | pass
  | fail
  | aborted
deriving DecidableEq, Repr

/-- A chute record (section 4.1), with the Proof Unit's pending result for it (section 7.1). Its five
line fields are the bindings of the lines (R168). `staleExpiry` is the model's own (log 31): an expiry of the
stroke timer as it ran before the event that started it again still waits in the queue. -/
structure Chute where
  defined : Bool
  pass : PassIdx
  elevation : Nat
  volume : Nat
  holdTime : Nat
  strokeTime : Nat
  nudgeTime : Nat
  interval : Nat
  count : Nat
  held : Bool
  callPending : Bool
  emptyReported : Bool
  cushionReported : Bool
  state : CycleState
  reachedOpen : Bool
  strokeTimer : Timer
  holdTimer : Timer
  nudgeTimer : Timer
  faultHold : Bool
  proofHold : Bool
  lastProof : ProofResult
  pendingProof : Option NudgeResult
  cycles : Nat
  conds : CondSet
  staleExpiry : Bool
deriving DecidableEq, Repr

/-- A chute after either reset (R76, R154). -/
def Chute.reset : Chute where
  defined := false
  pass := 0
  elevation := 0
  volume := 0
  holdTime := Config.holdTimeReset
  strokeTime := Config.strokeTimeReset
  nudgeTime := Config.nudgeTimeReset
  interval := 0
  count := 0
  held := false
  callPending := false
  emptyReported := false
  cushionReported := false
  state := .closed
  reachedOpen := false
  strokeTimer := none
  holdTimer := none
  nudgeTimer := none
  faultHold := false
  proofHold := false
  lastProof := .none
  pendingProof := none
  cycles := 0
  conds := 0
  staleExpiry := false

/-! ## The breaker (section 5.1) -/

/-- A breaker station record (section 5.1). -/
structure Station where
  defined : Bool
  tip : TipIdx
  group : Nat
  retryHeld : Bool
  conds : CondSet
deriving DecidableEq, Repr

/-- A breaker station after either reset (R103). -/
def Station.reset : Station where
  defined := false
  tip := 0
  group := 0
  retryHeld := false
  conds := 0

/-- The breaker states (section 5.1). -/
inductive BreakerState where
  | parked
  | travelling
  | breaking
  | returning
deriving DecidableEq, Repr

/-- Who raised a job (section 5.1). -/
inductive Origin where
  | oversize
  | link
deriving DecidableEq, Repr

/-- A job of the breaker (section 5.1). -/
structure Job where
  station : StationIdx
  level : Nat
  origin : Origin
  arrival : Nat
deriving DecidableEq, Repr

/-- The breaker record (section 5.1). Its six line fields are the bindings of the lines (R168). -/
structure Breaker where
  state : BreakerState
  current : Option Job
  jobs : List Job
  counter : Nat
  floor : Nat
  travelLimit : Nat
  breakLimit : Nat
  travelTimer : Timer
  breakTimer : Timer
  returnTimer : Timer
  returnOverdue : Bool
  lastCode : StationIdx
  conds : CondSet
deriving DecidableEq, Repr

/-- The breaker after either reset (R103). -/
def Breaker.reset : Breaker where
  state := .parked
  current := none
  jobs := []
  counter := 0
  floor := 0
  travelLimit := Config.travelLimitReset
  breakLimit := Config.breakLimitReset
  travelTimer := none
  breakTimer := none
  returnTimer := none
  returnOverdue := false
  lastCode := 0
  conds := 0

/-! ## Clearance entries (section 6.1) -/

/-- The kinds of clearance (section 6.1). -/
inductive ClearanceKind where
  | entry
  | service
  | equipment
deriving DecidableEq, Repr

/-- The clearance states (section 6.1). -/
inductive ClearanceState where
  | pending
  | late
  | inForce
deriving DecidableEq, Repr

/-- The cause of a breach (R132). -/
inductive BreachCause where
  | gateMoved
  | tipSensed
  | breakerMoved
deriving DecidableEq, Repr

/-- A first breach: its cause with an actuator index (section 6.1). -/
structure Breach where
  cause : BreachCause
  actuator : Nat
deriving DecidableEq, Repr

/-- A clearance entry (section 6.1). -/
structure Entry where
  inUse : Bool
  kind : ClearanceKind
  pass : Option PassIdx
  low : Nat
  high : Nat
  maskTips : BitVec 16
  maskChutes : BitVec 8
  maskBreaker : Bool
  holders : List Nat
  state : ClearanceState
  timer : Timer
  breaches : Nat
  firstBreach : Option Breach
  conds : CondSet
deriving DecidableEq, Repr

/-- The cleared fields of a free entry (R123), which every entry has after either reset (R124). -/
def Entry.reset : Entry where
  inUse := false
  kind := .entry
  pass := none
  low := 0
  high := 0
  maskTips := 0
  maskChutes := 0
  maskBreaker := false
  holders := []
  state := .pending
  timer := none
  breaches := 0
  firstBreach := none
  conds := 0

/-! ## Level channels and the scanner (chapter 2) -/

/-- The reading states (section 2.1). -/
inductive ReadingState where
  | none
  | valid
  | clamped
  | fault
  | stale
deriving DecidableEq, Repr

/-- A channel's proof state (section 2.1). -/
inductive ProofState where
  | idle
  | proving
  | held
deriving DecidableEq, Repr

/-- A channel's last proof result (section 2.1). -/
inductive ChannelResult where
  | none
  | pass
  | fail
deriving DecidableEq, Repr

/-- A level channel record (section 2.1), with the Proof Unit's two timers for it (section 7.2). Its
test line field is the binding of the line (R168). `zeroAt` is the distance reported at 4 mA. -/
structure Channel where
  defined : Bool
  assignment : Option PassIdx
  zeroAt : Nat
  span : Nat
  reading : Nat
  state : ReadingState
  age : Nat
  inQuiet : Bool
  inBreaking : Bool
  proof : ProofState
  lastProof : ChannelResult
  windowTimer : Timer
  settleMark : Timer
  conds : CondSet
deriving DecidableEq, Repr

/-- A level channel after either reset (R32, R154). -/
def Channel.reset : Channel where
  defined := false
  assignment := none
  zeroAt := 0
  span := 0
  reading := 0
  state := .none
  age := 0
  inQuiet := false
  inBreaking := false
  proof := .idle
  lastProof := .none
  windowTimer := none
  settleMark := none
  conds := 0

/-- The Level Scanner: the channel it last started, and whether that conversion is still in flight
(R33, R34). -/
structure Scanner where
  position : ChannelIdx
  converting : Bool
deriving DecidableEq, Repr

/-- The scanner after either reset: idle, its position after channel 7 (R32). -/
def Scanner.reset : Scanner where
  position := 7
  converting := false

/-! ## The station and the link (chapters 8 and 10) -/

/-- The station modes (chapter 8). -/
inductive Mode where
  | setup
  | run
  | halted
deriving DecidableEq, Repr

/-- The halt causes (chapter 8). -/
inductive HaltCause where
  | estopLine
  | linkStop
  | broadcastStop
deriving DecidableEq, Repr

/-- The set of halt causes recorded (R161). -/
structure HaltCauses where
  estopLine : Bool
  linkStop : Bool
  broadcastStop : Bool
deriving DecidableEq, Repr

/-- No cause recorded. -/
def HaltCauses.empty : HaltCauses := ⟨false, false, false⟩

/-- The station record (chapter 8). Its estop line field is the binding of the line (R168). -/
structure StationControl where
  mode : Mode
  causes : HaltCauses
  settleTime : Nat
  proofWindow : Nat
  mask : CondSet
  conds : CondSet
deriving DecidableEq, Repr

/-- The attention mask with every kind 0–22 enabled (R156, R182). -/
def fullMask : CondSet := 0x007FFFFF

/-- The station record after either reset (R156). -/
def StationControl.reset : StationControl where
  mode := .setup
  causes := HaltCauses.empty
  settleTime := Config.settleTimeReset
  proofWindow := Config.proofWindowReset
  mask := fullMask
  conds := 0

/-- The answer statuses (R178). -/
inductive Status where
  | accepted
  | unknownRequest
  | badLength
  | noRecord
  | wrongMode
  | outOfRange
  | tableFull
  | duplicate
  | notHolder
  | inForce
  | busy
  | proofDue
  | covered
  | geometry
  | lineConflict
  | stopActive
deriving DecidableEq, Repr

/-- An answer that waits to be sent (R177). -/
structure Answer where
  tag : Nat
  status : Status
  body : List Byte
deriving DecidableEq, Repr

/-- The receive state (R176): hunting for a start byte, or receiving, with the bytes of the frame in
progress that a command has brought (log 10). -/
inductive Receiver where
  | hunting
  | receiving (frame : List Byte)
deriving DecidableEq, Repr

/-- The Link Interface (chapter 10): receive state, the answer that waits, the bytes of the answer
being sent, and the straps as last read (R175). -/
structure Link where
  receiver : Receiver
  answer : Option Answer
  sending : Option (List Byte)
  address : Nat
  baud : Nat
deriving DecidableEq, Repr

/-- The link after either reset (R175), with the straps of `State.reset` (log 3, unsafe). -/
def Link.reset : Link where
  receiver := .hunting
  answer := none
  sending := none
  address := Config.resetAddress
  baud := Config.resetBaud

end Sys2Proof.Machine
end

