-- ==== Sys2Proof/Machine/Flags.lean ====
section
/-! DEFINITION. The condition kinds and what raising and acknowledging do to a condition set
(section 10.5, R180). -/

namespace Sys2Proof.Machine

/-- The condition kinds of section 10.5, in the order of their numbers. -/
inductive CondKind where
  | overtop
  | floor
  | hang
  | released
  | disagree
  | blind
  | sensorFault
  | proofDone
  | lapsed
  | ungrantedTip
  | orderDone
  | orderEmpty
  | cushionLow
  | strokeFault
  | drift
  | proofDue
  | travelTimeout
  | unfinished
  | returnOverdue
  | inForce
  | late
  | breach
  | halted
deriving DecidableEq, Repr

/-- A kind's number, which is its bit in every condition set (section 10.5). -/
def CondKind.number : CondKind → Nat
  | .overtop => 0
  | .floor => 1
  | .hang => 2
  | .released => 3
  | .disagree => 4
  | .blind => 5
  | .sensorFault => 6
  | .proofDone => 7
  | .lapsed => 8
  | .ungrantedTip => 9
  | .orderDone => 10
  | .orderEmpty => 11
  | .cushionLow => 12
  | .strokeFault => 13
  | .drift => 14
  | .proofDue => 15
  | .travelTimeout => 16
  | .unfinished => 17
  | .returnOverdue => 18
  | .inForce => 19
  | .late => 20
  | .breach => 21
  | .halted => 22

/-- The condition of this kind is raised. -/
def raised (k : CondKind) (c : CondSet) : Bool := c.getLsbD k.number

/-- "Raising a condition that is already raised leaves it raised" (R27, R45, R71, R98, R121, R143, R165). -/
def raise (k : CondKind) (c : CondSet) : CondSet := c ||| BitVec.twoPow 32 k.number

/-- Raises the condition where `b` holds. -/
def raiseIf (b : Bool) (k : CondKind) (c : CondSet) : CondSet := if b then raise k c else c

/-- "Each kind in the set that is raised on the record is cleared" (R180). -/
def acknowledged (set c : CondSet) : CondSet := c &&& ~~~set

/-- The record holds a raised condition whose kind is enabled in the attention mask (R183). -/
def callsAttention (mask c : CondSet) : Bool := decide (c &&& mask ≠ 0)

end Sys2Proof.Machine
end

