-- ==== Sys2Proof/Machine/State.lean ====
section
/-! DEFINITION. The whole state of the part, its state after reset, and the reasons a step could stop. -/

namespace Sys2Proof.Machine

/-- Why the part stops. The specification names no fault that stops it: a plant failure raises a
condition (section 10.5) and the part goes on. So nothing raises a fault, and the type has no
constructor; safe. -/
inductive Fault where
deriving DecidableEq, Repr

/-- Why the model has no meaning for a command. -/
inductive Refusal where
  /-- Raised by `exec` alone, for a row of opcode_table.json that has no meaning yet; safe. -/
  | notModelled (mnemonic : String)
deriving DecidableEq, Repr

/-- Everything the specification gives the part, and the queue of the commands that wait. -/
structure State where
  /-- The part is held in reset: "it takes no request, sends no answer and acts on no edge" (R156). -/
  inReset : Bool
  station : StationControl
  passes : Vector Pass 6
  tips : Vector Tip 16
  chutes : Vector Chute 8
  stations : Vector Station 4
  breaker : Breaker
  entries : Vector Entry 24
  channels : Vector Channel 8
  scanner : Scanner
  lines : Vector Line 48
  /-- Each bank's debounce time, in ms (section 9.1). -/
  debounce : Vector Nat 6
  link : Link
  /-- The ATTN output is asserted (R183). -/
  attn : Bool
  /-- The commands that wait, first in, first out: the model's own field (log 4). -/
  pending : List Instr
deriving DecidableEq, Repr

/-- The part after power-on and its release, taking commands: every record at its reset value (R5, R32,
R49, R76, R103, R124, R154, R156, R166, R175), ATTN released (R183), no command waiting. That the
release has come, that the plant applies 0 to every pin, and the straps are DESIGN CHOICES, unsafe
(logs 1, 2, 3). -/
def State.reset : State where
  inReset := false
  station := StationControl.reset
  passes := Vector.replicate 6 Pass.reset
  tips := Vector.replicate 16 Tip.reset
  chutes := Vector.replicate 8 Chute.reset
  stations := Vector.replicate 4 Station.reset
  breaker := Breaker.reset
  entries := Vector.replicate 24 Entry.reset
  channels := Vector.replicate 8 Channel.reset
  scanner := Scanner.reset
  lines := Vector.replicate 48 Line.reset
  debounce := Vector.replicate 6 Config.debounceReset
  link := Link.reset
  attn := false
  pending := []

end Sys2Proof.Machine
end

