-- ==== Sys2Proof/Machine/Ops.lean ====
section
/-! DEFINITION. Reading and changing one record of the state, the levels functions read from their
lines, the coverage of the clearances, and the event under way: what the blocks hand to each other
inside one event. -/

namespace Sys2Proof.Machine

/-! ## One record of each kind -/

def State.pass (s : State) (p : PassIdx) : Pass := s.passes[p]
def State.tip (s : State) (t : TipIdx) : Tip := s.tips[t]
def State.chute (s : State) (c : ChuteIdx) : Chute := s.chutes[c]
def State.bst (s : State) (k : StationIdx) : Station := s.stations[k]
def State.entry (s : State) (e : EntryIdx) : Entry := s.entries[e]
def State.channel (s : State) (ch : ChannelIdx) : Channel := s.channels[ch]
def State.line (s : State) (i : LineIdx) : Line := s.lines[i]
def State.bankTime (s : State) (b : BankIdx) : Nat := s.debounce[b]

def State.modPass (p : PassIdx) (f : Pass → Pass) (s : State) : State :=
  { s with passes := s.passes.set p (f (s.pass p)) }
def State.modTip (t : TipIdx) (f : Tip → Tip) (s : State) : State :=
  { s with tips := s.tips.set t (f (s.tip t)) }
def State.modChute (c : ChuteIdx) (f : Chute → Chute) (s : State) : State :=
  { s with chutes := s.chutes.set c (f (s.chute c)) }
def State.modBst (k : StationIdx) (f : Station → Station) (s : State) : State :=
  { s with stations := s.stations.set k (f (s.bst k)) }
def State.modEntry (e : EntryIdx) (f : Entry → Entry) (s : State) : State :=
  { s with entries := s.entries.set e (f (s.entry e)) }
def State.modChannel (ch : ChannelIdx) (f : Channel → Channel) (s : State) : State :=
  { s with channels := s.channels.set ch (f (s.channel ch)) }
def State.modLine (i : LineIdx) (f : Line → Line) (s : State) : State :=
  { s with lines := s.lines.set i (f (s.line i)) }
def State.modBreaker (f : Breaker → Breaker) (s : State) : State := { s with breaker := f s.breaker }
def State.modStation (f : StationControl → StationControl) (s : State) : State :=
  { s with station := f s.station }
def State.modLink (f : Link → Link) (s : State) : State := { s with link := f s.link }

def State.mapPasses (f : PassIdx → Pass → Pass) (s : State) : State :=
  { s with passes := Vector.ofFn fun p => f p (s.pass p) }
def State.mapTips (f : TipIdx → Tip → Tip) (s : State) : State :=
  { s with tips := Vector.ofFn fun t => f t (s.tip t) }
def State.mapChutes (f : ChuteIdx → Chute → Chute) (s : State) : State :=
  { s with chutes := Vector.ofFn fun c => f c (s.chute c) }
def State.mapEntries (f : EntryIdx → Entry → Entry) (s : State) : State :=
  { s with entries := Vector.ofFn fun e => f e (s.entry e) }
def State.mapChannels (f : ChannelIdx → Channel → Channel) (s : State) : State :=
  { s with channels := Vector.ofFn fun ch => f ch (s.channel ch) }
def State.mapLines (f : LineIdx → Line → Line) (s : State) : State :=
  { s with lines := Vector.ofFn fun i => f i (s.line i) }

/-! ## The commands that wait next -/

/-- The rows of the command table that are a timer's expiry. -/
def isExpiry : Instr → Bool
  | .debounceExpiry _ => true
  | .grantTimerExpiry _ => true
  | .holdTimerExpiry _ => true
  | .strokeTimerExpiry _ => true
  | .nudgeTimerExpiry _ => true
  | .stalenessExpiry _ => true
  | .windowTimerExpiry _ => true
  | .settleMarkExpiry _ => true
  | .settleTimerExpiry _ => true
  | .travelTimerExpiry => true
  | .breakTimerExpiry => true
  | .returnTimerExpiry => true
  | _ => false

/-- The expiry waits next in the queue, with no command but expiries before it: it has come together with the
event under way, which is taken first (log 4). Which events come together is a DESIGN CHOICE (logs 28, 31). -/
def State.waitsNext (s : State) (expiry : Instr) : Bool := decide (expiry ∈ s.pending.takeWhile isExpiry)

/-! ## Lines as their functions see them (R168, R171) -/

/-- The line bound to a function; a line field of a record (R46, R73, R102, R157). -/
def State.lineOf (s : State) (f : LineFn) : Option LineIdx :=
  (List.finRange 48).find? fun i => decide ((s.line i).binding = some f)

/-- A line is bound to the function. -/
def State.bound (s : State) (f : LineFn) : Bool := (s.lineOf f).isSome

/-- "A function that reads its line's level … reads the debounced level" (R171); a function with no line
bound reads low (log 20). -/
def State.level (s : State) (f : LineFn) : Bool :=
  match s.lineOf f with
  | some i => (s.line i).debounced
  | none => false

/-- The closed limit of a chute is bound and at debounced level high (R82, R129). -/
def State.closedHigh (s : State) (c : ChuteIdx) : Bool := s.level (.closedLimit c)

/-! ## Coverage (R125) -/

/-- The entry covers the tip point, by extent or by mask (R125). -/
def State.coversTip (s : State) (e : EntryIdx) (t : TipIdx) : Bool :=
  let x := s.entry e
  let y := s.tip t
  x.inUse && y.defined && (x.maskTips.getLsbD t ||
    match x.kind with
    | .entry => decide (x.pass = some y.pass ∧ x.low ≤ y.elevation)
    | .service => decide (x.pass = some y.pass)
    | .equipment => false)

/-- The entry covers the chute, by extent or by mask (R125). -/
def State.coversChute (s : State) (e : EntryIdx) (c : ChuteIdx) : Bool :=
  let x := s.entry e
  let y := s.chute c
  x.inUse && y.defined && (x.maskChutes.getLsbD c ||
    match x.kind with
    | .entry => decide (x.pass = some y.pass ∧ y.elevation ≤ x.high)
    | .service => decide (x.pass = some y.pass)
    | .equipment => false)

/-- The entry covers the breaker station through the station's tip point (R125). -/
def State.coversStation (s : State) (e : EntryIdx) (k : StationIdx) : Bool :=
  (s.bst k).defined && s.coversTip e (s.bst k).tip

/-- The entry covers the breaker: it carries the breaker bit (R125). -/
def State.carriesBreaker (s : State) (e : EntryIdx) : Bool :=
  (s.entry e).inUse && (s.entry e).maskBreaker

/-- "An actuator is inhibited while at least one entry in use covers it" (R125). -/
def State.tipCovered (s : State) (t : TipIdx) : Bool := (List.finRange 24).any (s.coversTip · t)
def State.chuteCovered (s : State) (c : ChuteIdx) : Bool := (List.finRange 24).any (s.coversChute · c)
def State.stationCovered (s : State) (k : StationIdx) : Bool :=
  (List.finRange 24).any (s.coversStation · k)
def State.breakerCovered (s : State) : Bool := (List.finRange 24).any s.carriesBreaker

/-- The breaker is travelling to the station or breaking at it (R129). -/
def State.breakerAt (s : State) (k : StationIdx) : Bool :=
  decide (s.breaker.state = .travelling ∨ s.breaker.state = .breaking)
    && s.breaker.current.any fun j => decide (j.station = k)

/-- A chute is safe while CLOSED with its closed limit bound and high (R129). -/
def State.chuteSafe (s : State) (c : ChuteIdx) : Bool :=
  decide ((s.chute c).state = .closed) && s.closedHigh c

/-- "An entry in use is settled when every actuator it covers is in its safe state" (R129). -/
def State.settled (s : State) (e : EntryIdx) : Bool :=
  (List.finRange 8).all (fun c => !s.coversChute e c || s.chuteSafe c)
    && (List.finRange 16).all (fun t => !s.coversTip e t || decide ((s.tip t).state ≠ .granted))
    && (!s.carriesBreaker e || decide (s.breaker.state = .parked))
    && (List.finRange 4).all (fun k => !s.coversStation e k || !s.breakerAt k)

/-- A SERVICE entry on the pass is IN_FORCE (R139). -/
def State.serviceInForce (s : State) (p : PassIdx) : Bool :=
  (List.finRange 24).any fun e =>
    (s.entry e).inUse && decide ((s.entry e).kind = .service ∧ (s.entry e).pass = some p
      ∧ (s.entry e).state = .inForce)

/-- An IN_FORCE entry carries the breaker bit (R100). -/
def State.breakerHeldInForce (s : State) : Bool :=
  (List.finRange 24).any fun e => s.carriesBreaker e && decide ((s.entry e).state = .inForce)

/-! ## The event under way -/

/-- An event while it is being taken: the state so far, and what it has triggered. A trigger is acted on
once, "once all of that event's own changes are complete" (R56, R83, R110, R129): the passes whose
arbiter is triggered, the chutes that make a start try, whether the breaker's choice is triggered, and
the entries whose settling test is to be made. -/
structure Event where
  st : State
  arb : List PassIdx
  tries : List ChuteIdx
  choice : Bool
  touched : List EntryIdx
deriving DecidableEq, Repr

/-- The event has changed and triggered nothing yet. -/
def Event.of (s : State) : Event := ⟨s, [], [], false, []⟩

/-- A change of the state within the event. -/
def Event.update (f : State → State) (ev : Event) : Event := { ev with st := f ev.st }

/-- The pass's arbiter is triggered (R56). -/
def Event.triggerArbiter (p : PassIdx) (ev : Event) : Event := { ev with arb := p :: ev.arb }

/-- The chutes make their start tries if a call is pending (R83). -/
def Event.triggerTries (cs : List ChuteIdx) (ev : Event) : Event := { ev with tries := cs ++ ev.tries }

/-- The breaker's choice is triggered (R110). -/
def Event.triggerChoice (ev : Event) : Event := { ev with choice := true }

/-- The entries' settling tests are to be made, if they are PENDING or LATE (R129). -/
def Event.touch (es : List EntryIdx) (ev : Event) : Event := { ev with touched := es ++ ev.touched }

/-- The settling test is to be made for every entry (R126; R129, the breaker's state changes). -/
def Event.touchAll (ev : Event) : Event := ev.touch (List.finRange 24)

/-- A covered chute's cycle state or closed limit has changed (R79, R129). -/
def Event.touchChute (c : ChuteIdx) (ev : Event) : Event :=
  ev.touch ((List.finRange 24).filter (ev.st.coversChute · c))

/-- A tip point leaves GRANTED (R129). -/
def Event.touchTip (t : TipIdx) (ev : Event) : Event :=
  ev.touch ((List.finRange 24).filter (ev.st.coversTip · t))

end Sys2Proof.Machine
end

