-- ==== Sys2Proof/Machine/PassOps.lean ====
section
/-! DEFINITION. The fill estimate: volumes, the measurement formed and applied, credits, debits, service,
and what a change of a pass hands on (chapter 1). -/

namespace Sys2Proof.Machine

/-- R and D saturate at 16777215 (R8). -/
def satVolume (v : Nat) : Nat := min v Config.volumeMax

/-- The exact sum of R9 below height `h`, for the segments from elevation `base` up. -/
def volumeSum : List Segment → Nat → Nat → Nat
  | [], _, _ => 0
  | g :: gs, base, h =>
      (if base + g.height ≤ h then g.area * g.height
       else if base < h then g.area * (h - base) else 0) + volumeSum gs (base + g.height) h

/-- The volume at height (R9): the sum divided by 100 once and truncated. -/
def volumeAt (profile : List Segment) (h : Nat) : Nat := volumeSum profile 0 h / 100

/-- The capacity of a profile (R3). -/
def capacityOf (profile : List Segment) : Nat :=
  (profile.map fun g => g.area * g.height).sum / 100

/-- The sum of the segment heights (R2, R159). -/
def profileHeight (profile : List Segment) : Nat := (profile.map Segment.height).sum

/-- The blend of R12: the correction is the difference M − E over 2 to the k, truncated toward zero, and
the result is clamped to 0..capacity. -/
def blend (k capacity e m : Nat) : Nat :=
  if e ≤ m then min (e + (m - e) / 2 ^ k) capacity else min (e - (e - m) / 2 ^ k) capacity

/-- The draw is confirmed: twice the drop R − M, a signed value, is at least D (R13). -/
def drawConfirmed (q : Pass) (m : Nat) : Bool := decide ((q.d : Int) ≤ 2 * ((q.r : Int) - m))

/-- The pass a measurement makes of a RUNNING pass (R12, R13, R14). -/
def Pass.measureRunning (m : Nat) (q : Pass) : Pass :=
  let b := blend q.blendShift q.capacity q.e m
  if q.d = 0 then { q with e := b, r := m }
  else if drawConfirmed q m then { q with e := b, d := 0, r := m }
  else if q.d < q.hangThreshold then { q with e := b }
  else { q with e := m, r := m, d := 0, state := .hung, conds := raise .hang q.conds }

/-- The pass a measurement makes of a HUNG pass (R15): the release level is R − hang threshold. -/
def Pass.measureHung (m : Nat) (q : Pass) : Pass :=
  if (m : Int) ≤ (q.r : Int) - q.hangThreshold then
    { q with e := m, r := m, state := .running, conds := raise .released q.conds }
  else { q with e := m }

/-- The pass a measurement makes of an OUT_OF_SERVICE pass (R16). -/
def Pass.measureService (m : Nat) (q : Pass) : Pass :=
  if q.known then { q with e := blend q.blendShift q.capacity q.e m }
  else { q with e := m, r := m, known := true }

/-- The pass a measurement makes, by its state (R11 to R16). -/
def Pass.measure (m : Nat) (q : Pass) : Pass :=
  match q.state with
  | .unknown => { q with e := m, r := m, d := 0, known := true, state := .running }
  | .running => q.measureRunning m
  | .hung => q.measureHung m
  | .outOfService => q.measureService m

/-- "A measurement that leaves E unchanged still counts as a change of E … only if it also changes R, D
or the state" (R26). -/
def Pass.moved (before after : Pass) : Bool :=
  decide (before.e ≠ after.e ∨ before.r ≠ after.r ∨ before.d ≠ after.d ∨ before.state ≠ after.state)

/-- A tip credit of a load (R17); dropped by an undefined pass (R28). -/
def Pass.credit (load : Nat) (q : Pass) : Pass :=
  if q.defined && q.known then
    { q with
      e := min (q.e + load) q.capacity
      r := if q.state = .running then satVolume (q.r + load) else q.r
      conds := raiseIf (decide (q.capacity < q.e + load)) .overtop q.conds }
  else q

/-- A draw debit of a cycle volume (R18); dropped by an undefined pass (R28). -/
def Pass.debit (volume : Nat) (q : Pass) : Pass :=
  if q.defined && q.known then
    { q with
      e := q.e - volume
      d := if q.state = .running then satVolume (q.d + volume) else q.d
      conds := raiseIf (decide (q.e < volume)) .floor q.conds }
  else q

/-- SET FILL (R19). -/
def Pass.setFill (volume : Nat) (q : Pass) : Pass :=
  let v := min volume q.capacity
  { q with e := v, r := v, d := 0, known := true,
           state := if q.state = .unknown then .running else q.state }

/-- The start of service (R21). -/
def Pass.enterService (q : Pass) : Pass := { q with state := .outOfService, d := 0 }

/-- The end of service (R22, R141). -/
def Pass.leaveService (q : Pass) : Pass :=
  if q.amended then { q with state := .unknown, known := false, d := 0, amended := false }
  else if q.known then { q with state := .running, r := q.e, d := 0, amended := false }
  else { q with state := .unknown, amended := false }

/-- What START makes of a pass (R23). -/
def Pass.start (q : Pass) : Pass :=
  if q.defined && decide (q.state ≠ .outOfService) then
    if q.known then
      { q with state := .running, r := if q.state = .running then q.r else q.e, d := 0 }
    else { q with state := .unknown }
  else q

/-- The defined chutes of a pass. -/
def State.chutesOf (s : State) (p : PassIdx) : List ChuteIdx :=
  (List.finRange 8).filter fun c => (s.chute c).defined && decide ((s.chute c).pass = p)

/-- A change of E, or an entry into RUNNING, is handed on: the pass arbiter is triggered and each chute
of the pass with a pending call re-tries (R26). -/
def Event.handOn (p : PassIdx) (ev : Event) : Event :=
  (ev.triggerArbiter p).triggerTries (ev.st.chutesOf p)

/-- A change of one pass by a credit or a debit, handed on where E changes (R17, R18, R26; log 18). -/
def Event.changeFill (p : PassIdx) (f : Pass → Pass) (ev : Event) : Event :=
  let q := ev.st.pass p
  if (f q).e = q.e then ev.update (State.modPass p f) else (ev.update (State.modPass p f)).handOn p

/-- A pass enters RUNNING or UNKNOWN from service, and hands on an entry into RUNNING (R22, R26). -/
def Event.endService (p : PassIdx) (ev : Event) : Event :=
  let ev' := ev.update (State.modPass p Pass.leaveService)
  if (ev'.st.pass p).state = .running then ev'.handOn p else ev'

end Sys2Proof.Machine
end

