-- ==== Sys2Proof/Machine/TipOps.lean ====
section
/-! DEFINITION. Calls, the waiting list, the pass's grant arbiter, grants and their ends (chapter 3). -/

namespace Sys2Proof.Machine

/-- The Breaker Arbiter holds a job for the station, in its list or as its current job (R58). -/
def State.jobHeld (s : State) (k : StationIdx) : Bool :=
  s.breaker.jobs.any (fun j => decide (j.station = k))
    || s.breaker.current.any (fun j => decide (j.station = k))

/-- The tip point's grizzly is blocked (R58). -/
def State.blocked (s : State) (t : TipIdx) : Bool :=
  match (s.tip t).grizzly with
  | none => false
  | some k => s.level (.oversize t) || s.jobHeld k

/-- A WAITING tip point is eligible to be offered room (R57). An undefined record takes part in nothing
(overview, "Records, Definition and Conditions"). -/
def State.eligible (s : State) (t : TipIdx) : Bool :=
  (s.tip t).defined && decide (s.station.mode = .run)
    && decide ((s.pass (s.tip t).pass).state = .running)
    && !s.tipCovered t && !s.blocked t

/-- Of two eligible calls in list order, the higher level, and the earlier among equals (R59). -/
def State.betterCall (s : State) (best : Option TipIdx) (t : TipIdx) : Option TipIdx :=
  match best with
  | none => some t
  | some b => if (s.tip b).level < (s.tip t).level then some t else some b

/-- The tip point the arbiter chooses for an offer (R59). -/
def State.chooseCall (s : State) (p : PassIdx) : Option TipIdx :=
  ((s.pass p).waiting.filter s.eligible).foldl s.betterCall none

/-- The room test of an offer to a tip point on a pass (R25). -/
def State.roomTest (s : State) (p : PassIdx) (t : TipIdx) : Bool :=
  decide ((s.pass p).e + (s.pass p).reserved + (s.tip t).load ≤ (s.pass p).tipLimit)

/-- A grant (R60): the tip point leaves the waiting list, room is reserved, the grant timer starts. -/
def State.grant (p : PassIdx) (t : TipIdx) (s : State) : State :=
  (s.modPass p fun q =>
      { q with reserved := q.reserved + (s.tip t).load, waiting := q.waiting.filter (· ≠ t) }).modTip t
    fun x => { x with state := .granted, timer := some x.timeout }

/-- The offers of one run, at most `fuel` of them granted (R59). -/
def arbiterLoop : Nat → PassIdx → State → State
  | 0, _, s => s
  | fuel + 1, p, s =>
      match s.chooseCall p with
      | none => s
      | some t => if s.roomTest p t then arbiterLoop fuel p (s.grant p t) else s

/-- One run of the pass's arbiter (R56, R59): each grant takes one member off the list, so the list's
length bounds the offers. -/
def State.runArbiter (p : PassIdx) (s : State) : State := arbiterLoop (s.pass p).waiting.length p s

/-- A call makes an IDLE tip point WAITING at the tail of its pass's list and triggers the arbiter (R51,
R52). -/
def Event.placeCall (t : TipIdx) (source : CallSource) (ev : Event) : Event :=
  let p := (ev.st.tip t).pass
  ((ev.update (State.modTip t fun x => { x with state := .waiting, source := source })).update
    (State.modPass p fun q => { q with waiting := q.waiting ++ [t] })).triggerArbiter p

/-- A call is withdrawn: the tip point leaves its pass's list and becomes IDLE; the arbiter is not
triggered (R53, R54). -/
def State.withdrawCall (t : TipIdx) (s : State) : State :=
  (s.modPass (s.tip t).pass fun q => { q with waiting := q.waiting.filter (· ≠ t) }).modTip t
    fun x => { x with state := .idle }

/-- The end of a grant, common to the lapse, the tip and the revocation: the timer stops, the reserved
volume falls by the load, the tip point leaves GRANTED for `state`, its entries see it, and the arbiter
is triggered for the release (R24, R56, R62, R63, R67, R129). -/
def Event.endGrant (t : TipIdx) (state : TipState) (ev : Event) : Event :=
  let x := ev.st.tip t
  (((ev.update (State.modTip t fun x => { x with state := state, timer := none })).update
    (State.modPass x.pass fun q => { q with reserved := q.reserved - x.load })).touchTip t).triggerArbiter
    x.pass

/-- The call is still present: its source is LINK, or the call line's debounced level is high (R67). -/
def State.callPresent (s : State) (t : TipIdx) : Bool :=
  decide ((s.tip t).source = .link) || s.level (.call t)

/-- The revocation of a GRANTED tip point (R67). -/
def Event.revoke (t : TipIdx) (ev : Event) : Event :=
  if (ev.st.tip t).state = .granted then
    if ev.st.callPresent t then
      (ev.endGrant t .waiting).update
        (State.modPass (ev.st.tip t).pass fun q => { q with waiting := q.waiting ++ [t] })
    else ev.endGrant t .idle
  else ev

/-- Several tip points are revoked "in ascending order of tip point index" (R66). -/
def Event.revokeWhere (which : TipIdx → Bool) (ev : Event) : Event :=
  ((List.finRange 16).filter which).foldl (fun ev t => ev.revoke t) ev

/-- The grant lapses at the grant timer's expiry (R62). -/
def Event.lapse (t : TipIdx) (ev : Event) : Event :=
  (ev.endGrant t .idle).update (State.modTip t fun x => { x with conds := raise .lapsed x.conds })

end Sys2Proof.Machine
end

