-- ==== Sys2Proof/Machine/ChuteOps.lean ====
section
/-! DEFINITION. The gate cycle, its debits and aborts, the start try, and the nudge proof (chapters 4
and 7). -/

namespace Sys2Proof.Machine

/-- A chute is proof due (R73). -/
def Chute.proofDue (x : Chute) : Bool := decide (x.interval ≠ 0 ∧ x.interval ≤ x.cycles)

/-- The change of the count at a debit (R87). -/
def Chute.countDown (x : Chute) : Chute :=
  if x.count = Config.openOrder then x
  else { x with count := x.count - 1, conds := raiseIf (decide (x.count = 1)) .orderDone x.conds }

/-- Cycles since proof rises by 1 at a debit; PROOF_DUE is raised if the chute becomes proof due (R89). -/
def Chute.cycleDone (x : Chute) : Chute :=
  let y := { x with cycles := min (x.cycles + 1) Config.wordMax }
  { y with conds := raiseIf (!x.proofDue && y.proofDue) .proofDue y.conds }

/-- The debit of a draw: the count, cycles since proof, and the volume handed to the pass (R86, R93). -/
def Event.takeDebit (c : ChuteIdx) (ev : Event) : Event :=
  let x := ev.st.chute c
  (ev.update (State.modChute c fun x => x.countDown.cycleDone)).changeFill x.pass (Pass.debit x.volume)

/-- The gate is sent CLOSING with the stroke timer started (R86, R90, R93). Its expiry is its own (R91; log 31). -/
def Chute.close (x : Chute) : Chute :=
  { x with state := .closing, holdTimer := none, strokeTimer := some x.strokeTime, staleExpiry := false }

/-- The stroke timer runs, and an expiry of it waits next in the queue (log 31). -/
def State.strokeExpiryWaits (s : State) (c : ChuteIdx) : Bool :=
  (s.chute c).strokeTimer.isSome && s.waitsNext (.strokeTimerExpiry c)

/-- A nudge proof is finalised in CLOSED with its pending result (R149). -/
def Chute.finalise (x : Chute) (result : NudgeResult) : Chute :=
  { x with
    state := .closed, strokeTimer := none, nudgeTimer := none, pendingProof := none
    lastProof := match result with
      | .pass => .pass
      | .fail => .fail
      | .aborted => .aborted
    proofHold := match result with
      | .aborted => x.proofHold
      | .pass => true
      | .fail => true
    conds := raise .proofDone x.conds }

/-- Finalising within an event: the chute makes a start try, and the entries covering it see it CLOSED
(R149). A pending result is present in NUDGING once settled and in RECLOSING (section 7.1); FAIL stands
in for an absent one, which no run reaches. -/
def Event.finalise (c : ChuteIdx) (result : NudgeResult) (ev : Event) : Event :=
  ((ev.update (State.modChute c (·.finalise result))).touchChute c).triggerTries [c]

/-- The closed limit's fall has reached the part together with the event under way, which is taken first: the
expiry that delivers it waits next in the queue (log 4), with its timer running and its raw level low (R170). Which
falls come together with an abort is a DESIGN CHOICE, unsafe (R150; log 28). -/
def State.limitFallWaits (s : State) (c : ChuteIdx) : Bool :=
  match s.lineOf (.closedLimit c) with
  | some i => s.waitsNext (.debounceExpiry i) && (s.line i).timer.isSome && !(s.line i).raw
  | none => false

/-- The abort of a gate cycle (R93) or of a nudge proof (R150). The arbiter of a pass "touched … by a debit from an
aborted cycle runs once", whether or not the debit changes E (R128 step 7, R162 step 5). A NUDGING gate recloses or
is CLOSED at once by its closed limit's debounced level (R150 steps 2 and 3, R171), but where the fall has reached
the part together with the abort: then it recloses, and the fall finds it RECLOSING (R150's table, first row; log
28). An OPENING gate's stroke timer restarts, and an expiry of it that waits is of the timer as it ran (R94, third
row; log 31). -/
def Event.abortChute (c : ChuteIdx) (ev : Event) : Event :=
  match (ev.st.chute c).state with
  | .opening =>
      (ev.update (State.modChute c fun x =>
        { x.close with staleExpiry := ev.st.strokeExpiryWaits c })).touchChute c
  | .holding =>
      (((ev.update (State.modChute c Chute.close)).touchChute c).takeDebit c).triggerArbiter (ev.st.chute c).pass
  | .nudging =>
      if ev.st.closedHigh c && !ev.st.limitFallWaits c then ev.finalise c .aborted
      else (ev.update (State.modChute c fun x =>
        { x with state := .reclosing, nudgeTimer := none, pendingProof := some .aborted,
                 strokeTimer := some x.strokeTime })).touchChute c
  | .closed => ev
  | .closing => ev
  | .reclosing => ev

/-- The aborts of one event, each independent of the others (R93). -/
def Event.abortWhere (which : ChuteIdx → Bool) (ev : Event) : Event :=
  ((List.finRange 8).filter which).foldl (fun ev c => ev.abortChute c) ev

/-- The first six tests of a start try, whose failure raises nothing (R82). -/
def State.startReady (s : State) (c : ChuteIdx) : Bool :=
  s.chuteSafe c
    && !(s.chute c).held
    && !(s.chute c).faultHold && !(s.chute c).proofHold
    && decide (s.station.mode = .run)
    && decide ((s.pass (s.chute c).pass).state = .running)
    && !s.chuteCovered c

/-- The start of a cycle (R84). -/
def Chute.startCycle (x : Chute) : Chute :=
  { x with
    callPending := false, emptyReported := false, cushionReported := false, reachedOpen := false
    state := .opening, strokeTimer := some x.strokeTime }

/-- Test 7 fails: ORDER_EMPTY, once per call (R82). -/
def Chute.reportEmpty (x : Chute) : Chute :=
  { x with emptyReported := true, conds := raiseIf (!x.emptyReported) .orderEmpty x.conds }

/-- Test 8 fails: CUSHION_LOW, once per call (R82). -/
def Chute.reportCushion (x : Chute) : Chute :=
  { x with cushionReported := true, conds := raiseIf (!x.cushionReported) .cushionLow x.conds }

/-- A start try of a chute with a call pending (R82, R84). -/
def State.startTry (c : ChuteIdx) (s : State) : State :=
  let x := s.chute c
  let q := s.pass x.pass
  if !x.defined || !x.callPending || !s.startReady c then s
  else if x.count = 0 then s.modChute c Chute.reportEmpty
  else if q.e < q.cushion + x.volume then s.modChute c Chute.reportCushion
  else s.modChute c Chute.startCycle

end Sys2Proof.Machine
end

