-- ==== Sys2Proof/Machine/ScanOps.lean ====
section
/-! DEFINITION. The Level Scanner: the conversion order, the judgement of a reading, the measurement it
hands to the pass, and the loss of use of a channel (chapter 2, R10). -/

namespace Sys2Proof.Machine

/-- The active list is the BREAKING list while the breaker is BREAKING (R35). -/
def State.enabled (s : State) (ch : ChannelIdx) : Bool :=
  (s.channel ch).defined &&
    (if s.breaker.state = .breaking then (s.channel ch).inBreaking else (s.channel ch).inQuiet)

/-- The channel's flag for the active list, whether or not it is defined (R31, R33). -/
def State.listed (s : State) (ch : ChannelIdx) : Bool :=
  if s.breaker.state = .breaking then (s.channel ch).inBreaking else (s.channel ch).inQuiet

/-- "The conversion order is the fixed cycle 0, 4, 1, 5, 2, 6, 3, 7" (R34). -/
def scanCycle : List ChannelIdx := [0, 4, 1, 5, 2, 6, 3, 7]

/-- The cycle walked forward from the channel after a position, ending with the position itself (R34). -/
def walkFrom (position : ChannelIdx) : List ChannelIdx :=
  let n := scanCycle.idxOf position + 1
  scanCycle.drop n ++ scanCycle.take n

/-- The choice of the next conversion (R34). -/
def State.chooseConversion (s : State) : State :=
  match (walkFrom s.scanner.position).find? s.enabled with
  | some ch => { s with scanner := ⟨ch, true⟩ }
  | none => { s with scanner := ⟨s.scanner.position, false⟩ }

/-- An idle scanner makes the choice; a converting one is not affected (R34). -/
def State.wakeScanner (s : State) : State :=
  if s.scanner.converting then s else s.chooseConversion

/-- The reading state is one a pass can use. -/
def ReadingState.live : ReadingState → Bool
  | .valid => true
  | .clamped => true
  | .none => false
  | .fault => false
  | .stale => false

/-- The channel is usable for its pass (R29). -/
def Channel.usable (x : Channel) : Bool :=
  x.defined && x.assignment.isSome && x.state.live && decide (x.proof = .idle)

/-- The channel is usable for this pass (R29). -/
def State.usableFor (s : State) (p : PassIdx) (ch : ChannelIdx) : Bool :=
  (s.channel ch).usable && decide ((s.channel ch).assignment = some p)

/-- A channel has stopped being usable for a pass: BLIND if the pass is RUNNING and no channel is usable
for it (R41). -/
def State.loseUse (p : PassIdx) (s : State) : State :=
  if (s.pass p).state = .running ∧ (List.finRange 8).all (fun ch => !s.usableFor p ch) then
    s.modPass p fun q => { q with conds := raise .blind q.conds }
  else s

/-- A change of one channel, and the loss handed to R41 if the channel was usable for a pass before it
and is not after it. -/
def State.changeChannel (ch : ChannelIdx) (f : Channel → Channel) (s : State) : State :=
  let x := s.channel ch
  let s' := s.modChannel ch f
  match x.assignment with
  | some p => if s.usableFor p ch && !s'.usableFor p ch then s'.loseUse p else s'
  | none => s'

/-- The judgement of a reading (R37). -/
def judge (r : Nat) : ReadingState :=
  if r < 360 then .fault
  else if r < 400 then .clamped
  else if r ≤ 2000 then .valid
  else if r ≤ 2100 then .clamped
  else .fault

/-- The clamped reading of a usable reading (R37). -/
def clampReading (r : Nat) : Nat := clamp 400 2000 r

/-- The distance of a usable reading (R38). -/
def Channel.distance (x : Channel) : Nat := x.zeroAt + (clampReading x.reading - 400) * x.span / 1600

/-- The height of the channel's last reading over a pass of this height (R38). -/
def Channel.heightIn (x : Channel) (height : Nat) : Nat := height - x.distance

/-- The pass's other assigned channel, if its last reading counts (R10). -/
def State.otherChannel (s : State) (p : PassIdx) (ch : ChannelIdx) : Option ChannelIdx :=
  (List.finRange 8).find? fun o => decide (o ≠ ch) && s.usableFor p o

/-- The volume a channel's last reading gives for a pass (R10, R38). -/
def State.channelVolume (s : State) (p : PassIdx) (ch : ChannelIdx) : Nat :=
  volumeAt (s.pass p).profile ((s.channel ch).heightIn (s.pass p).height)

/-- The measurement of R10 and whether the two channels disagree. -/
def formMeasurement (limit v1 : Nat) (v2 : Option Nat) : Nat × Bool :=
  match v2 with
  | none => (v1, false)
  | some v2 =>
      if (v1 - v2) + (v2 - v1) ≤ limit then ((v1 + v2) / 2, false) else (max v1 v2, true)

/-- A measurement applied to a pass, with what it hands on: the revocations and aborts of a hang (R14),
then the triggers of R26. -/
def Event.applyMeasurement (p : PassIdx) (m : Nat) (ev : Event) : Event :=
  let q := ev.st.pass p
  let ev1 := ev.update (State.modPass p (Pass.measure m))
  let q1 := ev1.st.pass p
  let ev2 :=
    if q.state = .running ∧ q1.state = .hung then
      (ev1.revokeWhere fun t => decide ((ev.st.tip t).pass = p ∧ (ev.st.tip t).state = .granted)).abortWhere
        fun c => decide ((ev.st.chute c).pass = p)
    else ev1
  if q.moved q1 then ev2.handOn p else ev2

/-- A usable conversion handed to its pass: the pass forms and applies a measurement at once (R10, R39);
an undefined pass drops it (R28). -/
def Event.handMeasurement (p : PassIdx) (ch : ChannelIdx) (ev : Event) : Event :=
  let s := ev.st
  if (s.pass p).defined then
    let (m, disagree) := formMeasurement (s.pass p).disagreement (s.channelVolume p ch)
      ((s.otherChannel p ch).map (s.channelVolume p))
    (ev.update (State.modPass p fun q => { q with conds := raiseIf disagree .disagree q.conds })).applyMeasurement
      p m
  else ev

/-- A test-current proof reaches its result (R152). -/
def Channel.proofResult (result : ChannelResult) (x : Channel) : Channel :=
  { x with proof := .held, lastProof := result, windowTimer := none, settleMark := none,
           conds := raise .proofDone x.conds }

/-- A kept conversion is stored and judged (R37). -/
def Channel.keep (r : Nat) (x : Channel) : Channel :=
  { x with reading := r, age := 0, state := judge r
           conds := raiseIf (decide (judge r = .fault ∧ x.state ≠ .fault)) .sensorFault x.conds }

/-- The Proof Unit takes a kept conversion of a PROVING channel: PASS for a reading in 1160–1240 once the
settle mark has expired, and nothing otherwise (R152). -/
def Channel.offered (r : Nat) (x : Channel) : Channel :=
  if x.proof = .proving ∧ x.settleMark = none ∧ 1160 ≤ r ∧ r ≤ 1240 then x.proofResult .pass else x

/-- A conversion with reading `r` is kept (R37, R39, R42). -/
def Event.keepConversion (ch : ChannelIdx) (r : Nat) (ev : Event) : Event :=
  let ev1 := ev.update (State.changeChannel ch (Channel.keep r))
  let x := ev1.st.channel ch
  match x.proof, x.assignment with
  | .idle, some p => if x.state.live then ev1.handMeasurement p ch else ev1
  | .idle, none => ev1
  | .proving, _ => ev1.update (State.modChannel ch (Channel.offered r))
  | .held, _ => ev1

/-- A staleness timer's expiry: the reading becomes STALE and a loss of use is handed to R41 (R40). -/
def State.makeStale (ch : ChannelIdx) (s : State) : State :=
  s.changeChannel ch fun x => { x with state := .stale }

/-- The channel's staleness timer runs and its age has reached the limit (R40). -/
def State.staleDue (s : State) (limit : Nat) (p : PassIdx) (ch : ChannelIdx) : Bool :=
  decide ((s.channel ch).assignment = some p) && (s.channel ch).state.live
    && decide (limit ≤ (s.channel ch).age)

end Sys2Proof.Machine
end

