-- ==== Sys2Proof/Machine/BreakerOps.lean ====
section
/-! DEFINITION. The Breaker Arbiter: jobs, the choice among them, the handshake's moves and the ends of a
job (chapter 5). -/

namespace Sys2Proof.Machine

/-- The effective floor (R107). -/
def State.effectiveFloor (s : State) : Nat :=
  if s.station.mode = .run then s.breaker.floor else Config.floorMax

/-- A listed job is startable (R109). -/
def State.startable (s : State) (j : Job) : Bool :=
  decide (s.station.mode = .run) && decide (s.effectiveFloor < j.level)
    && !s.breakerCovered && !s.stationCovered j.station

/-- The second job is chosen before the first: the higher level, then the higher group of its station,
then the lower station index (R110). -/
def State.jobBefore (s : State) (a b : Job) : Bool :=
  decide (a.level < b.level ∨ (a.level = b.level ∧
    ((s.bst a.station).group < (s.bst b.station).group ∨
      ((s.bst a.station).group = (s.bst b.station).group ∧ b.station < a.station))))

def State.betterJob (s : State) (best : Option Job) (j : Job) : Option Job :=
  match best with
  | none => some j
  | some b => if s.jobBefore b j then some j else some b

/-- The job the choice finds (R110). -/
def State.pickJob (s : State) : Option Job :=
  (s.breaker.jobs.filter s.startable).foldl s.betterJob none

/-- A change of the breaker within an event. Entering or leaving BREAKING switches the active list, which
an idle scanner takes at once (R35); the Clearance Table sees the new state and station (R112, R114,
R117). -/
def Event.moveBreaker (f : Breaker → Breaker) (ev : Event) : Event :=
  let s := ev.st.modBreaker f
  let switched := decide ((ev.st.breaker.state = .breaking) ≠ (s.breaker.state = .breaking))
  { ev with st := if switched then s.wakeScanner else s }.touchAll

/-- A job is removed from the list and becomes current; the breaker is TRAVELLING to its station (R112,
R114). -/
def Breaker.take (j : Job) (b : Breaker) : Breaker :=
  { b with
    state := .travelling, current := some j, jobs := b.jobs.erase j, lastCode := j.station
    travelTimer := some b.travelLimit, breakTimer := none }

/-- The breaker has no current job, goes home, and is timed with the travel limit (R114 step 5). -/
def Breaker.sendHome (b : Breaker) : Breaker :=
  { b with
    state := .returning, current := none, travelTimer := none, breakTimer := none
    returnTimer := some b.travelLimit }

/-- The choice of a PARKED breaker: a job found is started (R110, R112). While the breaker is TRAVELLING,
BREAKING or RETURNING no choice is made. A start unsettles and settles no entry: the job's station and
the breaker are covered by none. -/
def State.chooseJob (s : State) : State :=
  if s.breaker.state = .parked then
    match s.pickJob with
    | some j => s.modBreaker (Breaker.take j)
    | none => s
  else s

/-- The blocking of a tip point's grizzly is judged: if neither cause holds, its inhibition ends and its
pass's arbiter is triggered (R68). -/
def Event.judgeBlocking (t : TipIdx) (ev : Event) : Event :=
  if ev.st.blocked t then ev else ev.triggerArbiter (ev.st.tip t).pass

/-- An ended job's station is reported: the tip point whose grizzly station it is has its blocking judged
(R108). -/
def Event.reportEnd (k : StationIdx) (ev : Event) : Event :=
  match (List.finRange 16).find? fun t =>
      (ev.st.tip t).defined && decide ((ev.st.tip t).grizzly = some k) with
  | some t => ev.judgeBlocking t
  | none => ev

/-- The arrival counter advances by 1, wrapping from 65535 to 0 (R105). -/
def nextArrival (n : Nat) : Nat := if n < Config.wordMax then n + 1 else 0

/-- A new job at the tail of the list, with the arrival counter's value (R105). -/
def Breaker.list (k : StationIdx) (level : Nat) (origin : Origin) (b : Breaker) : Breaker :=
  { b with jobs := b.jobs ++ [⟨k, level, origin, b.counter⟩], counter := nextArrival b.counter }

/-- The listed job for the station takes the higher of the two levels, and keeps all else (R105). -/
def Breaker.merge (k : StationIdx) (level : Nat) (b : Breaker) : Breaker :=
  { b with jobs := b.jobs.map fun j => if j.station = k then { j with level := max j.level level } else j }

/-- What the arbiter did with an arriving job (R106). -/
inductive Disposition where
  | listed
  | merged
  | current
deriving DecidableEq, Repr

/-- How an arriving job is taken (R105, R106). -/
def State.disposition (s : State) (k : StationIdx) : Disposition :=
  if s.breaker.current.any (fun j => decide (j.station = k)) then .current
  else if s.breaker.jobs.any (fun j => decide (j.station = k)) then .merged
  else .listed

/-- A job arrives (R105). One that lists or merges is a trigger for the choice. -/
def Event.arrive (k : StationIdx) (level : Nat) (origin : Origin) (ev : Event) : Event :=
  match ev.st.disposition k with
  | .current => ev
  | .merged => (ev.update (State.modBreaker (Breaker.merge k level))).triggerChoice
  | .listed => (ev.update (State.modBreaker (Breaker.list k level origin))).triggerChoice

/-- The breaker chains to the job the choice found, or goes home (R114 steps 4 and 5). -/
def Event.chainOrReturn (found : Option Job) (ev : Event) : Event :=
  match found with
  | some j => ev.moveBreaker (Breaker.take j)
  | none => ev.moveBreaker Breaker.sendHome

/-- A grizzly-clear rising edge in BREAKING finishes the current job (R114). -/
def Event.finishBreak (j : Job) (ev : Event) : Event :=
  let ev1 := ev.update (State.modBreaker fun b => { b with breakTimer := none, current := none })
  let found := ev1.st.pickJob
  let ev2 :=
    if ev1.st.level (.oversize (ev1.st.bst j.station).tip) then
      ev1.update (State.modBreaker (Breaker.list j.station j.level .oversize))
    else ev1.reportEnd j.station
  ev2.chainOrReturn found

/-- The break timer's expiry in BREAKING abandons the current job as unfinished (R115). -/
def Event.failBreak (j : Job) (ev : Event) : Event :=
  let ev1 := ev.update (State.modBst j.station fun x =>
    { x with retryHeld := true, conds := raise .unfinished x.conds })
  let ev2 := (ev1.update (State.modBreaker fun b =>
    { b with breakTimer := none, current := none })).reportEnd j.station
  ev2.chainOrReturn ev2.st.pickJob

/-- The travel timer's expiry in TRAVELLING abandons the current job, with no choice (R116). -/
def Event.failTravel (j : Job) (ev : Event) : Event :=
  ((ev.update (State.modBst j.station fun x =>
    { x with conds := raise .travelTimeout x.conds })).moveBreaker Breaker.sendHome).reportEnd j.station

/-- A posting aborts the breaker's work: the job is re-listed at the head (R119). -/
def Event.abortBreaker (ev : Event) : Event :=
  ev.moveBreaker fun b => { b.sendHome with jobs := b.current.toList ++ b.jobs }

/-- The stations of the jobs a halt ends, in ascending order (R120). -/
def State.heldStations (s : State) : List StationIdx := (List.finRange 4).filter s.jobHeld

/-- A halt stops all breaker work (R120): a working breaker goes home, every job ends, and the ended jobs
are reported in ascending order of station index. -/
def Event.haltBreaker (ev : Event) : Event :=
  let ended := ev.st.heldStations
  let ev1 :=
    if ev.st.breaker.state = .travelling ∨ ev.st.breaker.state = .breaking then
      ev.moveBreaker fun b => { b.sendHome with jobs := [] }
    else ev.update (State.modBreaker fun b => { b with jobs := [] })
  ended.foldl (fun ev k => ev.reportEnd k) ev1

end Sys2Proof.Machine
end

