-- ==== Sys2Proof/Machine/LineOps.lean ====
section
/-! DEFINITION. The field lines: what drives a pin, the debounce, and the bindings a DEFINE makes
(chapter 9). -/

namespace Sys2Proof.Machine

/-- The role is an output role (section 9.1). -/
def LineFn.isOutput : LineFn → Bool
  | .lamp _ => true
  | .openValve _ => true
  | .closeValve _ => true
  | .go => true
  | .code0 => true
  | .code1 => true
  | .test _ => true
  | .call _ => false
  | .tipSensor _ => false
  | .oversize _ => false
  | .openLimit _ => false
  | .closedLimit _ => false
  | .loadCall _ => false
  | .inPosition => false
  | .grizzlyClear => false
  | .parked => false
  | .estop => false

/-- The open valve's command by the cycle state (R78). -/
def CycleState.opens : CycleState → Bool
  | .opening => true
  | .nudging => true
  | .closed => false
  | .holding => false
  | .closing => false
  | .reclosing => false

/-- The close valve's command by the cycle state and the closed limit's level (R78). -/
def CycleState.closes (closedHigh : Bool) : CycleState → Bool
  | .closed => !closedHigh
  | .closing => true
  | .reclosing => true
  | .opening => false
  | .holding => false
  | .nudging => false

/-- The breaker's go command by its state (R111). -/
def BreakerState.goes : BreakerState → Bool
  | .travelling => true
  | .breaking => true
  | .parked => false
  | .returning => false

/-- The station code on the code lines: the current job's station while the breaker is TRAVELLING or
BREAKING, and the last code otherwise (R111). -/
def Breaker.code (b : Breaker) : StationIdx :=
  if b.state.goes then (b.current.map Job.station).getD b.lastCode else b.lastCode

/-- What a function commands its output, with the forcing rules of its owner (R61, R78, R111, R151,
R155); an input role commands nothing. -/
def State.command (s : State) : LineFn → Bool
  | .lamp t => decide ((s.tip t).state = .granted)
  | .openValve c => decide (s.station.mode ≠ .setup) && (s.chute c).state.opens
  | .closeValve c => decide (s.station.mode ≠ .setup) && (s.chute c).state.closes (s.closedHigh c)
  | .go => decide (s.station.mode ≠ .setup) && s.breaker.state.goes
  | .code0 => decide (s.station.mode ≠ .setup) && s.breaker.code.val.testBit 0
  | .code1 => decide (s.station.mode ≠ .setup) && s.breaker.code.val.testBit 1
  | .test ch => decide ((s.channel ch).proof = .proving)
  | .call _ => false
  | .tipSensor _ => false
  | .oversize _ => false
  | .openLimit _ => false
  | .closedLimit _ => false
  | .loadCall _ => false
  | .inPosition => false
  | .grizzlyClear => false
  | .parked => false
  | .estop => false

/-- Bank F, lines 40–47, is inputs only (R167). -/
def inBankF (i : LineIdx) : Bool := decide (40 ≤ i.val)

/-- The bank of a line (overview, "Index Ranges"). -/
def bankOf (i : LineIdx) : BankIdx := ⟨i.val / 8, by omega⟩

/-- What the part drives the pin with, if it drives it (R169). -/
def State.drive (s : State) (i : LineIdx) : Option Bool :=
  let l := s.line i
  if inBankF i then none
  else match l.binding with
    | some f =>
        if f.isOutput then some (s.command f)
        else if l.direction = .output then some l.latch else none
    | none => if l.direction = .output then some l.latch else none

/-- The raw level of a line: the level driven, or the level the plant applies (R169). -/
def State.pinLevel (s : State) (i : LineIdx) : Bool := (s.drive i).getD (s.line i).plant

/-- The debounce timer after a look at the raw level: it starts when the raw level comes to differ from
the debounced level, and stops when it returns (R170). While the reset line is held the timers stand
stopped (R166). -/
def debounceTimer (inReset raw debounced : Bool) (time : Nat) (timer : Timer) : Timer :=
  if inReset || raw == debounced then none else some (timer.getD time)

/-- A line with its raw level as the pin now stands, and its debounce timer to match (R169, R170). -/
def State.refreshLine (s : State) (i : LineIdx) (l : Line) : Line :=
  { l with
    raw := s.pinLevel i
    timer := debounceTimer s.inReset (s.pinLevel i) l.debounced (s.bankTime (bankOf i)) l.timer }

/-- Every line is looked at, at the end of each event that could change what drives it. -/
def State.refreshLines (s : State) : State := s.mapLines s.refreshLine

/-! ## Binding (R168) -/

/-- The lines a DEFINE request gives for the roles of its record. -/
abbrev Roles := List (LineFn × Option LineIdx)

/-- A named line is bound to another function, or is named for two roles (R168). -/
def State.lineConflict (s : State) (roles : Roles) : Bool :=
  roles.any (fun r => r.2.any fun i =>
      decide ((s.line i).binding ≠ none ∧ (s.line i).binding ≠ some r.1))
    || decide (¬ (roles.filterMap Prod.snd).Nodup)

/-- What an accepted DEFINE does to one line (R168): named, it is bound, and set to direction out by a
new output role; bound to a role of the record and not named for it, it is released. -/
def bindLine (roles : Roles) (i : LineIdx) (l : Line) : Line :=
  match roles.find? fun r => decide (r.2 = some i) with
  | some r =>
      if l.binding = some r.1 then l
      else { l with binding := some r.1,
                    direction := if r.1.isOutput then .output else l.direction }
  | none => if roles.any fun r => decide (l.binding = some r.1) then { l with binding := none } else l

/-- What an accepted DEFINE does to the lines (R168). Binding and release deliver no edge. -/
def State.bindLines (roles : Roles) (s : State) : State := s.mapLines (bindLine roles)

/-! ## The host's reads and writes of lines (R172, R174) -/

/-- The direction of a line as reads see it: always in for bank F (R167). -/
def State.directionOf (s : State) (i : LineIdx) : Direction :=
  if inBankF i then .input else (s.line i).direction

/-- The latch of a line as reads see it: 0 for bank F, which keeps none (R167). -/
def State.latchOf (s : State) (i : LineIdx) : Bool := !inBankF i && (s.line i).latch

/-- "A read of a line returns its latch when its direction is out, and its debounced level when its
direction is in" (R172). -/
def State.readValue (s : State) (i : LineIdx) : Bool :=
  if s.directionOf i = .output then s.latchOf i else (s.line i).debounced

/-- A debounce time given by LINES WRITE, "rounded down to a multiple of 5, then clamped to 5–250" (R174). -/
def takeDebounce (n : Nat) : Nat := clamp 5 250 (n / 5 * 5)

/-- What LINES WRITE writes to line `k` of the bank; bank F keeps neither direction nor latch (R167,
R174). -/
def writeLine (directionSet directions latchSet latches : BitVec 8) (k : Nat) (l : Line) : Line :=
  { l with
    latch := if latchSet.getLsbD k then latches.getLsbD k else l.latch
    direction :=
      if directionSet.getLsbD k then (if directions.getLsbD k then .output else .input)
      else l.direction }

/-- The writes of LINES WRITE to the lines of a bank (R174). -/
def State.writeLines (b : BankIdx) (directionSet directions latchSet latches : BitVec 8) (s : State) :
    State :=
  s.mapLines fun i l =>
    if bankOf i = b ∧ inBankF i = false then
      writeLine directionSet directions latchSet latches (i.val % 8) l
    else l

/-- The debounce time of LINES WRITE, if one is given (R174). -/
def State.writeDebounce (b : BankIdx) (time : Option Nat) (s : State) : State :=
  match time with
  | some n => { s with debounce := s.debounce.set b (takeDebounce n) }
  | none => s

end Sys2Proof.Machine
end

