-- ==== Sys2Proof/Machine/ClearanceOps.lean ====
section
/-! DEFINITION. The Clearance Table: settling, breaches and retirement (chapter 6), and the halt, which
moves plant toward its safe state (R162). -/

namespace Sys2Proof.Machine

/-- The start of service: the pass becomes OUT_OF_SERVICE, and a pass that leaves RUNNING has its grants
revoked (R21, R26); there are none at this point. -/
def Event.startService (p : PassIdx) (ev : Event) : Event :=
  (ev.update (State.modPass p Pass.enterService)).revokeWhere fun t =>
    decide ((ev.st.tip t).pass = p ∧ (ev.st.tip t).state = .granted)

/-- An entry becomes IN_FORCE (R130), and a SERVICE entry hands its pass the start of service if no other
SERVICE entry on the pass is IN_FORCE (R139). -/
def Event.enterForce (e : EntryIdx) (ev : Event) : Event :=
  let x := ev.st.entry e
  let ev1 := ev.update (State.modEntry e fun x =>
    { x with state := .inForce, timer := none, conds := raise .inForce x.conds })
  match x.kind, x.pass with
  | .service, some p => if ev.st.serviceInForce p then ev1 else ev1.startService p
  | .service, none => ev1
  | .entry, _ => ev1
  | .equipment, _ => ev1

/-- The settling test of one entry (R129): made for a PENDING or LATE entry in use. -/
def Event.settleTest (e : EntryIdx) (ev : Event) : Event :=
  let x := ev.st.entry e
  if x.inUse && decide (x.state ≠ .inForce) && ev.st.settled e then ev.enterForce e else ev

/-- The settling tests of the entries the event has touched (R129). -/
def Event.settleTests (ev : Event) : Event :=
  ((List.finRange 24).filter fun e => decide (e ∈ ev.touched)).foldl (fun ev e => ev.settleTest e) ev

/-- A breach at one entry (R132). -/
def Entry.breach (cause : BreachCause) (actuator : Nat) (x : Entry) : Entry :=
  { x with
    breaches := min (x.breaches + 1) Config.breachMax
    firstBreach := match x.firstBreach with
      | some b => some b
      | none => some ⟨cause, actuator⟩
    conds := raise .breach x.conds }

/-- An event reaches plant: every IN_FORCE entry that covers it records a breach (R132). -/
def State.recordBreach (covers : EntryIdx → Bool) (cause : BreachCause) (actuator : Nat) (s : State) :
    State :=
  s.mapEntries fun e x =>
    if covers e && decide (x.state = .inForce) then x.breach cause actuator else x

/-- Retirement (R138): the entry becomes free, its pass leaves service if it was the last IN_FORCE
SERVICE entry on it, and what it alone covered is triggered. -/
def Event.retire (e : EntryIdx) (ev : Event) : Event :=
  let s := ev.st
  let x := s.entry e
  let ev1 := ev.update (State.modEntry e fun _ => Entry.reset)
  let ev2 :=
    match x.kind, x.pass with
    | .service, some p =>
        if x.state = ClearanceState.inForce ∧ ev1.st.serviceInForce p = false then ev1.endService p else ev1
    | .service, none => ev1
    | .entry, _ => ev1
    | .equipment, _ => ev1
  let freedTips := (List.finRange 16).filter fun t => s.coversTip e t && !ev1.st.tipCovered t
  let freedChutes := (List.finRange 8).filter fun c => s.coversChute e c && !ev1.st.chuteCovered c
  let ev3 := freedTips.foldl (fun ev t => ev.triggerArbiter (s.tip t).pass) ev2
  let ev4 := ev3.triggerTries freedChutes
  if s.carriesBreaker e || (List.finRange 4).any (s.coversStation e) then ev4.triggerChoice else ev4

/-- The halt causes with one more recorded (R161). -/
def HaltCauses.add (c : HaltCause) (x : HaltCauses) : HaltCauses :=
  match c with
  | .estopLine => { x with estopLine := true }
  | .linkStop => { x with linkStop := true }
  | .broadcastStop => { x with broadcastStop := true }

/-- A halt taken in RUN (R162): the mode, the revocations, the aborts, the breaker. The arbiters and
start tries it triggers find the station out of RUN. -/
def Event.halt (cause : HaltCause) (ev : Event) : Event :=
  let ev1 := ev.update (State.modStation fun x =>
    { x with mode := .halted, causes := x.causes.add cause, conds := raise .halted x.conds })
  ((ev1.revokeWhere fun t => decide ((ev.st.tip t).state = .granted)).abortWhere fun _ => true).haltBreaker

/-- A halt is called (R161): it acts in RUN, adds its cause in HALTED, and does nothing in SETUP. -/
def Event.callHalt (cause : HaltCause) (ev : Event) : Event :=
  match ev.st.station.mode with
  | .run => ev.halt cause
  | .halted => ev.update (State.modStation fun x => { x with causes := x.causes.add cause })
  | .setup => ev

end Sys2Proof.Machine
end

