-- ==== Sys2Proof/Machine/EventOps.lean ====
section
/-! DEFINITION. The end of an event: the settling tests, the arbiters, the start tries and the breaker's
choice it has triggered, then the pins and ATTN; and the deliveries of edges to the functions. -/

namespace Sys2Proof.Machine

/-- At least one record holds a raised condition whose kind is enabled (R183). -/
def State.attention (s : State) : Bool :=
  let m := s.station.mask
  (List.finRange 6).any (fun p => callsAttention m (s.pass p).conds)
    || (List.finRange 16).any (fun t => callsAttention m (s.tip t).conds)
    || (List.finRange 8).any (fun c => callsAttention m (s.chute c).conds)
    || (List.finRange 4).any (fun k => callsAttention m (s.bst k).conds)
    || callsAttention m s.breaker.conds
    || (List.finRange 24).any (fun e => callsAttention m (s.entry e).conds)
    || (List.finRange 8).any (fun ch => callsAttention m (s.channel ch).conds)
    || callsAttention m s.station.conds

/-- ATTN takes its level (R183). -/
def State.judgeAttn (s : State) : State := { s with attn := s.attention }

/-- Each triggered arbiter runs once (R56). -/
def State.runArbiters (ps : List PassIdx) (s : State) : State :=
  ((List.finRange 6).filter fun p => decide (p ∈ ps)).foldl (fun s p => s.runArbiter p) s

/-- Each triggered chute makes one start try (R83). -/
def State.runTries (cs : List ChuteIdx) (s : State) : State :=
  ((List.finRange 8).filter fun c => decide (c ∈ cs)).foldl (fun s c => s.startTry c) s

/-- The event's own changes are complete: the settling tests (R128 step 6, R129), then the arbiters,
then the start tries (R26), then the breaker's choice (R110, R138, R160), then every pin takes its level
(R169, R170) and ATTN is judged (R183). -/
def Event.finish (ev : Event) : State :=
  let ev1 := ev.settleTests
  let s1 := ev1.st.runArbiters ev1.arb
  let s2 := s1.runTries ev1.tries
  let s3 := if ev1.choice then s2.chooseJob else s2
  s3.refreshLines.judgeAttn

/-- An event at the part: while it is held in reset it acts on none (R156), and an event whose cause
does not stand (a timer that is stopped, an idle converter) changes nothing. -/
def occur (s : State) (f : State → Option Event) : State :=
  if s.inReset then s
  else match f s with
    | some ev => ev.finish
    | none => s

/-! ## Edges (R171) -/

/-- A call line edge (R51, R53). -/
def Event.callEdge (t : TipIdx) (rising : Bool) (ev : Event) : Event :=
  let x := ev.st.tip t
  if rising then
    if x.defined && decide (x.state = .idle) then ev.placeCall t .field else ev
  else
    if x.defined && decide (x.state = .waiting ∧ x.source = .field) then
      ev.update (State.withdrawCall t)
    else ev

/-- A tip: it consumes a grant (R63) or is ungranted (R64); either way it is credited and offered to the
Clearance Table (R132). -/
def Event.tipArrives (t : TipIdx) (ev : Event) : Event :=
  let s := ev.st
  let x := s.tip t
  let ev1 :=
    if x.state = .granted then ev.endGrant t .idle
    else ev.update (State.modTip t fun x => { x with conds := raise .ungrantedTip x.conds })
  (ev1.changeFill x.pass (Pass.credit x.load)).update
    (State.recordBreach (s.coversTip · t) .tipSensed t)

/-- A tip sensor edge; a falling one is ignored (R63, R64). -/
def Event.sensorEdge (t : TipIdx) (rising : Bool) (ev : Event) : Event :=
  if rising && (ev.st.tip t).defined then ev.tipArrives t else ev

/-- A rising oversize edge raises a breaker job unless it is suppressed (R69); a falling one clears
retry-held and may end the blocking (R70, R68). -/
def Event.oversizeEdge (t : TipIdx) (rising : Bool) (ev : Event) : Event :=
  let x := ev.st.tip t
  match x.grizzly with
  | none => ev
  | some k =>
      let b := ev.st.bst k
      if !x.defined then ev
      else if rising then
        if !b.defined || b.retryHeld || decide (x.level = 0) then ev
        else ev.arrive k x.level .oversize
      else
        (ev.update (State.modBst k fun b =>
          { b with retryHeld := if b.defined then false else b.retryHeld })).judgeBlocking t

/-- An open limit edge: a rising one in OPENING ends the opening stroke (R79, R85). -/
def Event.openLimitEdge (c : ChuteIdx) (rising : Bool) (ev : Event) : Event :=
  let x := ev.st.chute c
  if rising && x.defined && decide (x.state = .opening) then
    (ev.update (State.modChute c fun x =>
      { x with state := .holding, strokeTimer := none, reachedOpen := true,
               holdTimer := some x.holdTime, staleExpiry := false })).touchChute c
  else ev

/-- The stroke timer has stopped with an expiry of it waiting or not. Where the start try of this same event starts
the timer again, the expiry that waits is of the timer as it ran (R92, third row; R148; log 31); where it does not, the
expiry will find the timer stopped, or one that a later event started. What else the event triggers changes nothing
that the try reads of this chute. -/
def Event.noteRestart (c : ChuteIdx) (waits : Bool) (ev : Event) : Event :=
  ev.update (State.modChute c fun x =>
    { x with staleExpiry := waits && decide (((ev.st.startTry c).chute c).state = .opening) })

/-- A rising closed limit, by the cycle state (R79, R88, R95, R148). -/
def Event.closedLimitRises (c : ChuteIdx) (ev : Event) : Event :=
  let x := ev.st.chute c
  match x.state with
  | .closed => ev.triggerTries [c]
  | .closing =>
      ((ev.update (State.modChute c fun x =>
        { x with state := .closed, strokeTimer := none, reachedOpen := false })).triggerTries [c]).noteRestart c
          (ev.st.strokeExpiryWaits c)
  | .reclosing =>
      (ev.finalise c (x.pendingProof.getD .fail)).noteRestart c (ev.st.strokeExpiryWaits c)
  | .opening => ev
  | .holding => ev
  | .nudging => ev

/-- A falling closed limit, by the cycle state: a drift in CLOSED (R95), a pass in NUDGING (R147). -/
def Event.closedLimitFalls (c : ChuteIdx) (ev : Event) : Event :=
  match (ev.st.chute c).state with
  | .closed => ev.update (State.modChute c fun x => { x with conds := raise .drift x.conds })
  | .nudging =>
      ev.update (State.modChute c fun x =>
        { x with state := .reclosing, nudgeTimer := none, pendingProof := some .pass,
                 strokeTimer := some x.strokeTime })
  | .opening => ev
  | .holding => ev
  | .closing => ev
  | .reclosing => ev

/-- A closed limit edge (R79): the chute acts on it, every falling one is offered to the Clearance Table,
and the entries covering the chute see the change. -/
def Event.closedLimitEdge (c : ChuteIdx) (rising : Bool) (ev : Event) : Event :=
  if !(ev.st.chute c).defined then ev
  else if rising then (ev.closedLimitRises c).touchChute c
  else ((ev.closedLimitFalls c).update
    (State.recordBreach (ev.st.coversChute · c) .gateMoved c)).touchChute c

/-- A load call edge (R80, R81). -/
def Event.loadCallEdge (c : ChuteIdx) (rising : Bool) (ev : Event) : Event :=
  let x := ev.st.chute c
  if !x.defined then ev
  else if rising && x.callPending then ev
  else
    let ev1 := ev.update (State.modChute c fun x =>
      { x with callPending := rising, emptyReported := false, cushionReported := false })
    if rising then ev1.triggerTries [c]
    else if x.callPending then ev1 else ev

/-- An in-position edge: a rising one in TRAVELLING ends the travel (R113). -/
def Event.inPositionEdge (rising : Bool) (ev : Event) : Event :=
  if rising && decide (ev.st.breaker.state = .travelling) then
    ev.moveBreaker fun b =>
      { b with state := .breaking, travelTimer := none, breakTimer := some b.breakLimit }
  else ev

/-- A grizzly-clear edge: a rising one in BREAKING finishes the job (R113, R114). -/
def Event.grizzlyClearEdge (rising : Bool) (ev : Event) : Event :=
  match ev.st.breaker.current with
  | some j => if rising && decide (ev.st.breaker.state = .breaking) then ev.finishBreak j else ev
  | none => ev

/-- A parked edge: a rising one in RETURNING brings the breaker home (R117); every falling one is offered
to the Clearance Table (R113, R132). -/
def Event.parkedEdge (rising : Bool) (ev : Event) : Event :=
  if rising then
    if ev.st.breaker.state = .returning then
      (ev.moveBreaker fun b =>
        { b with state := .parked, returnTimer := none, returnOverdue := false }).triggerChoice
    else ev
  else ev.update (State.recordBreach ev.st.carriesBreaker .breakerMoved 0)

/-- An edge is delivered to the owner of the line's role (R171); an output role hears none. -/
def Event.deliver (f : LineFn) (rising : Bool) (ev : Event) : Event :=
  match f with
  | .call t => ev.callEdge t rising
  | .tipSensor t => ev.sensorEdge t rising
  | .oversize t => ev.oversizeEdge t rising
  | .openLimit c => ev.openLimitEdge c rising
  | .closedLimit c => ev.closedLimitEdge c rising
  | .loadCall c => ev.loadCallEdge c rising
  | .inPosition => ev.inPositionEdge rising
  | .grizzlyClear => ev.grizzlyClearEdge rising
  | .parked => ev.parkedEdge rising
  | .estop => if rising then ev.callHalt .estopLine else ev
  | .lamp _ => ev
  | .openValve _ => ev
  | .closeValve _ => ev
  | .go => ev
  | .code0 => ev
  | .code1 => ev
  | .test _ => ev

end Sys2Proof.Machine
end

