-- ==== Sys2Proof/Machine/Operands.lean ====
section
/-! DEFINITION. The operands of the requests: which record an index names, which values a field may
hold, and the line fields of a DEFINE (R30, R47, R74, R102, R157, R178). -/

namespace Sys2Proof.Machine

/-- A field that is none or an index: out of range, none, or the record it names. -/
def optionIndex? (n : Nat) (o : Option Nat) : Option (Option (Fin n)) :=
  match o with
  | none => some none
  | some i => (index? n i).map some

/-- The line fields of a request; out of range if any index is above 47 (R30, R47, R74, R102). -/
def lines? : List (Option Nat) → Option (List (Option LineIdx))
  | [] => some []
  | o :: os =>
      match optionIndex? 48 o, lines? os with
      | some l, some ls => some (l :: ls)
      | _, _ => none

/-- A line given for an output role lies in bank F, which cannot drive an output (R30, R47, R74, R102). -/
def outputInBankF (l : Option LineIdx) : Bool := l.any inBankF

/-- The value lies outside a..b. -/
def outside (a b x : Nat) : Bool := decide (x < a ∨ b < x)

/-- A holder's tag is 1–65534 (R127, R135, R136). -/
def badTag (tag : Nat) : Bool := outside 1 65534 tag

/-- The pass named by an index is OUT_OF_SERVICE (R1, R29, R46, R73). An index above 5 names no pass, so it does not
meet the condition: in RUN the answer is WRONG_MODE and not OUT_OF_RANGE, a DESIGN CHOICE, unsafe (log 26). -/
def State.namedInService (s : State) (pass : Nat) : Bool :=
  match index? 6 pass with
  | some p => decide ((s.pass p).state = .outOfService)
  | none => false

end Sys2Proof.Machine
end

