-- ==== Sys2Proof/Machine/LinkOps.lean ====
section
/-! DEFINITION. Taking a request and answering it (R175 to R178). -/

namespace Sys2Proof.Machine

/-- The status codes (R178). -/
def Status.code : Status → Nat
  | .accepted => 0
  | .unknownRequest => 1
  | .badLength => 2
  | .noRecord => 3
  | .wrongMode => 4
  | .outOfRange => 5
  | .tableFull => 6
  | .duplicate => 7
  | .notHolder => 8
  | .inForce => 9
  | .busy => 10
  | .proofDue => 11
  | .covered => 12
  | .geometry => 13
  | .lineConflict => 14
  | .stopActive => 15

/-- What the owning rule makes of a request: refused with a status, accepted as a report that changes
nothing, or accepted as an event, whose answer body is read from the state the event leaves (chapter 10,
"the answer reports the state as that event leaves it"). -/
inductive Reply where
  | refuse (status : Status) (body : List Byte)
  | report (body : List Byte)
  | take (ev : Event) (body : State → List Byte)

/-- A refusal with an empty body (R178). -/
def Reply.no (status : Status) : Reply := .refuse status []

/-- An accepted request whose answer body is empty. -/
def Reply.done (ev : Event) : Reply := .take ev fun _ => []

/-- The record a request acts on: NO_RECORD if the index lies beyond the range of its type (R178). -/
def withIndex (n i : Nat) (act : Fin n → Reply) : Reply :=
  match index? n i with
  | some j => act j
  | none => .no .noRecord

/-- The answer waits to be sent, unless the tag is FFFFh; the receiver hunts again, and an answer that
waited before is dropped by the new frame (R176, R177). -/
def State.answered (rq : Request) (status : Status) (body : List Byte) (s : State) : State :=
  s.modLink fun l =>
    { l with
      receiver := .hunting
      answer := if rq.tag = Config.noAnswerTag then none else some ⟨rq.tag, status, body⟩ }

/-- A frame that is complete and is taken as nothing, or a broadcast: the receiver hunts again and an
answer that waited is dropped (R176, R177). -/
def State.frameOver (s : State) : State :=
  s.modLink fun l => { l with receiver := .hunting, answer := none }

/-- The part receives: it is not held in reset, and it is not sending (R156, R177). -/
def State.listening (s : State) : Bool := !s.inReset && s.link.sending.isNone

/-- The part acts on the reply of the owning rule and answers it. -/
def State.replied (rq : Request) (reply : Reply) (s : State) : State :=
  match reply with
  | .refuse status body => s.answered rq status body
  | .report body => s.answered rq .accepted body
  | .take ev body => ev.finish.answered rq .accepted (body ev.finish)

/-- A request is taken at its last check byte (R177): BAD_LENGTH if its body length differs from `length`,
which the encoding gives (R178), and then its owner's rule. A station without an address of its own takes
no request (R175). -/
def request (rq : Request) (length : Nat) (owner : State → Reply) (s : State) : State :=
  if s.listening then
    match ownAddress s.link.address with
    | some _ => s.replied rq (if rq.length = length then owner s else .no .badLength)
    | none => s.frameOver
  else s

/-- The bytes of an answer frame (R175). -/
def Answer.frame (address : Nat) (a : Answer) : List Byte :=
  let checked := bigEndian 1 address ++ bigEndian 2 a.tag ++ bigEndian 1 a.status.code
    ++ bigEndian 1 a.body.length ++ a.body
  Config.answerStart :: checked ++ crcBytes checked

/-! ## Encodings of answer bodies (R178) -/

/-- A yes/no value takes one byte (R178): 01h for yes and 00h for no, which R178 does not number. A DESIGN CHOICE,
unsafe (log 33). -/
def yesNo (b : Bool) : List Byte := bigEndian 1 b.toNat

/-- "none" or "absent" is a field of all ones. -/
def noneOr {n : Nat} (o : Option (Fin n)) : List Byte := optionByte (o.map Fin.val)

/-- "a set of records is a bitmap in which bit i stands for index i". -/
def bitmap (n : Nat) (f : Fin n → Bool) : Nat :=
  (List.finRange n).foldl (fun a i => if f i then a + 2 ^ i.val else a) 0

/-- A condition set is four bytes (section 10.5). -/
def condBytes (c : CondSet) : List Byte := bigEndian 4 c.toNat

/-- A holder list: its tags, two bytes each, oldest first (log 12). -/
def tagBytes (tags : List Nat) : List Byte := tags.flatMap (bigEndian 2)

def PassState.code : PassState → Nat
  | .unknown => 0
  | .running => 1
  | .hung => 2
  | .outOfService => 3

def TipState.code : TipState → Nat
  | .idle => 0
  | .waiting => 1
  | .granted => 2

def CycleState.code : CycleState → Nat
  | .closed => 0
  | .opening => 1
  | .holding => 2
  | .closing => 3
  | .nudging => 4
  | .reclosing => 5

def ProofResult.code : ProofResult → Nat
  | .none => 0
  | .pass => 1
  | .fail => 2
  | .aborted => 3

def BreakerState.code : BreakerState → Nat
  | .parked => 0
  | .travelling => 1
  | .breaking => 2
  | .returning => 3

def Origin.code : Origin → Nat
  | .oversize => 0
  | .link => 1

def ClearanceKind.code : ClearanceKind → Nat
  | .entry => 0
  | .service => 1
  | .equipment => 2

/-- The numbers of the READ layout (section 10.4); POST CLEARANCE's answer uses the same (log 13). -/
def ClearanceState.code : ClearanceState → Nat
  | .pending => 0
  | .late => 1
  | .inForce => 2

def BreachCause.code : BreachCause → Nat
  | .gateMoved => 1
  | .tipSensed => 2
  | .breakerMoved => 3

def ReadingState.code : ReadingState → Nat
  | .none => 0
  | .valid => 1
  | .clamped => 2
  | .fault => 3
  | .stale => 4

def ProofState.code : ProofState → Nat
  | .idle => 0
  | .proving => 1
  | .held => 2

def ChannelResult.code : ChannelResult → Nat
  | .none => 0
  | .pass => 1
  | .fail => 2

def Mode.code : Mode → Nat
  | .setup => 0
  | .run => 1
  | .halted => 2

/-- LISTED, MERGED, CURRENT, numbered in the order R106 lists them. -/
def Disposition.code : Disposition → Nat
  | .listed => 0
  | .merged => 1
  | .current => 2

/-- The halt causes as a set: one bit for each, in the order the station record lists them (log 14). -/
def HaltCauses.byte (c : HaltCauses) : List Byte :=
  bigEndian 1 (c.estopLine.toNat + 2 * c.linkStop.toNat + 4 * c.broadcastStop.toNat)

/-- The mode and the halt causes (R161, R163). -/
def State.modeAndCauses (s : State) : List Byte :=
  bigEndian 1 s.station.mode.code ++ s.station.causes.byte

end Sys2Proof.Machine
end

