-- ==== Sys2Proof/Machine/ReadOps.lean ====
section
/-! DEFINITION. The bodies that report records: READ (R179 and the content rules), LINES READ (R173) and
SUMMARY (R181). -/

namespace Sys2Proof.Machine

/-- A byte of flags: bit 0 first. -/
def flagByte (bits : List Bool) : List Byte :=
  bigEndian 1 (bits.foldr (fun b n => b.toNat + 2 * n) 0)

/-- The time remaining on a timer, 0 when it is stopped. -/
def remaining (t : Timer) : Nat := t.getD 0

/-- READ of a pass: type 0 of section 10.4 (R28). -/
def State.passBody (s : State) (p : PassIdx) : List Byte :=
  let q := s.pass p
  flagByte [q.defined, q.known, q.amended] ++ bigEndian 1 q.state.code ++ bigEndian 2 q.height
    ++ bigEndian 3 q.capacity ++ bigEndian 3 q.tipLimit ++ bigEndian 3 q.cushion
    ++ bigEndian 2 q.hangThreshold ++ bigEndian 1 q.blendShift ++ bigEndian 2 q.disagreement
    ++ bigEndian 2 q.staleLimit ++ bigEndian 3 q.e ++ bigEndian 3 q.r ++ bigEndian 3 q.d
    ++ bigEndian 2 q.reserved ++ condBytes q.conds ++ bigEndian 1 q.profile.length
    ++ bigEndian 1 q.waiting.length ++ encodeSegments q.profile
    ++ q.waiting.flatMap fun t => bigEndian 1 t.val

/-- The tip point's place in its pass's waiting list, from 1 at the head, 0 when it is not WAITING (R72). -/
def State.place (s : State) (t : TipIdx) : Nat :=
  if (s.tip t).state = .waiting then (s.pass (s.tip t).pass).waiting.idxOf t + 1 else 0

/-- READ of a tip point: type 1 of section 10.4 (R72). -/
def State.tipBody (s : State) (t : TipIdx) : List Byte :=
  let x := s.tip t
  flagByte [x.defined, decide (x.source = .link), s.blocked t, s.tipCovered t]
    ++ bigEndian 1 x.pass.val ++ bigEndian 2 x.elevation ++ bigEndian 2 x.load ++ bigEndian 1 x.level
    ++ noneOr x.grizzly ++ noneOr (s.lineOf (.call t)) ++ noneOr (s.lineOf (.tipSensor t))
    ++ noneOr (s.lineOf (.lamp t)) ++ noneOr (s.lineOf (.oversize t)) ++ bigEndian 2 x.timeout
    ++ bigEndian 1 x.state.code ++ bigEndian 2 (remaining x.timer) ++ bigEndian 1 (s.place t)
    ++ condBytes x.conds

/-- READ of a chute: type 2 of section 10.4 (R99). At most one of its timers runs. -/
def State.chuteBody (s : State) (c : ChuteIdx) : List Byte :=
  let x := s.chute c
  flagByte [x.defined, x.held, x.callPending, x.reachedOpen, x.faultHold, x.proofHold, x.proofDue,
      s.chuteCovered c]
    ++ flagByte [s.level (.openLimit c), s.level (.closedLimit c)]
    ++ bigEndian 1 x.pass.val ++ bigEndian 2 x.elevation ++ bigEndian 2 x.volume
    ++ noneOr (s.lineOf (.openValve c)) ++ noneOr (s.lineOf (.closeValve c))
    ++ noneOr (s.lineOf (.openLimit c)) ++ noneOr (s.lineOf (.closedLimit c))
    ++ noneOr (s.lineOf (.loadCall c)) ++ bigEndian 2 x.holdTime ++ bigEndian 2 x.strokeTime
    ++ bigEndian 1 x.nudgeTime ++ bigEndian 2 x.interval ++ bigEndian 1 x.count
    ++ bigEndian 1 x.state.code
    ++ bigEndian 2 (remaining (x.strokeTimer <|> x.holdTimer <|> x.nudgeTimer))
    ++ bigEndian 1 x.lastProof.code ++ bigEndian 2 x.cycles ++ condBytes x.conds

/-- The current or listed job for a station (R122). -/
def State.jobFor (s : State) (k : StationIdx) : Option Job :=
  (s.breaker.current.toList ++ s.breaker.jobs).find? fun j => decide (j.station = k)

/-- READ of a breaker station: type 3 of section 10.4 (R122). -/
def State.bstBody (s : State) (k : StationIdx) : List Byte :=
  let x := s.bst k
  let isCurrent := s.breaker.current.any fun j => decide (j.station = k)
  let isListed := s.breaker.jobs.any fun j => decide (j.station = k)
  flagByte [x.defined, x.retryHeld, isCurrent, isListed, s.stationCovered k]
    ++ bigEndian 1 x.tip.val ++ bigEndian 1 x.group
    ++ (match s.jobFor k with
        | some j => bigEndian 1 j.level ++ bigEndian 1 j.origin.code ++ bigEndian 2 j.arrival
        | none => List.replicate 4 255)
    ++ condBytes x.conds

/-- A job of a READ of the breaker: five bytes (section 10.4). -/
def Job.bytes (j : Job) : List Byte :=
  bigEndian 1 j.station.val ++ bigEndian 1 j.level ++ bigEndian 1 j.origin.code
    ++ bigEndian 2 j.arrival

/-- READ of the breaker: type 4 of section 10.4 (R122). -/
def State.breakerBody (s : State) : List Byte :=
  let b := s.breaker
  bigEndian 1 b.state.code
    ++ (match b.current with
        | some j => j.bytes
        | none => List.replicate 5 255)
    ++ bigEndian 2 b.counter ++ bigEndian 1 b.floor ++ bigEndian 1 s.effectiveFloor
    ++ bigEndian 2 b.travelLimit ++ bigEndian 2 b.breakLimit
    ++ bigEndian 2 (remaining (b.travelTimer <|> b.breakTimer <|> b.returnTimer))
    ++ yesNo b.returnOverdue ++ noneOr (s.lineOf .go) ++ noneOr (s.lineOf .code0)
    ++ noneOr (s.lineOf .code1) ++ noneOr (s.lineOf .inPosition) ++ noneOr (s.lineOf .grizzlyClear)
    ++ noneOr (s.lineOf .parked)
    ++ flagByte [s.level .inPosition, s.level .grizzlyClear, s.level .parked]
    ++ condBytes b.conds ++ bigEndian 1 b.jobs.length ++ b.jobs.flatMap Job.bytes

/-- A set of tip points, chutes, stations and the breaker, as READ of an entry lays it out (section 10.4):
two bytes, one byte, and one byte with the breaker in bit 4. -/
def plantBytes (tips : TipIdx → Bool) (chutes : ChuteIdx → Bool) (stations : StationIdx → Bool)
    (breaker : Bool) : List Byte :=
  bigEndian 2 (bitmap 16 tips) ++ bigEndian 1 (bitmap 8 chutes)
    ++ bigEndian 1 (bitmap 4 stations + 16 * breaker.toNat)

/-- READ of a clearance entry: type 5 of section 10.4 (R144, R179), with the coverage of R125 and the awaited
set of R129. With the first breach absent the cause is 0, as the table says, and the actuator index, of which the
table says nothing then, is 0 too: a DESIGN CHOICE, unsafe (log 27). -/
def State.entryBody (s : State) (e : EntryIdx) : List Byte :=
  let x := s.entry e
  flagByte [x.inUse, x.firstBreach.isSome] ++ bigEndian 1 x.kind.code ++ noneOr x.pass
    ++ bigEndian 2 x.low ++ bigEndian 2 x.high ++ bigEndian 2 x.maskTips.toNat ++ [x.maskChutes]
    ++ yesNo x.maskBreaker ++ bigEndian 1 x.state.code ++ bigEndian 2 (remaining x.timer)
    ++ bigEndian 1 x.breaches
    ++ (match x.firstBreach with
        | some b => bigEndian 1 b.cause.code ++ bigEndian 1 b.actuator
        | none => [0, 0])
    ++ plantBytes (s.coversTip e) (s.coversChute e) (s.coversStation e) (s.carriesBreaker e)
    ++ plantBytes (fun t => s.coversTip e t && decide ((s.tip t).state = .granted))
        (fun c => s.coversChute e c && !s.chuteSafe c)
        (fun k => s.coversStation e k && s.breakerAt k)
        (s.carriesBreaker e && decide (s.breaker.state ≠ .parked))
    ++ condBytes x.conds ++ bigEndian 1 x.holders.length ++ tagBytes x.holders

/-- READ of a level channel, type 6, in the order of R44; the distance and height derived from the last
reading stand last, 0 where there are none (R44; log 15). -/
def State.channelBody (s : State) (ch : ChannelIdx) : List Byte :=
  let x := s.channel ch
  yesNo x.defined ++ noneOr x.assignment ++ bigEndian 2 x.zeroAt ++ bigEndian 2 x.span
    ++ noneOr (s.lineOf (.test ch)) ++ bigEndian 2 x.reading ++ bigEndian 1 x.state.code
    ++ bigEndian 2 x.age ++ yesNo x.inQuiet ++ yesNo x.inBreaking ++ bigEndian 1 x.proof.code
    ++ bigEndian 1 x.lastProof.code ++ condBytes x.conds
    ++ (match x.assignment, x.state.live with
        | some p, true => bigEndian 2 x.distance ++ bigEndian 2 (x.heightIn (s.pass p).height)
        | some _, false => bigEndian 2 0 ++ bigEndian 2 0
        | none, _ => bigEndian 2 0 ++ bigEndian 2 0)

/-- READ of the station record, type 7, in the order of R165. -/
def State.stationBody (s : State) : List Byte :=
  s.modeAndCauses ++ noneOr (s.lineOf .estop) ++ yesNo (s.level .estop)
    ++ bigEndian 2 s.station.settleTime ++ bigEndian 2 s.station.proofWindow
    ++ condBytes s.station.mask ++ condBytes s.station.conds

/-- READ by record type and index (R179): OUT_OF_RANGE for a type the table does not list, then NO_RECORD
for an index beyond the type's range (R178). -/
def State.readReply (type index : Nat) (s : State) : Reply :=
  match type with
  | 0 => withIndex 6 index fun p => .report (s.passBody p)
  | 1 => withIndex 16 index fun t => .report (s.tipBody t)
  | 2 => withIndex 8 index fun c => .report (s.chuteBody c)
  | 3 => withIndex 4 index fun k => .report (s.bstBody k)
  | 4 => withIndex 1 index fun _ => .report s.breakerBody
  | 5 => withIndex 24 index fun e => .report (s.entryBody e)
  | 6 => withIndex 8 index fun ch => .report (s.channelBody ch)
  | 7 => withIndex 1 index fun _ => .report s.stationBody
  | _ => .no .outOfRange

/-- A role's number, in the order of the roles table of section 9.1, and its owner's index, 0 for the
breaker and the station (log 12). -/
def LineFn.bytes : LineFn → List Byte
  | .call t => [0, BitVec.ofNat 8 t]
  | .tipSensor t => [1, BitVec.ofNat 8 t]
  | .oversize t => [2, BitVec.ofNat 8 t]
  | .lamp t => [3, BitVec.ofNat 8 t]
  | .openValve c => [4, BitVec.ofNat 8 c]
  | .closeValve c => [5, BitVec.ofNat 8 c]
  | .openLimit c => [6, BitVec.ofNat 8 c]
  | .closedLimit c => [7, BitVec.ofNat 8 c]
  | .loadCall c => [8, BitVec.ofNat 8 c]
  | .go => [9, 0]
  | .code0 => [10, 0]
  | .code1 => [11, 0]
  | .inPosition => [12, 0]
  | .grizzlyClear => [13, 0]
  | .parked => [14, 0]
  | .test ch => [15, BitVec.ofNat 8 ch]
  | .estop => [16, 0]

/-- A line of LINES READ: read value, direction, latch, binding (R173). -/
def State.lineBytes (s : State) (i : LineIdx) : List Byte :=
  yesNo (s.readValue i) ++ yesNo (decide (s.directionOf i = .output)) ++ yesNo (s.latchOf i)
    ++ (match (s.line i).binding with
        | some f => f.bytes
        | none => [255, 255])

/-- The lines of a bank, in ascending index. -/
def linesOf (b : BankIdx) : List LineIdx := (List.finRange 48).filter fun i => decide (bankOf i = b)

/-- The body of LINES READ (R173), and of LINES WRITE after its writes (R174). -/
def State.bankBody (b : BankIdx) (s : State) : List Byte :=
  bigEndian 1 (s.bankTime b) ++ (linesOf b).flatMap s.lineBytes

/-- The body of SUMMARY (R181). -/
def State.summaryBody (s : State) : List Byte :=
  bigEndian 1 s.station.mode.code
    ++ flagByte [s.attn, decide (s.station.conds ≠ 0), decide (s.breaker.conds ≠ 0)]
    ++ bigEndian 1 (bitmap 6 fun p => decide ((s.pass p).conds ≠ 0))
    ++ bigEndian 2 (bitmap 16 fun t => decide ((s.tip t).conds ≠ 0))
    ++ bigEndian 1 (bitmap 8 fun c => decide ((s.chute c).conds ≠ 0))
    ++ bigEndian 1 (bitmap 4 fun k => decide ((s.bst k).conds ≠ 0))
    ++ bigEndian 3 (bitmap 24 fun e => decide ((s.entry e).conds ≠ 0))
    ++ bigEndian 1 (bitmap 8 fun ch => decide ((s.channel ch).conds ≠ 0))

end Sys2Proof.Machine
end

