-- ==== Sys2Proof/Machine/Resets.lean ====
section
/-! DEFINITION. The two resets and their release (R156, R166, R175). -/

namespace Sys2Proof.Machine

/-- What a step answers. -/
abbrev Result := Host.Outcome State Fault Refusal

/-- What both resets do (R156): every record takes its reset values, the link is quiet (R175), and the
part is held inactive until the release. The straps are read only at the release, so the last ones
stand; the plant goes on applying its levels, and each line is left to `line`. -/
def State.resetHeld (line : Line → Line) (s : State) : State :=
  ({ State.reset with
      inReset := true
      lines := Vector.ofFn fun i => line (s.line i)
      link := { Link.reset with address := s.link.address, baud := s.link.baud }
      pending := s.pending } : State).refreshLines

/-- A line at power-on: direction in, output latch 0, no binding (R166). The debounced level, which R166 gives only at
the release, keeps its value until then: a DESIGN CHOICE, unsafe (log 29). -/
def Line.powerOn (l : Line) : Line := { l with direction := .input, latch := false, binding := none }

/-- A line at the reset line: no binding; "the reset line leaves each line's output latch and direction
as they were" (R166). The debounced level keeps its value until the release: a DESIGN CHOICE, unsafe (log 29). -/
def Line.resetLine (l : Line) : Line := { l with binding := none }

/-- The release of either reset: the straps are read (R175), "each line's debounced level is taken from
its raw level at that moment" with no edge and no timer (R166), and operation begins (R156). -/
def State.release (address baud : Nat) (s : State) : State :=
  (({ s with inReset := false }.modLink fun l =>
    { l with address := address, baud := baud }).mapLines fun i l =>
      { l with raw := s.pinLevel i, debounced := s.pinLevel i, timer := none })

/-- POWER_ON (R156). -/
def execPowerOn (s : State) : Result := .next (s.resetHeld Line.powerOn)

/-- RESET_LINE (R156). -/
def execResetLine (s : State) : Result := .next (s.resetHeld Line.resetLine)

/-- RESET_RELEASE (R166): with no reset held there is nothing to release. -/
def execResetRelease (address baud : Nat) (s : State) : Result :=
  .next (if s.inReset then s.release address baud else s)

end Sys2Proof.Machine
end

