-- ==== Sys2Proof/Machine/Clearances.lean ====
section
/-! DEFINITION. POST CLEARANCE, JOIN, LEAVE and CANCEL (R127 to R138). -/

namespace Sys2Proof.Machine

/-- The kind a POST CLEARANCE names, by the numbers of section 10.4. -/
def kind? : Nat → Option ClearanceKind
  | 0 => some .entry
  | 1 => some .service
  | 2 => some .equipment
  | _ => none

/-- The entry a posting takes (R128 step 1). The fields the request's kind does not read stay as the free
entry has them: the pass absent for EQUIPMENT, the elevations 0 except for ENTRY (R123, R127; log 16). -/
def postedEntry (kind : ClearanceKind) (pass : Option PassIdx) (low high : Nat) (tips : BitVec 16)
    (chutes : BitVec 8) (breaker : Bool) (tag settleTime : Nat) : Entry :=
  { Entry.reset with
    inUse := true
    kind := kind
    pass := match kind with
      | .equipment => none
      | .entry => pass
      | .service => pass
    low := match kind with
      | .entry => low
      | .service => 0
      | .equipment => 0
    high := match kind with
      | .entry => high
      | .service => 0
      | .equipment => 0
    maskTips := tips
    maskChutes := chutes
    maskBreaker := breaker
    holders := [tag]
    timer := some settleTime }

/-- The breaker is working where the entry reaches: it carries the breaker bit, or covers the current
job's station (R119, R128 step 5). -/
def State.breakerReached (s : State) (e : EntryIdx) : Bool :=
  decide (s.breaker.state = .travelling ∨ s.breaker.state = .breaking)
    && (s.carriesBreaker e || s.breaker.current.any fun j => s.coversStation e j.station)

/-- The posting event (R128): the entry is taken, covered grants are revoked, covered cycles and nudges
aborted, the breaker's work aborted, and the settling test of the new entry is to be made. -/
def Event.post (e : EntryIdx) (x : Entry) (ev : Event) : Event :=
  let ev1 := ev.update (State.modEntry e fun _ => x)
  let s := ev1.st
  let ev2 := (ev1.revokeWhere fun t => s.coversTip e t && decide ((s.tip t).state = .granted)).abortWhere
    (s.coversChute e)
  let ev3 := if ev2.st.breakerReached e then ev2.abortBreaker else ev2
  ev3.touch [e]

/-- The free entry of lowest index (R123). -/
def State.freeEntry (s : State) : Option EntryIdx :=
  (List.finRange 24).find? fun e => !(s.entry e).inUse

/-- The posting, and its answer: the index the entry took and its state once the event is complete
(R127). -/
def State.posted (e : EntryIdx) (x : Entry) (s : State) : Reply :=
  .take ((Event.of s).post e x)
    fun t => bigEndian 1 e.val ++ bigEndian 1 (t.entry e).state.code

/-- POST CLEARANCE (R127). -/
def State.postReply (kind pass low high : Nat) (tips : BitVec 16) (chutes : BitVec 8) (breaker : Bool)
    (tag : Nat) (s : State) : Reply :=
  match s.freeEntry with
  | none => .no .tableFull
  | some e =>
      match kind? kind with
      | none => .no .outOfRange
      | some .equipment =>
          if badTag tag then .no .outOfRange
          else s.posted e
            (postedEntry .equipment none low high tips chutes breaker tag s.station.settleTime)
      | some .service =>
          match index? 6 pass with
          | none => .no .outOfRange
          | some p =>
              if badTag tag then .no .outOfRange
              else if !(s.pass p).defined then .no .noRecord
              else s.posted e
                (postedEntry .service (some p) low high tips chutes breaker tag s.station.settleTime)
      | some .entry =>
          match index? 6 pass with
          | none => .no .outOfRange
          | some p =>
              if badTag tag || decide (high < low) then .no .outOfRange
              else if !(s.pass p).defined then .no .noRecord
              else if (s.pass p).height < high then .no .outOfRange
              else s.posted e
                (postedEntry .entry (some p) low high tips chutes breaker tag s.station.settleTime)

/-- JOIN (R135): the settling test of the entry is made (R129). "The answer body carries the holder list as it stands
after the request", and shows the state; that the state follows the tags is DEDUCED, unsafe (log 30). -/
def State.joinReply (entry tag : Nat) (s : State) : Reply :=
  withIndex 24 entry fun e =>
    let x := s.entry e
    if !x.inUse then .no .noRecord
    else if badTag tag then .no .outOfRange
    else if tag ∈ x.holders then .no .duplicate
    else if Config.holdersMax ≤ x.holders.length then .no .tableFull
    else .take (((Event.of s).update
        (State.modEntry e fun x => { x with holders := x.holders ++ [tag] })).touch [e])
      fun t => tagBytes (t.entry e).holders ++ bigEndian 1 (t.entry e).state.code

/-- LEAVE (R136): the last holder retires the entry (R138); otherwise its settling test is made (R129). -/
def State.leaveReply (entry tag : Nat) (s : State) : Reply :=
  withIndex 24 entry fun e =>
    let x := s.entry e
    if !x.inUse then .no .noRecord
    else if badTag tag then .no .outOfRange
    else if tag ∉ x.holders then .no .notHolder
    else if x.holders.erase tag = [] then
      .take ((Event.of s).retire e) fun _ => []
    else .take (((Event.of s).update
        (State.modEntry e fun x => { x with holders := x.holders.erase tag })).touch [e])
      fun t => tagBytes (t.entry e).holders

/-- CANCEL (R137). -/
def State.cancelReply (entry : Nat) (s : State) : Reply :=
  withIndex 24 entry fun e =>
    if !(s.entry e).inUse then .no .noRecord
    else if (s.entry e).state = ClearanceState.inForce then .no .inForce
    else .done ((Event.of s).retire e)

/-- POST_CLEARANCE (R127). -/
def execPostClearance (rq : Request) (kind pass low high : Nat) (tips : BitVec 16) (chutes : BitVec 8)
    (breaker : Bool) (tag : Nat) (s : State) : Result :=
  .next (request rq 12 (State.postReply kind pass low high tips chutes breaker tag) s)

/-- JOIN (R135). -/
def execJoin (rq : Request) (entry tag : Nat) (s : State) : Result :=
  .next (request rq 3 (State.joinReply entry tag) s)

/-- LEAVE (R136). -/
def execLeave (rq : Request) (entry tag : Nat) (s : State) : Result :=
  .next (request rq 3 (State.leaveReply entry tag) s)

/-- CANCEL (R137). -/
def execCancel (rq : Request) (entry : Nat) (s : State) : Result :=
  .next (request rq 1 (State.cancelReply entry) s)

end Sys2Proof.Machine
end

