-- ==== Sys2Proof/Machine/Defines.lean ====
section
/-! DEFINITION. The DEFINE requests (R1 to R4, R29 to R31, R46 to R48, R73 to R75, R100 to R102, R157). -/

namespace Sys2Proof.Machine

/-! ## DEFINE PASS -/

/-- The range checks of DEFINE PASS (R2). -/
def passOutOfRange (height : Nat) (profile : List Segment) : Bool :=
  outside 100 30000 height || outside 1 8 profile.length
    || profile.any (fun g => outside 10 30000 g.height || outside 10 2000 g.area)
    || decide (30000 < profileHeight profile)

/-- A defined tip point or chute of the pass stands above the height (R2). -/
def State.plantAbove (s : State) (p : PassIdx) (height : Nat) : Bool :=
  (List.finRange 16).any (fun t => (s.tip t).defined && decide ((s.tip t).pass = p)
      && decide (height < (s.tip t).elevation))
    || (List.finRange 8).any (fun c => (s.chute c).defined && decide ((s.chute c).pass = p)
      && decide (height < (s.chute c).elevation))

/-- "the tip limit is then clamped to 0..capacity, and after that the cushion is clamped to 0..tip limit"
(R4). -/
def Pass.clampTuning (q : Pass) : Pass :=
  { q with tipLimit := min q.tipLimit q.capacity, cushion := min q.cushion (min q.tipLimit q.capacity) }

/-- The pass an accepted DEFINE PASS makes: a first definition, an amendment, or a redefinition (R4). -/
def Pass.define (height : Nat) (profile : List Segment) (q : Pass) : Pass :=
  let g := { q with height := height, profile := profile, capacity := capacityOf profile }
  Pass.clampTuning <|
    if !q.defined then
      { g with
        defined := true, state := .unknown, known := false, e := 0, r := 0, d := 0, reserved := 0
        amended := false, waiting := [], conds := 0 }
    else if q.state = .outOfService then { g with e := min q.e g.capacity, amended := true }
    else { g with state := .unknown, known := false, d := 0, e := min q.e g.capacity }

/-- DEFINE PASS (R1 to R4). The clamp of E at an amendment is handed on where E changes (R26), and the
settling tests are made (R126). -/
def State.definePassReply (pass height : Nat) (profile : List Segment) (s : State) : Reply :=
  withIndex 6 pass fun p =>
    let q := s.pass p
    let amendment := decide (q.state = .outOfService)
    if !(decide (s.station.mode = .setup) || (decide (s.station.mode = .run) && amendment)) then
      .no .wrongMode
    else if passOutOfRange height profile then .no .outOfRange
    else if amendment && (decide (profileHeight profile ≠ height) || s.plantAbove p height) then
      .no .geometry
    else
      let ev := (Event.of s).update (State.modPass p (Pass.define height profile))
      let ev' := if amendment && decide ((ev.st.pass p).e ≠ q.e) then ev.handOn p else ev
      .take ev'.touchAll fun t => bigEndian 3 (t.pass p).capacity

/-! ## DEFINE TIP -/

/-- A record's request is taken in SETUP, and in RUN only where `inService` holds (R46, R73). -/
def State.modeAllows (s : State) (inService : Bool) : Bool :=
  decide (s.station.mode = .setup) || (decide (s.station.mode = .run) && inService)

/-- The roles DEFINE TIP gives lines for (R46). -/
def tipRoles (t : TipIdx) (call sensor lamp oversize : Option LineIdx) : Roles :=
  [(.call t, call), (.tipSensor t, sensor), (.lamp t, lamp), (.oversize t, oversize)]

/-- The geometry checks of DEFINE TIP in RUN (R47). -/
def State.tipGeometry (s : State) (t : TipIdx) (p : PassIdx) (elevation : Nat)
    (grizzly : Option StationIdx) (call sensor lamp oversize : Option LineIdx) : Bool :=
  decide ((s.pass p).height < elevation)
    || call.isNone || sensor.isNone || lamp.isNone || (grizzly.isSome && oversize.isNone)
    || (List.finRange 4).any (fun k =>
        (s.bst k).defined && decide ((s.bst k).tip = t) && decide (grizzly ≠ some k))
    || grizzly.any (fun k => (s.bst k).defined && decide ((s.bst k).tip ≠ t))

/-- The tip point an accepted DEFINE TIP makes (R48). -/
def Tip.define (p : PassIdx) (elevation load level : Nat) (grizzly : Option StationIdx) (x : Tip) : Tip :=
  let y := { x with pass := p, elevation := elevation, load := load, level := level, grizzly := grizzly }
  if x.defined then y
  else { y with defined := true, state := .idle, source := .field, timer := none, conds := 0 }

/-- The change an accepted DEFINE TIP makes (R48): a WAITING tip point's call is withdrawn from its old
pass's list, then the record is stored and the lines are bound. -/
def State.defineTip (t : TipIdx) (p : PassIdx) (elevation load level : Nat)
    (grizzly : Option StationIdx) (roles : Roles) (s : State) : State :=
  let s1 := if (s.tip t).defined && decide ((s.tip t).state = .waiting) then s.withdrawCall t else s
  (s1.modTip t (Tip.define p elevation load level grizzly)).bindLines roles

/-- DEFINE TIP (R46 to R48). -/
def State.defineTipReply (tip pass elevation load level : Nat)
    (grizzly call sensor lamp oversize : Option Nat) (s : State) : Reply :=
  withIndex 16 tip fun t =>
    if !s.modeAllows (s.namedInService pass
        && (!(s.tip t).defined || decide ((s.pass (s.tip t).pass).state = .outOfService))) then
      .no .wrongMode
    else match index? 6 pass, optionIndex? 4 grizzly, lines? [call, sensor, lamp, oversize] with
      | some p, some g, some [callLine, sensorLine, lampLine, oversizeLine] =>
          if outside 0 30000 elevation || outside 5 600 load || outside 1 7 level
              || outputInBankF lampLine || (oversizeLine.isSome && g.isNone) then .no .outOfRange
          else if !(s.pass p).defined then .no .noRecord
          else if g.isSome && (List.finRange 16).any (fun o =>
              decide (o ≠ t) && (s.tip o).defined && decide ((s.tip o).grizzly = g)) then
            .no .duplicate
          else if decide (s.station.mode = .run)
              && s.tipGeometry t p elevation g callLine sensorLine lampLine oversizeLine then
            .no .geometry
          else
            let roles := tipRoles t callLine sensorLine lampLine oversizeLine
            if s.lineConflict roles then .no .lineConflict
            else .done ((Event.of s).update
              (State.defineTip t p elevation load level g roles)).touchAll
      | _, _, _ => .no .outOfRange

/-! ## DEFINE CHUTE -/

/-- The roles DEFINE CHUTE gives lines for (R73). -/
def chuteRoles (c : ChuteIdx) (openValve closeValve openLimit closedLimit loadCall : Option LineIdx) :
    Roles :=
  [(.openValve c, openValve), (.closeValve c, closeValve), (.openLimit c, openLimit),
    (.closedLimit c, closedLimit), (.loadCall c, loadCall)]

/-- The chute an accepted DEFINE CHUTE makes (R75). -/
def Chute.define (p : PassIdx) (elevation volume : Nat) (x : Chute) : Chute :=
  let y := { x with pass := p, elevation := elevation, volume := volume }
  if x.defined then { y with callPending := false, emptyReported := false, cushionReported := false }
  else
    { y with
      defined := true, state := .closed, reachedOpen := false, strokeTimer := none, holdTimer := none
      nudgeTimer := none, count := 0, held := false, callPending := false, emptyReported := false
      cushionReported := false, faultHold := false, proofHold := false, lastProof := .none
      pendingProof := none, cycles := 0, conds := 0 }

/-- DEFINE CHUTE (R73 to R75). -/
def State.defineChuteReply (chute pass elevation volume : Nat)
    (openValve closeValve openLimit closedLimit loadCall : Option Nat) (s : State) : Reply :=
  withIndex 8 chute fun c =>
    if !s.modeAllows (s.namedInService pass
        && (!(s.chute c).defined || decide ((s.pass (s.chute c).pass).state = .outOfService))) then
      .no .wrongMode
    else if (s.chute c).defined && decide ((s.chute c).state ≠ .closed) then .no .busy
    else match index? 6 pass, lines? [openValve, closeValve, openLimit, closedLimit, loadCall] with
      | some p, some [ov, cv, ol, cl, lc] =>
          if outside 0 30000 elevation || outside 5 600 volume || outputInBankF ov || outputInBankF cv
          then .no .outOfRange
          else if !(s.pass p).defined then .no .noRecord
          else if decide (s.station.mode = .run) && (decide ((s.pass p).height < elevation)
              || ov.isNone || cv.isNone || ol.isNone || cl.isNone || lc.isNone) then .no .geometry
          else
            let roles := chuteRoles c ov cv ol cl lc
            if s.lineConflict roles then .no .lineConflict
            else .done (((Event.of s).update (State.modChute c
              (Chute.define p elevation volume))).update (State.bindLines roles)).touchAll
      | _, _ => .no .outOfRange

/-! ## DEFINE BREAKER STATION and DEFINE BREAKER -/

/-- The breaker station an accepted DEFINE BREAKER STATION makes (R101). -/
def Station.define (t : TipIdx) (group : Nat) (x : Station) : Station :=
  if x.defined then { x with tip := t, group := group }
  else ⟨true, t, group, false, 0⟩

/-- DEFINE BREAKER STATION (R100, R101). -/
def State.defineStationReply (station tip group : Nat) (s : State) : Reply :=
  withIndex 4 station fun k =>
    if !s.modeAllows s.breakerHeldInForce then .no .wrongMode
    else if s.breaker.jobs.any (fun j => decide (j.station = k)) then .no .busy
    else match index? 16 tip with
      | some t =>
          if outside 0 3 group then .no .outOfRange
          else if !(s.tip t).defined then .no .noRecord
          else if (List.finRange 4).any (fun o =>
              decide (o ≠ k) && (s.bst o).defined && decide ((s.bst o).tip = t)) then .no .duplicate
          else if decide (s.station.mode = .run) && decide ((s.tip t).grizzly ≠ some k) then
            .no .geometry
          else .done ((Event.of s).update
            (State.modBst k (Station.define t group))).triggerChoice.touchAll
      | none => .no .outOfRange

/-- The roles DEFINE BREAKER gives lines for (R102). -/
def breakerRoles (go code0 code1 inPosition grizzlyClear parked : Option LineIdx) : Roles :=
  [(.go, go), (.code0, code0), (.code1, code1), (.inPosition, inPosition),
    (.grizzlyClear, grizzlyClear), (.parked, parked)]

/-- DEFINE BREAKER (R102). -/
def State.defineBreakerReply (go code0 code1 inPosition grizzlyClear parked : Option Nat) (s : State) :
    Reply :=
  if !s.modeAllows s.breakerHeldInForce then .no .wrongMode
  else match lines? [go, code0, code1, inPosition, grizzlyClear, parked] with
    | some [g, c0, c1, ip, gc, pk] =>
        if outputInBankF g || outputInBankF c0 || outputInBankF c1 then .no .outOfRange
        else if decide (s.station.mode = .run) && (g.isNone || c0.isNone || c1.isNone || ip.isNone
            || gc.isNone || pk.isNone) then .no .geometry
        else
          let roles := breakerRoles g c0 c1 ip gc pk
          if s.lineConflict roles then .no .lineConflict
          else .done ((Event.of s).update (State.bindLines roles))
    | _ => .no .outOfRange

/-! ## DEFINE CHANNEL and DEFINE STATION -/

/-- The channel an accepted DEFINE CHANNEL makes (R31). -/
def Channel.define (assignment : Option PassIdx) (zeroAt span : Nat) (x : Channel) : Channel :=
  { x with
    defined := true, assignment := assignment, zeroAt := zeroAt, span := span
    state := .none, age := 0 }

/-- Every pass named by the assignment before the request and in the request is OUT_OF_SERVICE (R29). -/
def State.assignmentsInService (s : State) (ch : ChannelIdx) (assignment : Option Nat) : Bool :=
  (s.channel ch).assignment.all (fun p => decide ((s.pass p).state = .outOfService))
    && assignment.all s.namedInService

/-- Two other channels are assigned to the pass already (R30). -/
def State.channelsFull (s : State) (ch : ChannelIdx) (p : PassIdx) : Bool :=
  decide (2 ≤ ((List.finRange 8).filter fun o =>
    decide (o ≠ ch) && decide ((s.channel o).assignment = some p)).length)

/-- DEFINE CHANNEL (R29 to R31): the loss of use is handed to R41, and a channel listed in the active
list wakes an idle scanner (R34). -/
def State.defineChannelReply (channel : Nat) (assignment : Option Nat) (zeroAt span : Nat)
    (testLine : Option Nat) (s : State) : Reply :=
  withIndex 8 channel fun ch =>
    if !s.modeAllows (s.assignmentsInService ch assignment) then .no .wrongMode
    else if (s.channel ch).proof ≠ .idle then .no .busy
    else match optionIndex? 6 assignment, lines? [testLine] with
      | some a, some [l] =>
          if outside 0 30000 zeroAt || outside 100 30000 span || outputInBankF l then .no .outOfRange
          else if a.any (fun p => !(s.pass p).defined) then .no .noRecord
          else if a.any (s.channelsFull ch) then .no .tableFull
          else
            let roles : Roles := [(.test ch, l)]
            if s.lineConflict roles then .no .lineConflict
            else
              let s1 := (s.changeChannel ch (Channel.define a zeroAt span)).bindLines roles
              .done (Event.of (if s1.listed ch then s1.wakeScanner else s1))
      | _, _ => .no .outOfRange

/-- DEFINE STATION (R157). -/
def State.defineEstopReply (estop : Option Nat) (s : State) : Reply :=
  if s.station.mode ≠ .setup then .no .wrongMode
  else match lines? [estop] with
    | some [l] =>
        if l.any (fun i => !inBankF i) then .no .outOfRange
        else
          let roles : Roles := [(.estop, l)]
          if s.lineConflict roles then .no .lineConflict
          else .done ((Event.of s).update (State.bindLines roles))
    | _ => .no .outOfRange

/-! ## The meanings -/

/-- DEFINE_PASS: the body's length follows from its segment count (R178). -/
def execDefinePass (rq : Request) (pass height count : Nat) (segments : List Segment) (s : State) :
    Result :=
  .next (request rq (4 + 4 * count) (State.definePassReply pass height segments) s)

/-- DEFINE_TIP (R46). -/
def execDefineTip (rq : Request) (tip pass elevation load level : Nat)
    (grizzly call sensor lamp oversize : Option Nat) (s : State) : Result :=
  .next (request rq 12
    (State.defineTipReply tip pass elevation load level grizzly call sensor lamp oversize) s)

/-- DEFINE_CHUTE (R73). -/
def execDefineChute (rq : Request) (chute pass elevation volume : Nat)
    (openValve closeValve openLimit closedLimit loadCall : Option Nat) (s : State) : Result :=
  .next (request rq 11 (State.defineChuteReply chute pass elevation volume openValve closeValve
    openLimit closedLimit loadCall) s)

/-- DEFINE_BREAKER_STATION (R100). -/
def execDefineBreakerStation (rq : Request) (station tip group : Nat) (s : State) : Result :=
  .next (request rq 3 (State.defineStationReply station tip group) s)

/-- DEFINE_BREAKER (R102). -/
def execDefineBreaker (rq : Request) (go code0 code1 inPosition grizzlyClear parked : Option Nat)
    (s : State) : Result :=
  .next (request rq 6 (State.defineBreakerReply go code0 code1 inPosition grizzlyClear parked) s)

/-- DEFINE_CHANNEL (R29). -/
def execDefineChannel (rq : Request) (channel : Nat) (assignment : Option Nat) (zeroAt span : Nat)
    (testLine : Option Nat) (s : State) : Result :=
  .next (request rq 7 (State.defineChannelReply channel assignment zeroAt span testLine) s)

/-- DEFINE_STATION (R157). -/
def execDefineStation (rq : Request) (estop : Option Nat) (s : State) : Result :=
  .next (request rq 1 (State.defineEstopReply estop) s)

end Sys2Proof.Machine
end

