-- ==== Sys2Proof/Machine/Expiries.lean ====
section
/-! DEFINITION. What happens at the plant and in time: levels of pins, debounce, the timers' expiries,
conversions and the passage of 0.1 s. A timer's expiry that finds its timer stopped changes nothing
(log 6). -/

namespace Sys2Proof.Machine

/-- RAW_LEVEL_CHANGE (R169, R170): the plant applies a level to the pin, which is the raw level where the
part does not drive it. -/
def execRawLevelChange (line : LineIdx) (level : Bool) (s : State) : Result :=
  .next (s.modLine line fun l => { l with plant := level }).refreshLines

/-- DEBOUNCE_EXPIRY (R170, R171): the debounced level takes the raw level, and the edge goes to the
function bound to the line. -/
def execDebounceExpiry (line : LineIdx) (s : State) : Result :=
  .next (occur s fun s =>
    let l := s.line line
    if l.timer.isSome then
      let ev := (Event.of s).update (State.modLine line fun l => { l with debounced := l.raw, timer := none })
      if l.raw = l.debounced then some ev
      else match l.binding with
        | some f => some (ev.deliver f l.raw)
        | none => some ev
    else none)

/-- GRANT_TIMER_EXPIRY (R62). -/
def execGrantTimerExpiry (tip : TipIdx) (s : State) : Result :=
  .next (occur s fun s =>
    if (s.tip tip).state = .granted ∧ (s.tip tip).timer.isSome then some ((Event.of s).lapse tip)
    else none)

/-- HOLD_TIMER_EXPIRY (R86). -/
def execHoldTimerExpiry (chute : ChuteIdx) (s : State) : Result :=
  .next (occur s fun s =>
    let x := s.chute chute
    if x.state = .holding ∧ x.holdTimer.isSome then
      some ((((Event.of s).update (State.modChute chute Chute.close)).touchChute chute).takeDebit chute)
    else none)

/-- A stroke fault: STROKE_FAULT and fault hold (R90, R91, R148). -/
def Chute.strokeFault (x : Chute) : Chute :=
  { x with faultHold := true, conds := raise .strokeFault x.conds }

/-- The stroke timer's expiry by the cycle state: an opening fault (R90), a closing fault (R91), or a
fault in RECLOSING, which turns a pending PASS into FAIL (R148). -/
def Event.strokeExpires (c : ChuteIdx) (ev : Event) : Event :=
  let x := ev.st.chute c
  match x.state with
  | .opening => (ev.update (State.modChute c fun x => x.close.strokeFault)).touchChute c
  | .closing => ev.update (State.modChute c fun x => { x.strokeFault with strokeTimer := none })
  | .reclosing =>
      ev.update (State.modChute c fun x =>
        { x.strokeFault with
          strokeTimer := none
          pendingProof := if x.pendingProof = some .pass then some .fail else x.pendingProof })
  | .closed => ev
  | .holding => ev
  | .nudging => ev

/-- STROKE_TIMER_EXPIRY (R90, R91, R148). One that was waiting when an event started its timer again is of
the timer as it ran, and makes no fault (R92, R94, R148; log 31). -/
def execStrokeTimerExpiry (chute : ChuteIdx) (s : State) : Result :=
  .next (occur s fun s =>
    if (s.chute chute).staleExpiry then
      some ((Event.of s).update (State.modChute chute fun x => { x with staleExpiry := false }))
    else if (s.chute chute).strokeTimer.isSome then some ((Event.of s).strokeExpires chute) else none)

/-- NUDGE_TIMER_EXPIRY (R147): with the closed limit still high the proof is FAIL and final. -/
def execNudgeTimerExpiry (chute : ChuteIdx) (s : State) : Result :=
  .next (occur s fun s =>
    let x := s.chute chute
    if x.state = .nudging ∧ x.nudgeTimer.isSome ∧ s.closedHigh chute = true then
      some ((Event.of s).finalise chute .fail)
    else none)

/-- CONVERSION_COMPLETION (R36): the reading is kept if the channel is enabled in the list active now,
and discarded otherwise; the scanner chooses the next channel at once (R33, R34). A current of 24.00 mA
or more reads 2400 (section 2.2). -/
def execConversionCompletion (current : Nat) (s : State) : Result :=
  .next (occur s fun s =>
    if s.scanner.converting then
      let ch := s.scanner.position
      let ev := if s.enabled ch then
          (Event.of s).keepConversion ch (min current Config.readingMax)
        else Event.of s
      some (ev.update State.chooseConversion)
    else none)

/-- STALENESS_EXPIRY (R40): the channel's age has reached its pass's stale limit (log 7). -/
def execStalenessExpiry (channel : ChannelIdx) (s : State) : Result :=
  .next (occur s fun s =>
    match (s.channel channel).assignment with
    | some p =>
        if s.staleDue (s.pass p).staleLimit p channel then
          some ((Event.of s).update (State.makeStale channel))
        else none
    | none => none)

/-- WINDOW_TIMER_EXPIRY (R152): FAIL. -/
def execWindowTimerExpiry (channel : ChannelIdx) (s : State) : Result :=
  .next (occur s fun s =>
    if (s.channel channel).proof = .proving ∧ (s.channel channel).windowTimer.isSome then
      some ((Event.of s).update (State.modChannel channel (Channel.proofResult .fail)))
    else none)

/-- SETTLE_MARK_EXPIRY (R152): later conversions count. -/
def execSettleMarkExpiry (channel : ChannelIdx) (s : State) : Result :=
  .next (occur s fun s =>
    if (s.channel channel).proof = .proving ∧ (s.channel channel).settleMark.isSome then
      some ((Event.of s).update (State.modChannel channel fun x => { x with settleMark := none }))
    else none)

/-- SETTLE_TIMER_EXPIRY (R131): a PENDING entry becomes LATE. -/
def execSettleTimerExpiry (entry : EntryIdx) (s : State) : Result :=
  .next (occur s fun s =>
    let x := s.entry entry
    if x.inUse = true ∧ x.state = .pending ∧ x.timer.isSome then
      some ((Event.of s).update (State.modEntry entry fun x =>
        { x with state := .late, timer := none, conds := raise .late x.conds }))
    else none)

/-- TRAVEL_TIMER_EXPIRY (R116). -/
def execTravelTimerExpiry (s : State) : Result :=
  .next (occur s fun s =>
    match s.breaker.current with
    | some j =>
        if s.breaker.state = .travelling ∧ s.breaker.travelTimer.isSome then
          some ((Event.of s).failTravel j)
        else none
    | none => none)

/-- BREAK_TIMER_EXPIRY (R115). -/
def execBreakTimerExpiry (s : State) : Result :=
  .next (occur s fun s =>
    match s.breaker.current with
    | some j =>
        if s.breaker.state = .breaking ∧ s.breaker.breakTimer.isSome then
          some ((Event.of s).failBreak j)
        else none
    | none => none)

/-- RETURN_TIMER_EXPIRY (R117). -/
def execReturnTimerExpiry (s : State) : Result :=
  .next (occur s fun s =>
    if s.breaker.state = .returning ∧ s.breaker.returnTimer.isSome then
      some ((Event.of s).update (State.modBreaker fun b =>
        { b with returnTimer := none, returnOverdue := true, conds := raise .returnOverdue b.conds }))
    else none)

/-- A running timer after 0.1 s; one at 0 waits for its expiry (log 5, log 6). -/
def tick (t : Timer) : Timer := t.map (· - 1)

/-- A running debounce timer, in ms, after 0.1 s (log 5). -/
def tickDebounce (t : Timer) : Timer := t.map (· - 100)

/-- Every 0.1 s the age of each channel grows by 1, saturating (R40); an undefined channel keeps its reset
values (R44; log 8). -/
def Channel.grow (x : Channel) : Channel :=
  { x with
    age := if x.defined then min (x.age + 1) Config.wordMax else x.age
    windowTimer := tick x.windowTimer, settleMark := tick x.settleMark }

/-- The passage of 0.1 s: ages grow (R40), and every running timer has 0.1 s less to run (overview,
"Units and Number Conventions"; log 5). -/
def State.passTime (s : State) : State :=
  (((((s.mapChannels fun _ x => x.grow).mapTips fun _ x => { x with timer := tick x.timer }).mapChutes
    fun _ x =>
      { x with strokeTimer := tick x.strokeTimer, holdTimer := tick x.holdTimer,
               nudgeTimer := tick x.nudgeTimer }).mapEntries
    fun _ x => { x with timer := tick x.timer }).mapLines
    fun _ l => { l with timer := tickDebounce l.timer }).modBreaker
    fun b => { b with travelTimer := tick b.travelTimer, breakTimer := tick b.breakTimer,
                      returnTimer := tick b.returnTimer }

/-- AGE_TICK (R40). -/
def execAgeTick (s : State) : Result := .next (if s.inReset then s else s.passTime)

end Sys2Proof.Machine
end

