-- ==== Sys2Proof/Machine/Frames.lean ====
section
/-! DEFINITION. The events of the link's line: frames that are no request, and the sending of answers
(R176, R177). -/

namespace Sys2Proof.Machine

/-- IGNORED_FRAME: a complete frame with a bad check, a foreign address, or a broadcast other than STOP
has no effect but its bytes' on the receiver (R176, R177). -/
def execIgnoredFrame (s : State) : Result := .next (if s.listening then s.frameOver else s)

/-- The frame in progress is discarded and the receiver hunts (R176). While the receiver hunts there is
none, and "it ignores every byte except A5h". -/
def State.discardFrame (s : State) : State :=
  if s.listening then s.modLink fun l => { l with receiver := .hunting } else s

/-- FRAME_GAP_TIMEOUT (R176). -/
def execFrameGapTimeout (s : State) : Result := .next s.discardFrame

/-- FRAMING_ERROR (R176). -/
def execFramingError (s : State) : Result := .next s.discardFrame

/-- LENGTH_ABOVE_240 (R176). -/
def execLengthAbove240 (s : State) : Result := .next s.discardFrame

/-- FRAME_START_BYTE: a hunting receiver starts a frame, and an answer not yet begun is dropped (R176,
R177). "An A5h inside a frame is taken as data", which the model holds no more of (log 10). -/
def execFrameStartByte (s : State) : Result :=
  .next (if s.listening && decide (s.link.receiver = .hunting) then
    s.modLink fun l => { l with receiver := .receiving [Config.requestStart], answer := none }
  else s)

/-- ANSWER_SEND: the part begins sending the answer that waits (R177). -/
def execAnswerSend (s : State) : Result :=
  .next (if s.listening then
    match s.link.answer with
    | some a => s.modLink fun l => { l with answer := none, sending := some (a.frame l.address) }
    | none => s
  else s)

/-- ANSWER_SENT: the driver turns off and the receiver takes bytes again (R175, R177). -/
def execAnswerSent (s : State) : Result :=
  .next (if s.inReset then s else s.modLink fun l => { l with sending := none })

end Sys2Proof.Machine
end

