-- ==== Sys2Proof/Machine/Plant.lean ====
section
/-! DEFINITION. The requests on passes, tip points, chutes and the breaker (R19, R20, R52, R54, R96, R97,
R106, R107). -/

namespace Sys2Proof.Machine

/-- SET FILL (R19): the change of E, and an entry into RUNNING, are handed on. -/
def State.setFillReply (pass volume : Nat) (s : State) : Reply :=
  withIndex 6 pass fun p =>
    let q := s.pass p
    if !q.defined then .no .noRecord
    else
      let ev := (Event.of s).update (State.modPass p (Pass.setFill volume))
      let moved := decide ((ev.st.pass p).e ≠ q.e ∨ (ev.st.pass p).state ≠ q.state)
      .take (if moved then ev.handOn p else ev) fun t => bigEndian 3 (t.pass p).e

/-- CLEAR HANG (R20). -/
def State.clearHangReply (pass : Nat) (s : State) : Reply :=
  withIndex 6 pass fun p =>
    if !(s.pass p).defined then .no .noRecord
    else if (s.pass p).state ≠ .hung then .no .wrongMode
    else .done (((Event.of s).update
      (State.modPass p fun q => { q with state := .running, d := 0 })).handOn p)

/-- CALL TIP (R52): the body carries the tip state once the request and any arbiter run are complete. -/
def State.callTipReply (tip : Nat) (s : State) : Reply :=
  withIndex 16 tip fun t =>
    if !(s.tip t).defined then .no .noRecord
    else .take
      (if (s.tip t).state = .idle then (Event.of s).placeCall t .link else Event.of s)
      fun u => bigEndian 1 (u.tip t).state.code

/-- WITHDRAW (R54). -/
def State.withdrawReply (tip : Nat) (s : State) : Reply :=
  withIndex 16 tip fun t =>
    if !(s.tip t).defined then .no .noRecord
    else .take
      (if (s.tip t).state = .waiting then (Event.of s).update (State.withdrawCall t) else Event.of s)
      fun u => bigEndian 1 (u.tip t).state.code

/-- ORDER (R96). -/
def State.orderReply (chute count : Nat) (s : State) : Reply :=
  withIndex 8 chute fun c =>
    if !(s.chute c).defined then .no .noRecord
    else if (s.chute c).proofDue then .no .proofDue
    else .take
      (((Event.of s).update (State.modChute c fun x => { x with count := count })).triggerTries [c])
      fun t => bigEndian 1 (t.chute c).count

/-- held becomes `b` for each defined chute in the set (R97). -/
def State.setHeld (chutes : BitVec 8) (b : Bool) (s : State) : State :=
  s.mapChutes fun c x => if chutes.getLsbD c && x.defined then { x with held := b } else x

/-- "The answer body to either request carries the set of defined chutes that are held after it" (R97). -/
def State.heldBody (s : State) : List Byte :=
  bigEndian 1 (bitmap 8 fun c => (s.chute c).defined && (s.chute c).held)

/-- HOLD (R97). -/
def State.holdReply (chutes : BitVec 8) (s : State) : Reply :=
  .take ((Event.of s).update (State.setHeld chutes true)) State.heldBody

/-- FREE (R97): each freed chute tries to start. -/
def State.freeReply (chutes : BitVec 8) (s : State) : Reply :=
  .take (((Event.of s).update (State.setHeld chutes false)).triggerTries
      ((List.finRange 8).filter fun c => chutes.getLsbD c && (s.chute c).defined))
    State.heldBody

/-- BREAK (R106): retry-held is cleared, then the job is handed to R105. -/
def State.breakReply (station level : Nat) (s : State) : Reply :=
  withIndex 4 station fun k =>
    if !(s.bst k).defined then .no .noRecord
    else if level = 0 then .no .outOfRange
    else .take
      (((Event.of s).update (State.modBst k fun x => { x with retryHeld := false })).arrive
        k (min level 7) .link)
      fun _ => bigEndian 1 (min level 7) ++ bigEndian 1 (s.disposition k).code

/-- FLOOR (R107). -/
def State.floorReply (level : Nat) (s : State) : Reply :=
  .take (((Event.of s).update
      (State.modBreaker fun b => { b with floor := min level Config.floorMax })).triggerChoice)
    fun t => bigEndian 1 t.breaker.floor

/-- SET_FILL (R19). -/
def execSetFill (rq : Request) (pass volume : Nat) (s : State) : Result :=
  .next (request rq 4 (State.setFillReply pass volume) s)

/-- CLEAR_HANG (R20). -/
def execClearHang (rq : Request) (pass : Nat) (s : State) : Result :=
  .next (request rq 1 (State.clearHangReply pass) s)

/-- CALL_TIP (R52). -/
def execCallTip (rq : Request) (tip : Nat) (s : State) : Result :=
  .next (request rq 1 (State.callTipReply tip) s)

/-- WITHDRAW (R54). -/
def execWithdraw (rq : Request) (tip : Nat) (s : State) : Result :=
  .next (request rq 1 (State.withdrawReply tip) s)

/-- ORDER (R96). -/
def execOrder (rq : Request) (chute count : Nat) (s : State) : Result :=
  .next (request rq 2 (State.orderReply chute count) s)

/-- HOLD (R97). -/
def execHold (rq : Request) (chutes : BitVec 8) (s : State) : Result :=
  .next (request rq 1 (State.holdReply chutes) s)

/-- FREE (R97). -/
def execFree (rq : Request) (chutes : BitVec 8) (s : State) : Result :=
  .next (request rq 1 (State.freeReply chutes) s)

/-- BREAK (R106). -/
def execBreak (rq : Request) (station level : Nat) (s : State) : Result :=
  .next (request rq 2 (State.breakReply station level) s)

/-- FLOOR (R107). -/
def execFloor (rq : Request) (level : Nat) (s : State) : Result :=
  .next (request rq 1 (State.floorReply level) s)

end Sys2Proof.Machine
end

