-- ==== Sys2Proof/Machine/Proofs.lean ====
section
/-! DEFINITION. PROVE CHUTE, PROVE CHANNEL and ACCEPT PROOF (R145, R146, R151, R153). -/

namespace Sys2Proof.Machine

/-- The start of a nudge proof (R146). -/
def Chute.nudge (x : Chute) : Chute :=
  { x with state := .nudging, nudgeTimer := some x.nudgeTime, pendingProof := none }

/-- PROVE CHUTE (R145, R146). NUDGING is numbered in the answer as in READ (log 13). -/
def State.proveChuteReply (chute : Nat) (s : State) : Reply :=
  withIndex 8 chute fun c =>
    let x := s.chute c
    let state := (s.pass x.pass).state
    if !x.defined then .no .noRecord
    else if s.station.mode ≠ .run then .no .wrongMode
    else if !s.chuteSafe c || x.proofHold then .no .busy
    else if s.chuteCovered c then .no .covered
    else if state ≠ .running ∧ state ≠ .unknown then .no .wrongMode
    else .take (((Event.of s).update (State.modChute c Chute.nudge)).touchChute c)
      fun t => bigEndian 1 (t.chute c).state.code ++ bigEndian 1 x.nudgeTime

/-- The start of a test-current proof (R151). -/
def Channel.prove (window : Nat) (x : Channel) : Channel :=
  { x with proof := .proving, windowTimer := some window, settleMark := some Config.settleMark }

/-- PROVE CHANNEL (R151): the loss of use is handed to R41. PROVING is numbered in the answer as in the channel
record (log 13). -/
def State.proveChannelReply (channel : Nat) (s : State) : Reply :=
  withIndex 8 channel fun ch =>
    let x := s.channel ch
    if !x.defined || x.assignment.isNone || !s.bound (.test ch) then .no .noRecord
    else if x.proof ≠ .idle then .no .busy
    else .take ((Event.of s).update (State.changeChannel ch (Channel.prove s.station.proofWindow)))
      fun t => bigEndian 1 (t.channel ch).proof.code ++ bigEndian 2 s.station.proofWindow

/-- The acceptance of a chute's result (R153). -/
def Chute.accept (x : Chute) : Chute :=
  { x with proofHold := false, cycles := if x.lastProof = .pass then 0 else x.cycles }

/-- ACCEPT PROOF of a chute (R153). -/
def State.acceptChuteReply (index : Nat) (s : State) : Reply :=
  withIndex 8 index fun c =>
    let x := s.chute c
    if !x.defined then .no .noRecord
    else if x.state = .nudging ∨ x.state = .reclosing then .no .busy
    else .take
      (if x.proofHold then ((Event.of s).update (State.modChute c Chute.accept)).triggerTries [c]
        else Event.of s)
      fun t => bigEndian 1 (t.chute c).lastProof.code ++ yesNo (t.chute c).proofHold
        ++ bigEndian 2 (t.chute c).cycles

/-- ACCEPT PROOF of a channel (R153, R42). -/
def State.acceptChannelReply (index : Nat) (s : State) : Reply :=
  withIndex 8 index fun ch =>
    let x := s.channel ch
    if !x.defined then .no .noRecord
    else if x.proof = .proving then .no .busy
    else .take
      (if x.proof = .held then
        (Event.of s).update (State.modChannel ch fun x => { x with proof := .idle, state := .none })
        else Event.of s)
      fun t => bigEndian 1 (t.channel ch).lastProof.code ++ bigEndian 1 (t.channel ch).proof.code

/-- ACCEPT PROOF: types 2 and 6 only, and OUT_OF_RANGE for any other type (R153, R179). For a type that R179 lists
and ACCEPT PROOF does not take, the type is refused before the index is looked at, whatever the index: a DESIGN
CHOICE between R178's steps 3 and 4 and R179, unsafe (log 32). -/
def State.acceptProofReply (type index : Nat) (s : State) : Reply :=
  match type with
  | 2 => s.acceptChuteReply index
  | 6 => s.acceptChannelReply index
  | _ => .no .outOfRange

/-- PROVE_CHUTE (R145). -/
def execProveChute (rq : Request) (chute : Nat) (s : State) : Result :=
  .next (request rq 1 (State.proveChuteReply chute) s)

/-- PROVE_CHANNEL (R151). -/
def execProveChannel (rq : Request) (channel : Nat) (s : State) : Result :=
  .next (request rq 1 (State.proveChannelReply channel) s)

/-- ACCEPT_PROOF (R153). -/
def execAcceptProof (rq : Request) (type index : Nat) (s : State) : Result :=
  .next (request rq 2 (State.acceptProofReply type index) s)

end Sys2Proof.Machine
end

