-- ==== Sys2Proof/Machine/Reads.lean ====
section
/-! DEFINITION. The requests that report and change nothing: READ (R179), LINES READ (R173), SUMMARY
(R181); and a request the table does not know (R178). -/

namespace Sys2Proof.Machine

/-- READ (R179). -/
def execRead (rq : Request) (type index : Nat) (s : State) : Result :=
  .next (request rq 2 (State.readReply type index) s)

/-- LINES_READ (R173). -/
def execLinesRead (rq : Request) (bank : Nat) (s : State) : Result :=
  .next (request rq 1 (fun s => withIndex 6 bank fun b => .report (s.bankBody b)) s)

/-- SUMMARY (R181). -/
def execSummary (rq : Request) (s : State) : Result :=
  .next (request rq 0 (fun s => .report s.summaryBody) s)

/-- UNKNOWN_REQUEST: the code is checked before the length (R178). -/
def execUnknownRequest (rq : Request) (_code : Nat) (s : State) : Result :=
  .next (request rq rq.length (fun _ => .no .unknownRequest) s)

end Sys2Proof.Machine
end

