-- ==== Sys2Proof/Machine/Stations.lean ====
section
/-! DEFINITION. START, STOP, RESUME, SETUP, ACKNOWLEDGE and the broadcast STOP (R159 to R164, R177,
R180). -/

namespace Sys2Proof.Machine

/-- A defined tip point fails START's check: its elevation, or a line it needs (R159 step 2). -/
def State.tipFails (s : State) (t : TipIdx) : Bool :=
  let x := s.tip t
  x.defined && (decide ((s.pass x.pass).height < x.elevation)
    || !s.bound (.call t) || !s.bound (.tipSensor t) || !s.bound (.lamp t)
    || (x.grizzly.isSome && !s.bound (.oversize t)))

/-- A defined chute fails START's check: its elevation, or one of its five lines (R159 step 3). -/
def State.chuteFails (s : State) (c : ChuteIdx) : Bool :=
  let x := s.chute c
  x.defined && (decide ((s.pass x.pass).height < x.elevation)
    || !s.bound (.openValve c) || !s.bound (.closeValve c) || !s.bound (.openLimit c)
    || !s.bound (.closedLimit c) || !s.bound (.loadCall c))

/-- All six breaker lines are bound (R159 step 5). -/
def State.breakerWired (s : State) : Bool :=
  s.bound .go && s.bound .code0 && s.bound .code1 && s.bound .inPosition && s.bound .grizzlyClear
    && s.bound .parked

/-- The record type and index of the first record that fails START's checks, in their order (R159). -/
def State.geometryFault (s : State) : Option (Nat × Nat) :=
  ((List.finRange 6).find? fun p =>
      (s.pass p).defined && decide (profileHeight (s.pass p).profile ≠ (s.pass p).height)).map
    (fun p => (0, p.val))
  <|> ((List.finRange 16).find? s.tipFails).map (fun t => (1, t.val))
  <|> ((List.finRange 8).find? s.chuteFails).map (fun c => (2, c.val))
  <|> ((List.finRange 4).find? fun k =>
      (s.bst k).defined && decide ((s.tip (s.bst k).tip).grizzly ≠ some k)).map (fun k => (3, k.val))
  <|> (if (List.finRange 4).any (fun k => (s.bst k).defined) && !s.breakerWired then some (4, 0)
      else none)
  <|> (if s.bound .estop then none else some (7, 0))

/-- The station has entered RUN: every pass's arbiter, every chute with a pending call, and the
breaker's choice are triggered (R160 steps 3 and 4, R163). -/
def Event.enterRun (ev : Event) : Event :=
  (({ ev with arb := List.finRange 6 } : Event).triggerTries (List.finRange 8)).triggerChoice

/-- An accepted START (R160). -/
def Event.start (ev : Event) : Event :=
  ((ev.update (State.modStation fun x => { x with mode := .run })).update
    (State.mapPasses fun _ q => q.start)).enterRun

/-- START (R159, R160). RUN is numbered in the answer as in the station record (log 13). -/
def State.startReply (s : State) : Reply :=
  if s.station.mode ≠ .setup then .no .wrongMode
  else match s.geometryFault with
    | some (type, index) => .refuse .geometry (bigEndian 1 type ++ bigEndian 1 index)
    | none =>
        if s.level .estop || decide (s.station.causes ≠ HaltCauses.empty) then .no .stopActive
        else .take (Event.of s).start fun t => bigEndian 1 t.station.mode.code

/-- STOP (R161). -/
def State.stopReply (s : State) : Reply :=
  if s.station.mode = .setup then .no .wrongMode
  else .take ((Event.of s).callHalt .linkStop) State.modeAndCauses

/-- RESUME (R163). -/
def State.resumeReply (s : State) : Reply :=
  if s.level .estop then .no .stopActive
  else
    let cleared := (Event.of s).update (State.modStation fun x => { x with causes := HaltCauses.empty })
    let ev := match s.station.mode with
      | .halted => (cleared.update (State.modStation fun x => { x with mode := .run })).enterRun
      | .setup => cleared
      | .run => Event.of s
    .take ev State.modeAndCauses

/-- An accepted SETUP request (R164). -/
def State.enterSetup (s : State) : State :=
  (((s.modStation fun x => { x with mode := .setup }).mapPasses fun _ q =>
    { q with waiting := [] }).mapTips fun _ x =>
      { x with state := if x.state = .waiting then .idle else x.state }).mapChutes fun _ x =>
        { x with callPending := false, emptyReported := false, cushionReported := false }

/-- SETUP (R164). -/
def State.setupReply (s : State) : Reply :=
  if s.station.mode ≠ .halted then .no .wrongMode
  else .take ((Event.of s).update State.enterSetup) fun t => bigEndian 1 t.station.mode.code

/-- A chute's conditions are acknowledged: fault hold is cleared with STROKE_FAULT (R91, R180). -/
def Chute.acknowledge (set : CondSet) (x : Chute) : Chute :=
  { x with
    conds := acknowledged set x.conds
    faultHold := if raised .strokeFault set && raised .strokeFault x.conds then false else x.faultHold }

/-- An entry's conditions are acknowledged: the first breach is cleared with BREACH (R133, R180). -/
def Entry.acknowledge (set : CondSet) (x : Entry) : Entry :=
  { x with
    conds := acknowledged set x.conds
    firstBreach := if raised .breach set && raised .breach x.conds then none else x.firstBreach }

/-- ACKNOWLEDGE by record type and index (R180): no record holds a kind that does not belong to its type,
so such a kind is passed over. -/
def State.acknowledgeReply (type index : Nat) (set : CondSet) (s : State) : Reply :=
  let of := Event.of s
  match type with
  | 0 => withIndex 6 index fun p =>
      .take (of.update (State.modPass p fun q => { q with conds := acknowledged set q.conds }))
        fun t => condBytes (t.pass p).conds
  | 1 => withIndex 16 index fun i =>
      .take (of.update (State.modTip i fun x => { x with conds := acknowledged set x.conds }))
        fun t => condBytes (t.tip i).conds
  | 2 => withIndex 8 index fun c =>
      let ev := of.update (State.modChute c (Chute.acknowledge set))
      .take (if raised .strokeFault set && raised .strokeFault (s.chute c).conds then
          ev.triggerTries [c] else ev)
        fun t => condBytes (t.chute c).conds
  | 3 => withIndex 4 index fun k =>
      .take (of.update (State.modBst k fun x => { x with conds := acknowledged set x.conds }))
        fun t => condBytes (t.bst k).conds
  | 4 => withIndex 1 index fun _ =>
      .take (of.update (State.modBreaker fun b => { b with conds := acknowledged set b.conds }))
        fun t => condBytes t.breaker.conds
  | 5 => withIndex 24 index fun e =>
      .take (of.update (State.modEntry e (Entry.acknowledge set)))
        fun t => condBytes (t.entry e).conds
  | 6 => withIndex 8 index fun ch =>
      .take (of.update (State.modChannel ch fun x => { x with conds := acknowledged set x.conds }))
        fun t => condBytes (t.channel ch).conds
  | 7 => withIndex 1 index fun _ =>
      .take (of.update (State.modStation fun x => { x with conds := acknowledged set x.conds }))
        fun t => condBytes t.station.conds
  | _ => .no .outOfRange

/-- START (R159). -/
def execStart (rq : Request) (s : State) : Result := .next (request rq 0 State.startReply s)

/-- STOP (R161). -/
def execStop (rq : Request) (s : State) : Result := .next (request rq 0 State.stopReply s)

/-- RESUME (R163). -/
def execResume (rq : Request) (s : State) : Result := .next (request rq 0 State.resumeReply s)

/-- SETUP (R164). -/
def execSetup (rq : Request) (s : State) : Result := .next (request rq 0 State.setupReply s)

/-- ACKNOWLEDGE (R180). -/
def execAcknowledge (rq : Request) (type index : Nat) (conditions : BitVec 32) (s : State) : Result :=
  .next (request rq 6 (State.acknowledgeReply type index conditions) s)

/-- BROADCAST_STOP (R161, R177): never answered. -/
def execBroadcastStop (s : State) : Result :=
  .next (if s.listening then ((Event.of s.frameOver).callHalt .broadcastStop).finish else s)

end Sys2Proof.Machine
end

