-- ==== Sys2Proof/Machine/Tunes.lean ====
section
/-! DEFINITION. The tuning requests, which clamp and store (R6, R50, R77, R158), and the host's settings of
the scan lists, the lines and the attention mask (R43, R174, R182). -/

namespace Sys2Proof.Machine

/-- The six tuning values of TUNE PASS, clamped in the order of R6. -/
def Pass.tune (tipLimit cushion hang shift disagreement stale : Nat) (q : Pass) : Pass :=
  let limit := min tipLimit q.capacity
  { q with
    tipLimit := limit
    cushion := min cushion limit
    hangThreshold := clamp 10 60000 hang
    blendShift := min shift 4
    disagreement := min disagreement 60000
    staleLimit := clamp 10 600 stale }

/-- The channels of the pass whose age is already at or above a lowered stale limit become STALE (R40). -/
def State.staleAtLimit (p : PassIdx) (s : State) : State :=
  ((List.finRange 8).filter (s.staleDue (s.pass p).staleLimit p)).foldl (fun s ch => s.makeStale ch) s

/-- The change TUNE PASS makes, and what it hands on: a changed tip limit triggers the arbiter, a changed
cushion the chutes' tries, a lowered stale limit acts on the channels (R6, R26, R40). -/
def Event.tunePass (p : PassIdx) (f : Pass → Pass) (ev : Event) : Event :=
  let q := ev.st.pass p
  let ev1 := ev.update (State.modPass p f)
  let ev2 := if (f q).staleLimit < q.staleLimit then ev1.update (State.staleAtLimit p) else ev1
  let ev3 := if (f q).tipLimit = q.tipLimit then ev2 else ev2.triggerArbiter p
  if (f q).cushion = q.cushion then ev3 else ev3.triggerTries (ev.st.chutesOf p)

/-- The six values taken (R6). -/
def Pass.tuning (q : Pass) : List Byte :=
  bigEndian 3 q.tipLimit ++ bigEndian 3 q.cushion ++ bigEndian 2 q.hangThreshold
    ++ bigEndian 1 q.blendShift ++ bigEndian 2 q.disagreement ++ bigEndian 2 q.staleLimit

/-- TUNE PASS (R6). -/
def State.tunePassReply (pass tipLimit cushion hang shift disagreement stale : Nat) (s : State) : Reply :=
  withIndex 6 pass fun p =>
    if !(s.pass p).defined then .no .noRecord
    else .take ((Event.of s).tunePass p (Pass.tune tipLimit cushion hang shift disagreement stale))
      fun t => (t.pass p).tuning

/-- TUNE TIP (R50). -/
def State.tuneTipReply (tip timeout level : Nat) (s : State) : Reply :=
  withIndex 16 tip fun t =>
    if !(s.tip t).defined then .no .noRecord
    else .take ((Event.of s).update (State.modTip t fun x =>
        { x with timeout := clamp 100 6000 timeout, level := min level 7 }))
      fun u => bigEndian 2 (u.tip t).timeout ++ bigEndian 1 (u.tip t).level

/-- The values of TUNE CHUTE, clamped; PROOF_DUE is raised if the chute becomes proof due (R77). -/
def Chute.tune (holdTime strokeTime nudgeTime interval : Nat) (x : Chute) : Chute :=
  let y :=
    { x with
      holdTime := clamp 5 300 holdTime, strokeTime := clamp 10 600 strokeTime
      nudgeTime := clamp 2 20 nudgeTime, interval := min interval Config.wordMax }
  { y with conds := raiseIf (!x.proofDue && y.proofDue) .proofDue y.conds }

/-- TUNE CHUTE (R77). -/
def State.tuneChuteReply (chute holdTime strokeTime nudgeTime interval : Nat) (s : State) : Reply :=
  withIndex 8 chute fun c =>
    if !(s.chute c).defined then .no .noRecord
    else .take ((Event.of s).update (State.modChute c
        (Chute.tune holdTime strokeTime nudgeTime interval)))
      fun t => bigEndian 2 (t.chute c).holdTime ++ bigEndian 2 (t.chute c).strokeTime
        ++ bigEndian 1 (t.chute c).nudgeTime ++ bigEndian 2 (t.chute c).interval

/-- The values of TUNE STATION, clamped and stored at their owners (R104, R158). -/
def State.tuneStation (settleTime travelLimit breakLimit proofWindow : Nat) (s : State) : State :=
  (s.modStation fun x =>
    { x with settleTime := clamp 50 6000 settleTime, proofWindow := clamp 30 300 proofWindow }).modBreaker
    fun b => { b with travelLimit := clamp 50 3000 travelLimit, breakLimit := clamp 100 18000 breakLimit }

/-- TUNE STATION (R158). -/
def State.tuneStationReply (settleTime travelLimit breakLimit proofWindow : Nat) (s : State) : Reply :=
  .take ((Event.of s).update (State.tuneStation settleTime travelLimit breakLimit proofWindow))
    fun t => bigEndian 2 t.station.settleTime ++ bigEndian 2 t.breaker.travelLimit
      ++ bigEndian 2 t.breaker.breakLimit ++ bigEndian 2 t.station.proofWindow

/-- The list flags of SCAN LIST, for defined and undefined channels alike (R43). -/
def State.setLists (quiet breaking : BitVec 8) (s : State) : State :=
  s.mapChannels fun ch x =>
    { x with inQuiet := quiet.getLsbD ch, inBreaking := breaking.getLsbD ch }

/-- SCAN LIST (R43): an idle scanner makes a new choice (R34). -/
def State.scanListReply (quiet breaking : BitVec 8) (s : State) : Reply :=
  .take ((Event.of s).update fun s => (s.setLists quiet breaking).wakeScanner)
    fun _ => [quiet, breaking]

/-- LINES WRITE (R174). -/
def State.linesWriteReply (bank : Nat) (directionSet directions latchSet latches : BitVec 8)
    (debounce : Option Nat) (s : State) : Reply :=
  withIndex 6 bank fun b =>
    .take ((Event.of s).update fun s =>
        (s.writeLines b directionSet directions latchSet latches).writeDebounce b debounce)
      (State.bankBody b)

/-- ATTENTION MASK (R182): bits 23–31 are not kept. -/
def State.attentionMaskReply (kinds : BitVec 32) (s : State) : Reply :=
  .take ((Event.of s).update (State.modStation fun x => { x with mask := kinds &&& fullMask }))
    fun t => condBytes t.station.mask

/-- TUNE_PASS (R6). -/
def execTunePass (rq : Request) (pass tipLimit cushion hang shift disagreement stale : Nat) (s : State) :
    Result :=
  .next (request rq 14 (State.tunePassReply pass tipLimit cushion hang shift disagreement stale) s)

/-- TUNE_TIP (R50). -/
def execTuneTip (rq : Request) (tip timeout level : Nat) (s : State) : Result :=
  .next (request rq 4 (State.tuneTipReply tip timeout level) s)

/-- TUNE_CHUTE (R77). -/
def execTuneChute (rq : Request) (chute holdTime strokeTime nudgeTime interval : Nat) (s : State) :
    Result :=
  .next (request rq 8 (State.tuneChuteReply chute holdTime strokeTime nudgeTime interval) s)

/-- TUNE_STATION (R158). -/
def execTuneStation (rq : Request) (settleTime travelLimit breakLimit proofWindow : Nat) (s : State) :
    Result :=
  .next (request rq 8 (State.tuneStationReply settleTime travelLimit breakLimit proofWindow) s)

/-- SCAN_LIST (R43). -/
def execScanList (rq : Request) (quiet breaking : BitVec 8) (s : State) : Result :=
  .next (request rq 2 (State.scanListReply quiet breaking) s)

/-- LINES_WRITE (R174). -/
def execLinesWrite (rq : Request) (bank : Nat) (directionSet directions latchSet latches : BitVec 8)
    (debounce : Option Nat) (s : State) : Result :=
  .next (request rq 6
    (State.linesWriteReply bank directionSet directions latchSet latches debounce) s)

/-- ATTENTION_MASK (R182). -/
def execAttentionMask (rq : Request) (kinds : BitVec 32) (s : State) : Result :=
  .next (request rq 4 (State.attentionMaskReply kinds) s)

end Sys2Proof.Machine
end

