-- ==== Sys2Proof/Machine/Dispatch.lean ====
section
/-! DEFINITION. Every command to its meaning. -/

namespace Sys2Proof.Machine

def exec (i : Instr) (s : State) : Host.Outcome State Fault Refusal :=
  match i with
  | .powerOn => Sys2Proof.Machine.execPowerOn s
  | .resetLine => Sys2Proof.Machine.execResetLine s
  | .resetRelease address baud => Sys2Proof.Machine.execResetRelease address baud s
  | .definePass rq pass height count segments => Sys2Proof.Machine.execDefinePass rq pass height count segments s
  | .defineTip rq tip pass elevation load level grizzly call sensor lamp oversize => Sys2Proof.Machine.execDefineTip rq tip pass elevation load level grizzly call sensor lamp oversize s
  | .defineChute rq chute pass elevation volume openValve closeValve openLimit closedLimit loadCall => Sys2Proof.Machine.execDefineChute rq chute pass elevation volume openValve closeValve openLimit closedLimit loadCall s
  | .defineBreakerStation rq station tip group => Sys2Proof.Machine.execDefineBreakerStation rq station tip group s
  | .defineBreaker rq go code0 code1 inPosition grizzlyClear parked => Sys2Proof.Machine.execDefineBreaker rq go code0 code1 inPosition grizzlyClear parked s
  | .defineChannel rq channel assignment zeroAt span testLine => Sys2Proof.Machine.execDefineChannel rq channel assignment zeroAt span testLine s
  | .defineStation rq estop => Sys2Proof.Machine.execDefineStation rq estop s
  | .read rq type index => Sys2Proof.Machine.execRead rq type index s
  | .tunePass rq pass tipLimit cushion hang shift disagreement stale => Sys2Proof.Machine.execTunePass rq pass tipLimit cushion hang shift disagreement stale s
  | .tuneTip rq tip timeout level => Sys2Proof.Machine.execTuneTip rq tip timeout level s
  | .tuneChute rq chute holdTime strokeTime nudgeTime interval => Sys2Proof.Machine.execTuneChute rq chute holdTime strokeTime nudgeTime interval s
  | .tuneStation rq settleTime travelLimit breakLimit proofWindow => Sys2Proof.Machine.execTuneStation rq settleTime travelLimit breakLimit proofWindow s
  | .setFill rq pass volume => Sys2Proof.Machine.execSetFill rq pass volume s
  | .clearHang rq pass => Sys2Proof.Machine.execClearHang rq pass s
  | .callTip rq tip => Sys2Proof.Machine.execCallTip rq tip s
  | .withdraw rq tip => Sys2Proof.Machine.execWithdraw rq tip s
  | .order rq chute count => Sys2Proof.Machine.execOrder rq chute count s
  | .hold rq chutes => Sys2Proof.Machine.execHold rq chutes s
  | .free rq chutes => Sys2Proof.Machine.execFree rq chutes s
  | .breakJob rq station level => Sys2Proof.Machine.execBreak rq station level s
  | .floor rq level => Sys2Proof.Machine.execFloor rq level s
  | .postClearance rq kind pass low high tips chutes breaker tag => Sys2Proof.Machine.execPostClearance rq kind pass low high tips chutes breaker tag s
  | .join rq entry tag => Sys2Proof.Machine.execJoin rq entry tag s
  | .leave rq entry tag => Sys2Proof.Machine.execLeave rq entry tag s
  | .cancel rq entry => Sys2Proof.Machine.execCancel rq entry s
  | .proveChute rq chute => Sys2Proof.Machine.execProveChute rq chute s
  | .proveChannel rq channel => Sys2Proof.Machine.execProveChannel rq channel s
  | .acceptProof rq type index => Sys2Proof.Machine.execAcceptProof rq type index s
  | .linesRead rq bank => Sys2Proof.Machine.execLinesRead rq bank s
  | .linesWrite rq bank directionSet directions latchSet latches debounce => Sys2Proof.Machine.execLinesWrite rq bank directionSet directions latchSet latches debounce s
  | .scanList rq quiet breaking => Sys2Proof.Machine.execScanList rq quiet breaking s
  | .start rq => Sys2Proof.Machine.execStart rq s
  | .stop rq => Sys2Proof.Machine.execStop rq s
  | .resume rq => Sys2Proof.Machine.execResume rq s
  | .setup rq => Sys2Proof.Machine.execSetup rq s
  | .acknowledge rq type index conditions => Sys2Proof.Machine.execAcknowledge rq type index conditions s
  | .summary rq => Sys2Proof.Machine.execSummary rq s
  | .attentionMask rq kinds => Sys2Proof.Machine.execAttentionMask rq kinds s
  | .unknownRequest rq code => Sys2Proof.Machine.execUnknownRequest rq code s
  | .broadcastStop => Sys2Proof.Machine.execBroadcastStop s
  | .ignoredFrame => Sys2Proof.Machine.execIgnoredFrame s
  | .frameGapTimeout => Sys2Proof.Machine.execFrameGapTimeout s
  | .answerSend => Sys2Proof.Machine.execAnswerSend s
  | .rawLevelChange line level => Sys2Proof.Machine.execRawLevelChange line level s
  | .debounceExpiry line => Sys2Proof.Machine.execDebounceExpiry line s
  | .grantTimerExpiry tip => Sys2Proof.Machine.execGrantTimerExpiry tip s
  | .holdTimerExpiry chute => Sys2Proof.Machine.execHoldTimerExpiry chute s
  | .strokeTimerExpiry chute => Sys2Proof.Machine.execStrokeTimerExpiry chute s
  | .nudgeTimerExpiry chute => Sys2Proof.Machine.execNudgeTimerExpiry chute s
  | .conversionCompletion current => Sys2Proof.Machine.execConversionCompletion current s
  | .stalenessExpiry channel => Sys2Proof.Machine.execStalenessExpiry channel s
  | .windowTimerExpiry channel => Sys2Proof.Machine.execWindowTimerExpiry channel s
  | .settleMarkExpiry channel => Sys2Proof.Machine.execSettleMarkExpiry channel s
  | .settleTimerExpiry entry => Sys2Proof.Machine.execSettleTimerExpiry entry s
  | .travelTimerExpiry => Sys2Proof.Machine.execTravelTimerExpiry s
  | .breakTimerExpiry => Sys2Proof.Machine.execBreakTimerExpiry s
  | .returnTimerExpiry => Sys2Proof.Machine.execReturnTimerExpiry s
  | .frameStartByte => Sys2Proof.Machine.execFrameStartByte s
  | .framingError => Sys2Proof.Machine.execFramingError s
  | .lengthAbove240 => Sys2Proof.Machine.execLengthAbove240 s
  | .answerSent => Sys2Proof.Machine.execAnswerSent s
  | .ageTick => Sys2Proof.Machine.execAgeTick s

end Sys2Proof.Machine
end

