-- ==== Sys2Proof/Machine/Step.lean ====
section
/-! DEFINITION. One step: the command at the front of the queue is taken and runs to its end ("each whole
and indivisible"). -/

namespace Sys2Proof.Machine

/-- The command at the front of the queue runs with the queue's rest; on an empty queue nothing reaches the
part and it stays as it is. One queue, first in, first out, is a DESIGN CHOICE (log 4): of two events that come
together "either may be taken first", and the queue's order says which. -/
def step (s : State) : Host.Outcome State Fault Refusal :=
  match s.pending with
  | c :: rest => exec c { s with pending := rest }
  | [] => .next s

/-- The command a word spells is put at the front of the queue. The opcode table gives its rows no bits, so no
word spells one and the state is unchanged (log 4). -/
def State.withFetchWord (s : State) (nbits w : Nat) : State :=
  match decodeTableWord nbits w with
  | some c => { s with pending := c :: s.pending }
  | none => s

/-- The command the bytes of a frame spell for this station, at the front of the queue (R175, R176). -/
def State.withFrame (s : State) (frame : List Byte) : State :=
  match decodeFrame s.link.address frame with
  | some c => { s with pending := c :: s.pending }
  | none => s

end Sys2Proof.Machine
end

