-- ==== Sys2Proof/Safety.lean ====
section
/-! DEFINITION. The terms claims are stated in: what a command yields, when a request is taken and how it is
answered, and the laws every state a run reaches obeys. -/

namespace Sys2Proof

/-! ## Commands -/

/-- A request with its reply tag replaced. -/
def Request.withTag (tag : Nat) (rq : Request) : Request := { rq with tag := tag }

/-- The same request with another reply tag; a command that is no request is unchanged. -/
def Instr.withTag (tag : Nat) : Instr → Instr
  | .definePass rq a b c d => .definePass (rq.withTag tag) a b c d
  | .defineTip rq a b c d e f g h i j => .defineTip (rq.withTag tag) a b c d e f g h i j
  | .defineChute rq a b c d e f g h i => .defineChute (rq.withTag tag) a b c d e f g h i
  | .defineBreakerStation rq a b c => .defineBreakerStation (rq.withTag tag) a b c
  | .defineBreaker rq a b c d e f => .defineBreaker (rq.withTag tag) a b c d e f
  | .defineChannel rq a b c d e => .defineChannel (rq.withTag tag) a b c d e
  | .defineStation rq a => .defineStation (rq.withTag tag) a
  | .read rq a b => .read (rq.withTag tag) a b
  | .tunePass rq a b c d e f g => .tunePass (rq.withTag tag) a b c d e f g
  | .tuneTip rq a b c => .tuneTip (rq.withTag tag) a b c
  | .tuneChute rq a b c d e => .tuneChute (rq.withTag tag) a b c d e
  | .tuneStation rq a b c d => .tuneStation (rq.withTag tag) a b c d
  | .setFill rq a b => .setFill (rq.withTag tag) a b
  | .clearHang rq a => .clearHang (rq.withTag tag) a
  | .callTip rq a => .callTip (rq.withTag tag) a
  | .withdraw rq a => .withdraw (rq.withTag tag) a
  | .order rq a b => .order (rq.withTag tag) a b
  | .hold rq a => .hold (rq.withTag tag) a
  | .free rq a => .free (rq.withTag tag) a
  | .breakJob rq a b => .breakJob (rq.withTag tag) a b
  | .floor rq a => .floor (rq.withTag tag) a
  | .postClearance rq a b c d e f g h => .postClearance (rq.withTag tag) a b c d e f g h
  | .join rq a b => .join (rq.withTag tag) a b
  | .leave rq a b => .leave (rq.withTag tag) a b
  | .cancel rq a => .cancel (rq.withTag tag) a
  | .proveChute rq a => .proveChute (rq.withTag tag) a
  | .proveChannel rq a => .proveChannel (rq.withTag tag) a
  | .acceptProof rq a b => .acceptProof (rq.withTag tag) a b
  | .linesRead rq a => .linesRead (rq.withTag tag) a
  | .linesWrite rq a b c d e f => .linesWrite (rq.withTag tag) a b c d e f
  | .scanList rq a b => .scanList (rq.withTag tag) a b
  | .start rq => .start (rq.withTag tag)
  | .stop rq => .stop (rq.withTag tag)
  | .resume rq => .resume (rq.withTag tag)
  | .setup rq => .setup (rq.withTag tag)
  | .acknowledge rq a b c => .acknowledge (rq.withTag tag) a b c
  | .summary rq => .summary (rq.withTag tag)
  | .attentionMask rq a => .attentionMask (rq.withTag tag) a
  | .unknownRequest rq a => .unknownRequest (rq.withTag tag) a
  | .powerOn => .powerOn
  | .resetLine => .resetLine
  | .resetRelease a b => .resetRelease a b
  | .broadcastStop => .broadcastStop
  | .ignoredFrame => .ignoredFrame
  | .frameGapTimeout => .frameGapTimeout
  | .answerSend => .answerSend
  | .rawLevelChange a b => .rawLevelChange a b
  | .debounceExpiry a => .debounceExpiry a
  | .grantTimerExpiry a => .grantTimerExpiry a
  | .holdTimerExpiry a => .holdTimerExpiry a
  | .strokeTimerExpiry a => .strokeTimerExpiry a
  | .nudgeTimerExpiry a => .nudgeTimerExpiry a
  | .conversionCompletion a => .conversionCompletion a
  | .stalenessExpiry a => .stalenessExpiry a
  | .windowTimerExpiry a => .windowTimerExpiry a
  | .settleMarkExpiry a => .settleMarkExpiry a
  | .settleTimerExpiry a => .settleTimerExpiry a
  | .travelTimerExpiry => .travelTimerExpiry
  | .breakTimerExpiry => .breakTimerExpiry
  | .returnTimerExpiry => .returnTimerExpiry
  | .frameStartByte => .frameStartByte
  | .framingError => .framingError
  | .lengthAbove240 => .lengthAbove240
  | .answerSent => .answerSent
  | .ageTick => .ageTick

/-- The command is one a part held in reset still takes: a reset, its release, or a level at a pin
(R156, R166, R169). -/
def Instr.takenInReset : Instr → Bool
  | .powerOn => true
  | .resetLine => true
  | .resetRelease _ _ => true
  | .definePass _ _ _ _ _ => false
  | .defineTip _ _ _ _ _ _ _ _ _ _ _ => false
  | .defineChute _ _ _ _ _ _ _ _ _ _ => false
  | .defineBreakerStation _ _ _ _ => false
  | .defineBreaker _ _ _ _ _ _ _ => false
  | .defineChannel _ _ _ _ _ _ => false
  | .defineStation _ _ => false
  | .read _ _ _ => false
  | .tunePass _ _ _ _ _ _ _ _ => false
  | .tuneTip _ _ _ _ => false
  | .tuneChute _ _ _ _ _ _ => false
  | .tuneStation _ _ _ _ _ => false
  | .setFill _ _ _ => false
  | .clearHang _ _ => false
  | .callTip _ _ => false
  | .withdraw _ _ => false
  | .order _ _ _ => false
  | .hold _ _ => false
  | .free _ _ => false
  | .breakJob _ _ _ => false
  | .floor _ _ => false
  | .postClearance _ _ _ _ _ _ _ _ _ => false
  | .join _ _ _ => false
  | .leave _ _ _ => false
  | .cancel _ _ => false
  | .proveChute _ _ => false
  | .proveChannel _ _ => false
  | .acceptProof _ _ _ => false
  | .linesRead _ _ => false
  | .linesWrite _ _ _ _ _ _ _ => false
  | .scanList _ _ _ => false
  | .start _ => false
  | .stop _ => false
  | .resume _ => false
  | .setup _ => false
  | .acknowledge _ _ _ _ => false
  | .summary _ => false
  | .attentionMask _ _ => false
  | .unknownRequest _ _ => false
  | .broadcastStop => false
  | .ignoredFrame => false
  | .frameGapTimeout => false
  | .answerSend => false
  | .rawLevelChange _ _ => true
  | .debounceExpiry _ => false
  | .grantTimerExpiry _ => false
  | .holdTimerExpiry _ => false
  | .strokeTimerExpiry _ => false
  | .nudgeTimerExpiry _ => false
  | .conversionCompletion _ => false
  | .stalenessExpiry _ => false
  | .windowTimerExpiry _ => false
  | .settleMarkExpiry _ => false
  | .settleTimerExpiry _ => false
  | .travelTimerExpiry => false
  | .breakTimerExpiry => false
  | .returnTimerExpiry => false
  | .frameStartByte => false
  | .framingError => false
  | .lengthAbove240 => false
  | .answerSent => false
  | .ageTick => false

end Sys2Proof

namespace Sys2Proof.Machine

/-! ## Outcomes, requests and answers -/

/-- The command ends in a next state of which `P` holds. -/
def Yields (o : Host.Outcome State Fault Refusal) (P : State → Prop) : Prop := ∃ t, o = .next t ∧ P t

/-- A request whose body has the length its encoding gives is taken: the part receives, and it has an
address of its own (R156, R175, R177, R178). -/
def State.takes (s : State) (rq : Request) (length : Nat) : Bool :=
  s.listening && (ownAddress s.link.address).isSome && rq.length == length

/-- The answer that waits after a request: none for the tag FFFFh (R177). -/
def answerOf (rq : Request) (status : Status) (body : List Byte) : Option Answer :=
  if rq.tag = 0xFFFF then none else some ⟨rq.tag, status, body⟩

/-- The link after a request answered with this status and body (R176, R177). -/
def State.linkAnswered (s : State) (rq : Request) (status : Status) (body : List Byte) : Link :=
  { s.link with receiver := .hunting, answer := answerOf rq status body }

/-- What ends every event: each pin takes its level, and ATTN is judged (R169, R170, R183). -/
def State.endEvent (s : State) : State := s.refreshLines.judgeAttn

/-- A line's debounce expiry brings this edge to this function (R170, R171). -/
def State.edgeDue (s : State) (i : LineIdx) (f : LineFn) (rising : Bool) : Bool :=
  !s.inReset && (s.line i).timer.isSome && decide ((s.line i).binding = some f)
    && (s.line i).raw == rising && (s.line i).debounced == !rising

/-- The state once the line's debounced level has taken its raw level (R170). -/
def State.debounced (s : State) (i : LineIdx) : State :=
  s.modLine i fun l => { l with debounced := l.raw, timer := none }

/-- The passes whose arbiter an ended job of a station triggers: the pass of the tip point over that grizzly, if
the grizzly is now unblocked (R68, R108). -/
def State.endReport (s : State) (k : StationIdx) : List PassIdx :=
  match (List.finRange 16).find? fun t =>
      (s.tip t).defined && decide ((s.tip t).grizzly = some k) with
  | some t => if s.blocked t then [] else [(s.tip t).pass]
  | none => []

/-- The entries that cover a chute, and those that cover a tip point. -/
def State.coveringChute (s : State) (c : ChuteIdx) : List EntryIdx :=
  (List.finRange 24).filter (s.coversChute · c)
def State.coveringTip (s : State) (t : TipIdx) : List EntryIdx :=
  (List.finRange 24).filter (s.coversTip · t)

/-- The channel is the last that is usable for a RUNNING pass: its loss leaves the pass blind (R41). -/
def State.lastUsable (s : State) (p : PassIdx) (ch : ChannelIdx) : Bool :=
  s.usableFor p ch && decide ((s.pass p).state = .running)
    && (List.finRange 8).all fun o => decide (o = ch) || !s.usableFor p o

/-! ## Laws every state a run reaches obeys -/

/-- Every raw level is the level at its pin, and a debounce timer runs exactly where the raw level differs
from the debounced level; none runs while the part is held in reset, where nothing is bound (R166, R169,
R170). -/
def State.linesSettled (s : State) : Bool :=
  (List.finRange 48).all fun i =>
    (s.line i).raw == s.pinLevel i
      && ((s.line i).timer.isSome == (!s.inReset && ((s.line i).raw != (s.line i).debounced)))
      && (!s.inReset || (s.line i).binding.isNone)

/-- ATTN is asserted exactly while a record holds a raised condition of an enabled kind (R183). -/
def State.attnJudged (s : State) : Bool := s.attn == s.attention

/-- No entry that waits is settled: one that is has become IN_FORCE within the event that settled it
(R129, R130). -/
def State.noneSettled (s : State) : Bool :=
  (List.finRange 24).all fun e =>
    !((s.entry e).inUse && decide ((s.entry e).state ≠ .inForce) && s.settled e)

/-- Nothing is left over from the event before: what holds between events. -/
def State.steady (s : State) : Bool := s.linesSettled && s.attnJudged && s.noneSettled

/-- The ranges of a pass (R3, R4, R6, R7, R8), and D = 0 whenever it is not RUNNING (R8). -/
def Pass.lawful (q : Pass) : Bool :=
  decide (q.capacity = capacityOf q.profile) && decide (q.capacity ≤ 600000)
    && decide (q.e ≤ q.capacity) && decide (q.tipLimit ≤ q.capacity)
    && decide (q.cushion ≤ q.tipLimit) && decide (q.r ≤ 16777215) && decide (q.d ≤ 16777215)
    && (decide (q.state = .running) || decide (q.d = 0))
    && (q.known || (decide (q.state ≠ .running) && decide (q.state ≠ .hung)))

/-- Every pass is lawful (R7, R8). -/
def State.estimatesLawful (s : State) : Bool := (List.finRange 6).all fun p => (s.pass p).lawful

/-- Outside RUN no chute is OPENING, HOLDING or NUDGING, no tip point is GRANTED, and the breaker is neither
TRAVELLING nor BREAKING (R155). -/
def State.plantSafe (s : State) : Bool :=
  decide (s.station.mode = .run)
    || ((List.finRange 8).all (fun c => decide ((s.chute c).state ≠ .opening)
          && decide ((s.chute c).state ≠ .holding) && decide ((s.chute c).state ≠ .nudging))
      && (List.finRange 16).all (fun t => decide ((s.tip t).state ≠ .granted))
      && decide (s.breaker.state ≠ .travelling) && decide (s.breaker.state ≠ .breaking))

/-- While a pass is HUNG none of its chutes is OPENING, HOLDING or NUDGING (R93, R150). -/
def State.hungQuiet (s : State) : Bool :=
  (List.finRange 8).all fun c =>
    decide ((s.pass (s.chute c).pass).state ≠ .hung)
      || (decide ((s.chute c).state ≠ .opening) && decide ((s.chute c).state ≠ .holding)
        && decide ((s.chute c).state ≠ .nudging))

/-- A pass's waiting list holds exactly its WAITING tip points, each once, and all of these records are
defined (R55). -/
def State.listsLawful (s : State) : Bool :=
  (List.finRange 6).all (fun p => decide (s.pass p).waiting.Nodup
      && (List.finRange 16).all fun t =>
        decide (t ∈ (s.pass p).waiting ↔ (s.tip t).state = .waiting ∧ (s.tip t).pass = p))
    && (List.finRange 16).all (fun t => (s.tip t).defined || decide ((s.tip t).state = .idle))
    && (List.finRange 16).all (fun t => !(s.tip t).defined || (s.pass (s.tip t).pass).defined)

/-- The sum of the loads of a pass's GRANTED tip points (R24). -/
def State.grantedLoad (s : State) (p : PassIdx) : Nat :=
  ((List.finRange 16).map fun t =>
    if (s.tip t).state = .granted ∧ (s.tip t).pass = p then (s.tip t).load else 0).sum

/-- Reserved is that sum (R24), a grant stands only in RUN on a RUNNING pass (R60), and a grant timer runs
exactly while its tip point is GRANTED. -/
def State.grantsLawful (s : State) : Bool :=
  (List.finRange 6).all (fun p => decide ((s.pass p).reserved = s.grantedLoad p))
    && (List.finRange 16).all fun t =>
      ((s.tip t).timer.isSome == decide ((s.tip t).state = .granted))
        && (decide ((s.tip t).state ≠ .granted) || (decide (s.station.mode = .run)
          && decide ((s.pass (s.tip t).pass).state = .running)))

/-- A pass is OUT_OF_SERVICE exactly while a SERVICE entry on it is IN_FORCE, and such an entry names a
defined pass (R139). -/
def State.serviceLawful (s : State) : Bool :=
  (List.finRange 6).all (fun p =>
      decide ((s.pass p).state = .outOfService) == s.serviceInForce p)
    && (List.finRange 24).all fun e =>
      !(s.entry e).inUse || (s.entry e).pass.all fun p => (s.pass p).defined

/-- A free entry is cleared (R123); an entry in use has one to four holders, no tag twice, and its settle
timer runs exactly while it is PENDING (R128, R130, R131, R134). -/
def Entry.lawful (x : Entry) : Bool :=
  if x.inUse then
    decide (1 ≤ x.holders.length) && decide (x.holders.length ≤ 4) && decide x.holders.Nodup
      && x.holders.all (fun tag => decide (1 ≤ tag) && decide (tag ≤ 65534))
      && (x.timer.isSome == decide (x.state = .pending)) && decide (x.breaches ≤ 255)
  else decide (x = Entry.reset)

/-- Every clearance entry is lawful (R123, R134). -/
def State.entriesLawful (s : State) : Bool := (List.finRange 24).all fun e => (s.entry e).lawful

/-- At most one job for a station, in the list or as the current job; a current job exactly while the
breaker is TRAVELLING or BREAKING; each job for a defined station at a level 1–7 (R105, R106, R111). -/
def State.jobsLawful (s : State) : Bool :=
  decide ((s.breaker.current.toList ++ s.breaker.jobs).map Job.station).Nodup
    && (s.breaker.current.isSome == s.breaker.state.goes)
    && (s.breaker.current.toList ++ s.breaker.jobs).all fun j =>
      (s.bst j.station).defined && decide (1 ≤ j.level) && decide (j.level ≤ 7)

/-- Of the breaker's timers, the travel timer runs exactly in TRAVELLING, the break timer exactly in
BREAKING, and the return timer in RETURNING until it is overdue (R112 to R117). -/
def Breaker.timed (b : Breaker) : Bool :=
  (b.travelTimer.isSome == decide (b.state = .travelling))
    && (b.breakTimer.isSome == decide (b.state = .breaking))
    && (b.returnTimer.isSome == (decide (b.state = .returning) && !b.returnOverdue))
    && (!b.returnOverdue || decide (b.state = .returning))

/-- The chute's timers run as its cycle state says, and a pending proof result is present exactly in
RECLOSING (R84 to R91, R146 to R150, section 7.1). -/
def Chute.lawful (x : Chute) : Bool :=
  (x.holdTimer.isSome == decide (x.state = .holding))
    && (x.nudgeTimer.isSome == decide (x.state = .nudging))
    && (decide (x.state ≠ .opening) || x.strokeTimer.isSome)
    && (x.strokeTimer.isNone || decide (x.state = .opening ∨ x.state = .closing ∨ x.state = .reclosing))
    && (x.pendingProof.isSome == decide (x.state = .reclosing))
    && (decide (x.state ≠ .holding) || x.reachedOpen)

/-- Every chute is lawful (R84 to R91, R146 to R150). -/
def State.chutesLawful (s : State) : Bool := (List.finRange 8).all fun c => (s.chute c).lawful

/-- No function has two lines, and no line of bank F serves an output role (R167, R168). -/
def State.bindingsLawful (s : State) : Bool :=
  (List.finRange 48).all fun i => match (s.line i).binding with
    | none => true
    | some f => decide (s.lineOf f = some i) && !(f.isOutput && inBankF i)

/-- What an entry in use keeps still: no tip point it covers is GRANTED, no station it covers is being
travelled to or broken at, and once IN_FORCE every chute it covers is CLOSED and the breaker, if it carries
the breaker bit, is PARKED (R60, R129, R130). -/
def State.coverageLawful (s : State) : Bool :=
  (List.finRange 24).all fun e =>
    (List.finRange 16).all (fun t => !s.coversTip e t || decide ((s.tip t).state ≠ .granted))
      && (List.finRange 4).all (fun k => !s.coversStation e k || !s.breakerAt k)
      && (decide ((s.entry e).state ≠ .inForce)
        || ((List.finRange 8).all (fun c => !s.coversChute e c || decide ((s.chute c).state = .closed))
          && (!s.carriesBreaker e || decide (s.breaker.state = .parked))))

/-- Every tip point's level is at most 7: DEFINE TIP and TUNE TIP store no other (R47, R50). -/
def State.levelsLawful (s : State) : Bool := (List.finRange 16).all fun t => decide ((s.tip t).level ≤ 7)

/-- Every defined breaker station names a defined tip point (R100, R101). -/
def State.stationsLawful (s : State) : Bool :=
  (List.finRange 4).all fun k => !(s.bst k).defined || (s.tip (s.bst k).tip).defined

/-- An old expiry of a stroke timer that was started again is noted only while it waits next in the queue, and none
is noted while the part is held in reset (log 31). -/
def State.expiriesLawful (s : State) : Bool :=
  (List.finRange 8).all fun c =>
    !(s.chute c).staleExpiry || (!s.inReset && s.waitsNext (.strokeTimerExpiry c))

/-- The scanner is idle only while no channel is enabled in the active list (R34). -/
def State.scannerLawful (s : State) : Bool :=
  s.scanner.converting || (List.finRange 8).all fun ch => !s.enabled ch

end Sys2Proof.Machine
end

