-- ==== Sys2Proof/Certificates/Slice0/Obligations.lean ====
section
/-! DEFINITION. The statements for the provers. A change a rule spells out is written here as the rule spells
it; `Event.finish` is the end of an event (settling tests, arbiters, start tries, the breaker's choice, pins,
ATTN), `State.endEvent` its last two parts. -/

open Sys2Proof Sys2Proof.Machine

/-! ## The machine and the link -/

/-- A step takes the command at the front of the queue and runs it with the queue's rest; with no command
waiting the part stays as it is (both are the model's choice, log 4). -/
def Obligations.StepRunsTheFrontCommand : Prop :=
  ∀ (c : Instr) (s : State) (rest : List Instr),
    step { s with pending := c :: rest } = exec c { s with pending := rest }
      ∧ step { s with pending := [] } = .next { s with pending := [] }

/-- Every command ends in a next state and leaves the queue of waiting commands as it was; that queue is the
model's own field, which the spec does not speak of (log 4). -/
def Obligations.CommandsCompleteAndKeepTheQueue : Prop :=
  ∀ (c : Instr) (s : State), Yields (exec c s) fun t => t.pending = s.pending

/-- The check of the nine bytes 31h to 39h is 29B1h, and four whole frames written out byte by byte, from A5h to the
check, with the bodies of three, spell the commands they stand for (R175 to R178). -/
def Obligations.WrittenFramesSpellTheirCommands : Prop :=
  crcBytes [0x31, 0x32, 0x33, 0x34, 0x35, 0x36, 0x37, 0x38, 0x39] = [0x29, 0xB1]
    ∧ decodeFrame 62 [0xA5, 0x3E, 0x01, 0x02, 0x20, 0x01, 0x07, 0x23, 0x16] = some (.callTip ⟨0x0102, 1⟩ 7)
    ∧ decodeFrame 62 [0xA5, 0x3E, 0x01, 0x02, 0x15, 0x04, 0x02, 0x00, 0x18, 0x42, 0x67, 0x80]
      = some (.setFill ⟨0x0102, 4⟩ 2 6210)
    ∧ decodeFrame 1 [0xA5, 0x01, 0x00, 0x07, 0x38, 0x0C, 0x00, 0x01, 0x03, 0xE8, 0x07, 0xD0, 0x80, 0x01, 0x02, 0x01,
        0x00, 0x65, 0x08, 0x8F]
      = some (.postClearance ⟨7, 12⟩ 0 1 1000 2000 0x8001 0x02 true 101)
    ∧ decodeFrame 17 [0xA5, 0x11, 0x00, 0x09, 0x06, 0x07, 0x03, 0xFF, 0x01, 0x2C, 0x23, 0x28, 0xFF, 0x18, 0x7B]
      = some (.defineChannel ⟨9, 7⟩ 3 none 300 9000 none)
    ∧ decodeRequest 0x15 ⟨0x0102, 4⟩ [0x02, 0x00, 0x18, 0x42] = .setFill ⟨0x0102, 4⟩ 2 6210
    ∧ decodeRequest 0x38 ⟨7, 12⟩
        [0x00, 0x01, 0x03, 0xE8, 0x07, 0xD0, 0x80, 0x01, 0x02, 0x01, 0x00, 0x65]
      = .postClearance ⟨7, 12⟩ 0 1 1000 2000 0x8001 0x02 true 101
    ∧ decodeRequest 0x06 ⟨9, 7⟩ [0x03, 0xFF, 0x01, 0x2C, 0x23, 0x28, 0xFF]
      = .defineChannel ⟨9, 7⟩ 3 none 300 9000 none

/-- For every well-formed request of the table, the body its encoding gives decodes to it (R178). -/
def Obligations.RequestBodiesRoundTrip : Prop :=
  ∀ (i : Instr) (rq : Request) (code : Nat) (body : List Byte),
    i.wellFormed = true → i.request? = some rq → encodeRequest i = some (code, body) →
      decodeRequest code rq body = i

/-- The whole frame of a well-formed request, from A5h to its check, spells that request to the station it is
addressed to, and a frame to ignore at a station with another address (R175 to R178). -/
def Obligations.RequestFramesRoundTrip : Prop :=
  ∀ (i : Instr) (rq : Request) (code : Nat) (body frame : List Byte) (address other : Nat),
    i.wellFormed = true → i.request? = some rq → encodeRequest i = some (code, body) →
      rq.length = body.length → 1 ≤ address → address ≤ 62 → encodeFrame address i = some frame →
        decodeFrame address frame = some i
          ∧ (other ≠ address → decodeFrame other frame = some .ignoredFrame)

/-- A request of the table whose body has another length than its encoding gives is refused BAD_LENGTH, a code
the table does not list is refused UNKNOWN_REQUEST, and a request whose record, bank included, has an index beyond
the range of its type is refused NO_RECORD, each with an empty body and no other effect (R178); a station without an
address of its own takes no request (R175). -/
def Obligations.CommonChecksRefuse : Prop :=
  ∀ (i : Instr) (rq : Request) (code n : Nat) (body : List Byte) (g : List Segment)
    (v1 v2 v3 v4 v5 v6 : Nat) (o1 o2 o3 o4 o5 : Option Nat) (b1 b2 b3 b4 : BitVec 8) (set : BitVec 32) (s : State),
    let missing : Host.Outcome State Fault Refusal := .next (s.answered rq .noRecord [])
    (i.wellFormed = true → i.request? = some rq → s.listening = true →
      ((ownAddress s.link.address).isSome = true → encodeRequest i = some (code, body) →
          rq.length ≠ body.length → exec i s = .next (s.answered rq .badLength []))
        ∧ ((ownAddress s.link.address).isSome = true →
          exec (.unknownRequest rq code) s = .next (s.answered rq .unknownRequest []))
        ∧ (ownAddress s.link.address = none → exec i s = .next s.frameOver))
      ∧ (6 ≤ n →
        (s.takes rq (4 + 4 * v2) = true → exec (.definePass rq n v1 v2 g) s = missing)
        ∧ (s.takes rq 14 = true → exec (.tunePass rq n v1 v2 v3 v4 v5 v6) s = missing)
        ∧ (s.takes rq 4 = true → exec (.setFill rq n v1) s = missing)
        ∧ (s.takes rq 1 = true → exec (.clearHang rq n) s = missing ∧ exec (.linesRead rq n) s = missing)
        ∧ (s.takes rq 6 = true → exec (.linesWrite rq n b1 b2 b3 b4 o1) s = missing
          ∧ exec (.acknowledge rq 0 n set) s = missing)
        ∧ (s.takes rq 2 = true → exec (.read rq 0 n) s = missing))
      ∧ (16 ≤ n →
        (s.takes rq 12 = true → exec (.defineTip rq n v1 v2 v3 v4 o1 o2 o3 o4 o5) s = missing)
        ∧ (s.takes rq 4 = true → exec (.tuneTip rq n v1 v2) s = missing)
        ∧ (s.takes rq 1 = true → exec (.callTip rq n) s = missing ∧ exec (.withdraw rq n) s = missing)
        ∧ (s.takes rq 6 = true → exec (.acknowledge rq 1 n set) s = missing)
        ∧ (s.takes rq 2 = true → exec (.read rq 1 n) s = missing))
      ∧ (8 ≤ n →
        (s.takes rq 11 = true → exec (.defineChute rq n v1 v2 v3 o1 o2 o3 o4 o5) s = missing)
        ∧ (s.takes rq 7 = true → exec (.defineChannel rq n o1 v1 v2 o2) s = missing)
        ∧ (s.takes rq 8 = true → exec (.tuneChute rq n v1 v2 v3 v4) s = missing)
        ∧ (s.takes rq 1 = true → exec (.proveChute rq n) s = missing ∧ exec (.proveChannel rq n) s = missing)
        ∧ (s.takes rq 6 = true → exec (.acknowledge rq 2 n set) s = missing
          ∧ exec (.acknowledge rq 6 n set) s = missing)
        ∧ (s.takes rq 2 = true → exec (.order rq n v1) s = missing
          ∧ exec (.acceptProof rq 2 n) s = missing ∧ exec (.acceptProof rq 6 n) s = missing
          ∧ exec (.read rq 2 n) s = missing ∧ exec (.read rq 6 n) s = missing))
      ∧ (4 ≤ n →
        (s.takes rq 3 = true → exec (.defineBreakerStation rq n v1 v2) s = missing)
        ∧ (s.takes rq 6 = true → exec (.acknowledge rq 3 n set) s = missing)
        ∧ (s.takes rq 2 = true → exec (.breakJob rq n v1) s = missing ∧ exec (.read rq 3 n) s = missing))
      ∧ (24 ≤ n →
        (s.takes rq 3 = true → exec (.join rq n v1) s = missing ∧ exec (.leave rq n v1) s = missing)
        ∧ (s.takes rq 1 = true → exec (.cancel rq n) s = missing)
        ∧ (s.takes rq 6 = true → exec (.acknowledge rq 5 n set) s = missing)
        ∧ (s.takes rq 2 = true → exec (.read rq 5 n) s = missing))
      ∧ (1 ≤ n →
        (s.takes rq 6 = true → exec (.acknowledge rq 4 n set) s = missing
          ∧ exec (.acknowledge rq 7 n set) s = missing)
        ∧ (s.takes rq 2 = true → exec (.read rq 4 n) s = missing ∧ exec (.read rq 7 n) s = missing))

/-- A request with tag FFFFh acts as the same request with any other tag, and leaves no answer (R177). -/
def Obligations.TagFFFFActsInFullWithoutAnswer : Prop :=
  ∀ (i : Instr) (tag : Nat) (s : State), i.request?.isSome = true →
    Yields (exec (i.withTag 0xFFFF) s) fun t =>
      (Yields (exec (i.withTag tag) s) fun u =>
          u = { t with link := { t.link with answer := u.link.answer } })
        ∧ (s.listening = true → t.link.answer = none)

/-- A framing error, a gap and a length byte above 240 discard the frame in progress; a complete frame that is
not for this station leaves the receiver hunting and no answer waiting; A5h starts a frame in a hunting
receiver and drops an answer not yet begun (R176, R177). Nothing else changes. -/
def Obligations.ReceiverDiscardsAndHunts : Prop :=
  ∀ (s : State), s.listening = true →
    exec .framingError s = .next { s with link := { s.link with receiver := .hunting } }
      ∧ exec .lengthAbove240 s = .next { s with link := { s.link with receiver := .hunting } }
      ∧ exec .frameGapTimeout s = .next { s with link := { s.link with receiver := .hunting } }
      ∧ exec .ignoredFrame s =
          .next { s with link := { s.link with receiver := .hunting, answer := none } }
      ∧ (s.link.receiver = .hunting → exec .frameStartByte s =
          .next { s with link := { s.link with receiver := .receiving [0xA5], answer := none } })

/-- An answer that waits is sent as the frame of R175, its status by the code of the table of section 10.2 (R178),
after which none waits; its end frees the line; and "while the part is sending, it drives the line and receives
nothing": no command that a byte or a frame brings changes anything (R177). -/
def Obligations.AnswersAreSentAndNothingIsReceivedMeanwhile : Prop :=
  ∀ (s : State) (a : Answer) (i : Instr),
    let code : Nat := match a.status with
      | .accepted => 0
      | .unknownRequest => 1
      | .badLength => 2
      | .noRecord => 3
      | .wrongMode => 4
      | .outOfRange => 5
      | .tableFull => 6
      | .duplicate => 7
      | .notHolder => 8
      | .inForce => 9
      | .busy => 10
      | .proofDue => 11
      | .covered => 12
      | .geometry => 13
      | .lineConflict => 14
      | .stopActive => 15
    let head : List Byte := [BitVec.ofNat 8 s.link.address, BitVec.ofNat 8 (a.tag / 256), BitVec.ofNat 8 a.tag,
      BitVec.ofNat 8 code, BitVec.ofNat 8 a.body.length] ++ a.body
    (s.listening = true → s.link.answer = some a →
        exec .answerSend s = .next { s with link := { s.link with
          answer := none
          sending := some (0x5A :: (head ++ crcBytes head)) } })
      ∧ (s.inReset = false →
          exec .answerSent s = .next { s with link := { s.link with sending := none } })
      ∧ (s.link.sending.isSome = true →
        (i.request?.isSome = true → exec i s = .next s)
          ∧ exec .broadcastStop s = .next s ∧ exec .ignoredFrame s = .next s
          ∧ exec .frameStartByte s = .next s ∧ exec .framingError s = .next s
          ∧ exec .lengthAbove240 s = .next s ∧ exec .frameGapTimeout s = .next s
          ∧ exec .answerSend s = .next s)

/-- While the part is held in reset, only the resets, the release and the levels at the pins do anything (R156;
that a power-on holds the part too is the model's choice, log 9). -/
def Obligations.HeldInResetNothingActs : Prop :=
  ∀ (c : Instr) (s : State), s.inReset = true → c.takenInReset = false → exec c s = .next s

/-- Both resets put every record at its reset value, name no line for any role, and leave the part held with a
quiet link, ATTN released and no timer running (R5, R32, R49, R76, R103, R124, R154, R156, R175, R183); that a
power-on holds the part until its release, with the straps of before, is the model's choice (log 9). -/
def Obligations.ResetsClearTheRecords : Prop :=
  ∀ (s : State) (c : Instr), c = .powerOn ∨ c = .resetLine →
    Yields (exec c s) fun t =>
      t.inReset = true ∧ t.attn = false
        ∧ t.station = ⟨.setup, ⟨false, false, false⟩, 600, 100, 0x007FFFFF, 0⟩
        ∧ (∀ p, t.pass p =
            ⟨false, 0, [], 0, 0, 0, 250, 2, 250, 100, 0, false, 0, 0, 0, .unknown, false, [], 0⟩)
        ∧ (∀ i, t.tip i = ⟨false, 0, 0, 0, 0, none, 900, .idle, .field, none, 0⟩)
        ∧ (∀ i, t.chute i = ⟨false, 0, 0, 0, 30, 80, 5, 0, 0, false, false, false, false, .closed, false,
            none, none, none, false, false, .none, none, 0, 0, false⟩)
        ∧ (∀ k, t.bst k = ⟨false, 0, 0, false, 0⟩)
        ∧ t.breaker = ⟨.parked, none, [], 0, 0, 600, 3000, none, none, none, false, 0, 0⟩
        ∧ (∀ e, t.entry e =
            ⟨false, .entry, none, 0, 0, 0, 0, false, [], .pending, none, 0, none, 0⟩)
        ∧ (∀ ch, t.channel ch =
            ⟨false, none, 0, 0, 0, .none, 0, false, false, .idle, .none, none, none, 0⟩)
        ∧ t.scanner = ⟨7, false⟩ ∧ (∀ f, t.lineOf f = none)
        ∧ t.link = ⟨.hunting, none, none, s.link.address, s.link.baud⟩

/-- Power-on sets every line in with latch 0, the reset line keeps direction and latch; both unbind every line,
stop its timer and set 20 ms; at the release each debounced level is taken from the raw level with no edge and
no timer, and the straps are read (R166, R169, R175). Until then the debounced level stays as before, the
model's choice (log 29). A release with no reset held changes nothing (log 9). -/
def Obligations.ResetsAndReleaseTreatLines : Prop :=
  ∀ (s : State) (address baud : Nat),
    (Yields (exec .powerOn s) fun t => ∀ i, t.bankTime (bankOf i) = 20 ∧ t.line i =
        ⟨.input, false, none, (s.line i).plant, (s.line i).plant, (s.line i).debounced, none⟩)
      ∧ (Yields (exec .resetLine s) fun t => ∀ i, t.bankTime (bankOf i) = 20 ∧ t.line i =
        ⟨(s.line i).direction, (s.line i).latch, none, (s.line i).plant,
          if (s.line i).direction = .output ∧ i.val < 40 then (s.line i).latch else (s.line i).plant,
          (s.line i).debounced, none⟩)
      ∧ (s.inReset = true → Yields (exec (.resetRelease address baud) s) fun t =>
          t = { s with inReset := false, lines := t.lines,
                       link := { s.link with address := address, baud := baud } }
            ∧ ∀ i, t.line i = { s.line i with
                raw := s.pinLevel i, debounced := s.pinLevel i, timer := none })
      ∧ (s.inReset = false → exec (.resetRelease address baud) s = .next s)

/-! ## Reports -/

/-- READ of every record type and LINES READ answer with the record's body and change nothing else (R173, R179); READ
of a type the table does not list is refused OUT_OF_RANGE. The bodies of a channel (R44, log 15), of the station
(R165, log 14) and of a bank (R167, R172, R173, log 12) are laid out here byte by byte, as the model has them, yes
and high as 01h and no and low as 00h (log 33). -/
def Obligations.ReadsReportAndChangeNothing : Prop :=
  ∀ (rq : Request) (s : State) (p : PassIdx) (t : TipIdx) (c : ChuteIdx) (k : StationIdx) (e : EntryIdx)
    (ch : ChannelIdx) (b : BankIdx) (type index : Nat),
    let byte (n : Nat) : List Byte := [BitVec.ofNat 8 n]
    let word (n : Nat) : List Byte := [BitVec.ofNat 8 (n / 256), BitVec.ofNat 8 n]
    let flag (y : Bool) : List Byte := if y then [1] else [0]
    let kinds (y : CondSet) : List Byte :=
      [y.extractLsb' 24 8, y.extractLsb' 16 8, y.extractLsb' 8 8, y.extractLsb' 0 8]
    let x := s.channel ch
    let distance := x.zeroAt + (min (max x.reading 400) 2000 - 400) * x.span / 1600
    let binding (f : LineFn) : List Byte := match f with
      | .call i => [0, BitVec.ofNat 8 i]
      | .tipSensor i => [1, BitVec.ofNat 8 i]
      | .oversize i => [2, BitVec.ofNat 8 i]
      | .lamp i => [3, BitVec.ofNat 8 i]
      | .openValve i => [4, BitVec.ofNat 8 i]
      | .closeValve i => [5, BitVec.ofNat 8 i]
      | .openLimit i => [6, BitVec.ofNat 8 i]
      | .closedLimit i => [7, BitVec.ofNat 8 i]
      | .loadCall i => [8, BitVec.ofNat 8 i]
      | .go => [9, 0]
      | .code0 => [10, 0]
      | .code1 => [11, 0]
      | .inPosition => [12, 0]
      | .grizzlyClear => [13, 0]
      | .parked => [14, 0]
      | .test i => [15, BitVec.ofNat 8 i]
      | .estop => [16, 0]
    (s.takes rq 2 = true →
        exec (.read rq 0 p) s = .next (s.answered rq .accepted (s.passBody p))
          ∧ exec (.read rq 1 t) s = .next (s.answered rq .accepted (s.tipBody t))
          ∧ exec (.read rq 2 c) s = .next (s.answered rq .accepted (s.chuteBody c))
          ∧ exec (.read rq 3 k) s = .next (s.answered rq .accepted (s.bstBody k))
          ∧ exec (.read rq 4 0) s = .next (s.answered rq .accepted s.breakerBody)
          ∧ exec (.read rq 5 e) s = .next (s.answered rq .accepted (s.entryBody e))
          ∧ exec (.read rq 6 ch) s = .next (s.answered rq .accepted (s.channelBody ch))
          ∧ exec (.read rq 7 0) s = .next (s.answered rq .accepted s.stationBody)
          ∧ (7 < type → exec (.read rq type index) s = .next (s.answered rq .outOfRange [])))
      ∧ (s.takes rq 1 = true →
        exec (.linesRead rq b) s = .next (s.answered rq .accepted (s.bankBody b)))
      ∧ s.channelBody ch = flag x.defined ++ byte ((x.assignment.map Fin.val).getD 255) ++ word x.zeroAt
        ++ word x.span ++ byte (((s.lineOf (.test ch)).map Fin.val).getD 255) ++ word x.reading
        ++ byte (match x.state with
          | .none => 0
          | .valid => 1
          | .clamped => 2
          | .fault => 3
          | .stale => 4)
        ++ word x.age ++ flag x.inQuiet ++ flag x.inBreaking
        ++ byte (match x.proof with
          | .idle => 0
          | .proving => 1
          | .held => 2)
        ++ byte (match x.lastProof with
          | .none => 0
          | .pass => 1
          | .fail => 2)
        ++ kinds x.conds
        ++ (match x.assignment with
          | some q => if x.state = .valid ∨ x.state = .clamped then
              word distance ++ word ((s.pass q).height - distance) else [0, 0, 0, 0]
          | none => [0, 0, 0, 0])
      ∧ s.stationBody = byte (match s.station.mode with
          | .setup => 0
          | .run => 1
          | .halted => 2)
        ++ byte (s.station.causes.estopLine.toNat + 2 * s.station.causes.linkStop.toNat
          + 4 * s.station.causes.broadcastStop.toNat)
        ++ byte (((s.lineOf .estop).map Fin.val).getD 255) ++ flag (s.level .estop)
        ++ word s.station.settleTime ++ word s.station.proofWindow ++ kinds s.station.mask
        ++ kinds s.station.conds
      ∧ s.bankBody b = byte (s.bankTime b) ++ (List.finRange 8).flatMap fun n =>
          let i : LineIdx := ⟨8 * b.val + n.val, by omega⟩
          let l := s.line i
          flag (if i.val < 40 ∧ l.direction = .output then l.latch else l.debounced)
            ++ flag (decide (i.val < 40 ∧ l.direction = .output)) ++ flag (decide (i.val < 40) && l.latch)
            ++ (match l.binding with
              | some f => binding f
              | none => [255, 255])

/-- The READ bodies of types 0 to 5 have the lengths of the tables of R179 and carry every field of theirs at its
offset, each number in the bytes the table gives it, each state, kind, origin, cause and result by its number there,
none and absent as all ones, and 0 for a stopped timer; the byte of the first breach's index is the model's choice
where there is none (log 27), and so is 01h for yes in the byte of return overdue (log 33). -/
def Obligations.ReadBodiesFollowTheTables : Prop :=
  ∀ (s : State) (p : PassIdx) (t : TipIdx) (c : ChuteIdx) (k : StationIdx) (e : EntryIdx),
    let x := s.chute c
    let z := s.bst k
    let b := s.breaker
    let y := s.entry e
    let flags (l : List Bool) : Nat := l.foldr (fun f n => f.toNat + 2 * n) 0
    let origin (g : Origin) : Nat := match g with
      | .oversize => 0
      | .link => 1
    let job := (b.current.toList ++ b.jobs).find? fun j => decide (j.station = k)
    let unseated (o : ChuteIdx) : Bool :=
      decide ((s.chute o).state ≠ .closed ∨ s.level (.closedLimit o) = false)
    let worked (o : StationIdx) : Bool := decide (b.state = .travelling ∨ b.state = .breaking)
      && decide (b.current.map Job.station = some o)
    (s.passBody p).length = 37 + 4 * (s.pass p).profile.length + (s.pass p).waiting.length
      ∧ field (s.passBody p) 0 1 = flags [(s.pass p).defined, (s.pass p).known, (s.pass p).amended]
      ∧ field (s.passBody p) 1 1 = (match (s.pass p).state with
          | .unknown => 0
          | .running => 1
          | .hung => 2
          | .outOfService => 3)
      ∧ field (s.passBody p) 2 2 = (s.pass p).height % 65536
      ∧ field (s.passBody p) 4 3 = (s.pass p).capacity % 16777216
      ∧ field (s.passBody p) 7 3 = (s.pass p).tipLimit % 16777216
      ∧ field (s.passBody p) 10 3 = (s.pass p).cushion % 16777216
      ∧ field (s.passBody p) 13 2 = (s.pass p).hangThreshold % 65536
      ∧ field (s.passBody p) 15 1 = (s.pass p).blendShift % 256
      ∧ field (s.passBody p) 16 2 = (s.pass p).disagreement % 65536
      ∧ field (s.passBody p) 18 2 = (s.pass p).staleLimit % 65536
      ∧ field (s.passBody p) 20 3 = (s.pass p).e % 16777216
      ∧ field (s.passBody p) 23 3 = (s.pass p).r % 16777216
      ∧ field (s.passBody p) 26 3 = (s.pass p).d % 16777216
      ∧ field (s.passBody p) 29 2 = (s.pass p).reserved % 65536
      ∧ field (s.passBody p) 31 4 = (s.pass p).conds.toNat
      ∧ field (s.passBody p) 35 1 = (s.pass p).profile.length % 256
      ∧ field (s.passBody p) 36 1 = (s.pass p).waiting.length % 256
      ∧ (s.passBody p).drop 37 = ((s.pass p).profile.flatMap fun g => [BitVec.ofNat 8 (g.height / 256),
          BitVec.ofNat 8 g.height, BitVec.ofNat 8 (g.area / 256), BitVec.ofNat 8 g.area])
            ++ (s.pass p).waiting.map (fun x => BitVec.ofNat 8 x.val)
      ∧ (s.tipBody t).length = 22
      ∧ field (s.tipBody t) 0 1 = flags [(s.tip t).defined, decide ((s.tip t).source = .link), s.blocked t,
          (List.finRange 24).any (s.coversTip · t)]
      ∧ field (s.tipBody t) 1 1 = (s.tip t).pass
      ∧ field (s.tipBody t) 2 2 = (s.tip t).elevation % 65536
      ∧ field (s.tipBody t) 4 2 = (s.tip t).load % 65536
      ∧ field (s.tipBody t) 6 1 = (s.tip t).level % 256
      ∧ field (s.tipBody t) 7 1 = ((s.tip t).grizzly.map Fin.val).getD 255
      ∧ field (s.tipBody t) 8 1 = ((s.lineOf (.call t)).map Fin.val).getD 255
      ∧ field (s.tipBody t) 9 1 = ((s.lineOf (.tipSensor t)).map Fin.val).getD 255
      ∧ field (s.tipBody t) 10 1 = ((s.lineOf (.lamp t)).map Fin.val).getD 255
      ∧ field (s.tipBody t) 11 1 = ((s.lineOf (.oversize t)).map Fin.val).getD 255
      ∧ field (s.tipBody t) 12 2 = (s.tip t).timeout % 65536
      ∧ field (s.tipBody t) 14 1 = (match (s.tip t).state with
          | .idle => 0
          | .waiting => 1
          | .granted => 2)
      ∧ field (s.tipBody t) 15 2 = (s.tip t).timer.getD 0 % 65536
      ∧ field (s.tipBody t) 17 1 = (if (s.tip t).state = .waiting then
          (s.pass (s.tip t).pass).waiting.idxOf t + 1 else 0) % 256
      ∧ field (s.tipBody t) 18 4 = (s.tip t).conds.toNat
      ∧ (s.chuteBody c).length = 30
      ∧ field (s.chuteBody c) 0 1 = flags [x.defined, x.held, x.callPending, x.reachedOpen, x.faultHold, x.proofHold,
          decide (x.interval ≠ 0 ∧ x.interval ≤ x.cycles), (List.finRange 24).any (s.coversChute · c)]
      ∧ field (s.chuteBody c) 1 1 = flags [s.level (.openLimit c), s.level (.closedLimit c)]
      ∧ field (s.chuteBody c) 2 1 = x.pass
      ∧ field (s.chuteBody c) 3 2 = x.elevation % 65536
      ∧ field (s.chuteBody c) 5 2 = x.volume % 65536
      ∧ field (s.chuteBody c) 7 1 = ((s.lineOf (.openValve c)).map Fin.val).getD 255
      ∧ field (s.chuteBody c) 8 1 = ((s.lineOf (.closeValve c)).map Fin.val).getD 255
      ∧ field (s.chuteBody c) 9 1 = ((s.lineOf (.openLimit c)).map Fin.val).getD 255
      ∧ field (s.chuteBody c) 10 1 = ((s.lineOf (.closedLimit c)).map Fin.val).getD 255
      ∧ field (s.chuteBody c) 11 1 = ((s.lineOf (.loadCall c)).map Fin.val).getD 255
      ∧ field (s.chuteBody c) 12 2 = x.holdTime % 65536
      ∧ field (s.chuteBody c) 14 2 = x.strokeTime % 65536
      ∧ field (s.chuteBody c) 16 1 = x.nudgeTime % 256
      ∧ field (s.chuteBody c) 17 2 = x.interval % 65536
      ∧ field (s.chuteBody c) 19 1 = x.count % 256
      ∧ field (s.chuteBody c) 20 1 = (match x.state with
          | .closed => 0
          | .opening => 1
          | .holding => 2
          | .closing => 3
          | .nudging => 4
          | .reclosing => 5)
      ∧ field (s.chuteBody c) 21 2 = x.strokeTimer.getD (x.holdTimer.getD (x.nudgeTimer.getD 0)) % 65536
      ∧ field (s.chuteBody c) 23 1 = (match x.lastProof with
          | .none => 0
          | .pass => 1
          | .fail => 2
          | .aborted => 3)
      ∧ field (s.chuteBody c) 24 2 = x.cycles % 65536
      ∧ field (s.chuteBody c) 26 4 = x.conds.toNat
      ∧ (s.bstBody k).length = 11
      ∧ field (s.bstBody k) 0 1 = flags [z.defined, z.retryHeld, decide (b.current.map Job.station = some k),
          b.jobs.any fun j => decide (j.station = k), (List.finRange 24).any (s.coversStation · k)]
      ∧ field (s.bstBody k) 1 1 = z.tip
      ∧ field (s.bstBody k) 2 1 = z.group % 256
      ∧ field (s.bstBody k) 3 1 = (job.map Job.level).getD 255 % 256
      ∧ field (s.bstBody k) 4 1 = (job.map fun j => origin j.origin).getD 255
      ∧ field (s.bstBody k) 5 2 = (job.map Job.arrival).getD 65535 % 65536
      ∧ field (s.bstBody k) 7 4 = z.conds.toNat
      ∧ s.breakerBody.length = 29 + 5 * b.jobs.length
      ∧ field s.breakerBody 0 1 = (match b.state with
          | .parked => 0
          | .travelling => 1
          | .breaking => 2
          | .returning => 3)
      ∧ field s.breakerBody 1 1 = (b.current.map fun j => j.station.val).getD 255
      ∧ field s.breakerBody 2 1 = (b.current.map Job.level).getD 255 % 256
      ∧ field s.breakerBody 3 1 = (b.current.map fun j => origin j.origin).getD 255
      ∧ field s.breakerBody 4 2 = (b.current.map Job.arrival).getD 65535 % 65536
      ∧ field s.breakerBody 6 2 = b.counter % 65536
      ∧ field s.breakerBody 8 1 = b.floor % 256
      ∧ field s.breakerBody 9 1 = (if s.station.mode = .run then b.floor else 7) % 256
      ∧ field s.breakerBody 10 2 = b.travelLimit % 65536
      ∧ field s.breakerBody 12 2 = b.breakLimit % 65536
      ∧ field s.breakerBody 14 2 = b.travelTimer.getD (b.breakTimer.getD (b.returnTimer.getD 0)) % 65536
      ∧ field s.breakerBody 16 1 = b.returnOverdue.toNat
      ∧ field s.breakerBody 17 1 = ((s.lineOf .go).map Fin.val).getD 255
      ∧ field s.breakerBody 18 1 = ((s.lineOf .code0).map Fin.val).getD 255
      ∧ field s.breakerBody 19 1 = ((s.lineOf .code1).map Fin.val).getD 255
      ∧ field s.breakerBody 20 1 = ((s.lineOf .inPosition).map Fin.val).getD 255
      ∧ field s.breakerBody 21 1 = ((s.lineOf .grizzlyClear).map Fin.val).getD 255
      ∧ field s.breakerBody 22 1 = ((s.lineOf .parked).map Fin.val).getD 255
      ∧ field s.breakerBody 23 1 = flags [s.level .inPosition, s.level .grizzlyClear, s.level .parked]
      ∧ field s.breakerBody 24 4 = b.conds.toNat
      ∧ field s.breakerBody 28 1 = b.jobs.length % 256
      ∧ s.breakerBody.drop 29 = b.jobs.flatMap (fun j => [BitVec.ofNat 8 j.station.val, BitVec.ofNat 8 j.level,
          BitVec.ofNat 8 (origin j.origin), BitVec.ofNat 8 (j.arrival / 256), BitVec.ofNat 8 j.arrival])
      ∧ (s.entryBody e).length = 30 + 2 * y.holders.length
      ∧ field (s.entryBody e) 0 1 = flags [y.inUse, y.firstBreach.isSome]
      ∧ field (s.entryBody e) 1 1 = (match y.kind with
          | .entry => 0
          | .service => 1
          | .equipment => 2)
      ∧ field (s.entryBody e) 2 1 = (y.pass.map Fin.val).getD 255
      ∧ field (s.entryBody e) 3 2 = y.low % 65536
      ∧ field (s.entryBody e) 5 2 = y.high % 65536
      ∧ field (s.entryBody e) 7 2 = y.maskTips.toNat
      ∧ field (s.entryBody e) 9 1 = y.maskChutes.toNat
      ∧ field (s.entryBody e) 10 1 = y.maskBreaker.toNat
      ∧ field (s.entryBody e) 11 1 = (match y.state with
          | .pending => 0
          | .late => 1
          | .inForce => 2)
      ∧ field (s.entryBody e) 12 2 = y.timer.getD 0 % 65536
      ∧ field (s.entryBody e) 14 1 = y.breaches % 256
      ∧ field (s.entryBody e) 15 1 = (match y.firstBreach with
          | none => 0
          | some v => match v.cause with
            | .gateMoved => 1
            | .tipSensed => 2
            | .breakerMoved => 3)
      ∧ field (s.entryBody e) 16 1 = (y.firstBreach.map Breach.actuator).getD 0 % 256
      ∧ (field (s.entryBody e) 17 2).testBit t = s.coversTip e t
      ∧ (field (s.entryBody e) 19 1).testBit c = s.coversChute e c
      ∧ (field (s.entryBody e) 20 1).testBit k = s.coversStation e k
      ∧ (field (s.entryBody e) 20 1).testBit 4 = s.carriesBreaker e
      ∧ field (s.entryBody e) 20 1 < 32
      ∧ (field (s.entryBody e) 21 2).testBit t = (s.coversTip e t && decide ((s.tip t).state = .granted))
      ∧ (field (s.entryBody e) 23 1).testBit c = (s.coversChute e c && unseated c)
      ∧ (field (s.entryBody e) 24 1).testBit k = (s.coversStation e k && worked k)
      ∧ (field (s.entryBody e) 24 1).testBit 4 = (s.carriesBreaker e && decide (b.state ≠ .parked))
      ∧ field (s.entryBody e) 24 1 < 32
      ∧ field (s.entryBody e) 25 4 = y.conds.toNat
      ∧ field (s.entryBody e) 29 1 = y.holders.length % 256
      ∧ (s.entryBody e).drop 30 = y.holders.flatMap fun tag =>
          [BitVec.ofNat 8 (tag / 256), BitVec.ofNat 8 tag]

/-- SUMMARY answers 11 bytes that show the mode, ATTN, and every record with a raised condition, and changes
nothing (R181). -/
def Obligations.SummaryShowsEveryRaisedRecord : Prop :=
  ∀ (rq : Request) (s : State), s.takes rq 0 = true →
    exec (.summary rq) s = .next (s.answered rq .accepted s.summaryBody)
      ∧ s.summaryBody.length = 11
      ∧ field s.summaryBody 0 1 =
          (match s.station.mode with
            | .setup => 0
            | .run => 1
            | .halted => 2)
      ∧ (field s.summaryBody 1 1).testBit 0 = s.attn
      ∧ (field s.summaryBody 1 1).testBit 1 = decide (s.station.conds ≠ 0)
      ∧ (field s.summaryBody 1 1).testBit 2 = decide (s.breaker.conds ≠ 0)
      ∧ (∀ p : PassIdx, (field s.summaryBody 2 1).testBit p = decide ((s.pass p).conds ≠ 0))
      ∧ (∀ t : TipIdx, (field s.summaryBody 3 2).testBit t = decide ((s.tip t).conds ≠ 0))
      ∧ (∀ c : ChuteIdx, (field s.summaryBody 5 1).testBit c = decide ((s.chute c).conds ≠ 0))
      ∧ (∀ k : StationIdx, (field s.summaryBody 6 1).testBit k = decide ((s.bst k).conds ≠ 0))
      ∧ (∀ e : EntryIdx, (field s.summaryBody 7 3).testBit e = decide ((s.entry e).conds ≠ 0))
      ∧ (∀ ch : ChannelIdx, (field s.summaryBody 10 1).testBit ch = decide ((s.channel ch).conds ≠ 0))
      ∧ (s.entriesLawful = true → ∀ e : EntryIdx, (s.entry e).inUse = false →
          (field s.summaryBody 7 3).testBit e = false)

/-! ## How an event ends -/

/-- The end of an event changes only what its triggers reach: the breaker only at a choice, a chute only at a
try, a pass's waiting list and reservation only at its arbiter's run, its state and D only where a SERVICE entry
settles, an entry only at its settling test; at a line only the raw level and the timer, which then stand as the
pin does. The arbiters run first, then the tries, then the choice; and ATTN is asserted exactly while a record
holds a raised condition of a kind the mask enables (R26, R56, R83, R110, R129, R169, R170, R183). -/
def Obligations.EventsEndWithinTheirTriggers : Prop :=
  ∀ (ev : Event) (p : PassIdx) (c : ChuteIdx),
    let s := ev.st
    let t := ev.finish
    (t.inReset = s.inReset ∧ t.station = s.station ∧ t.stations = s.stations ∧ t.channels = s.channels
        ∧ t.scanner = s.scanner ∧ t.debounce = s.debounce ∧ t.link = s.link ∧ t.pending = s.pending)
      ∧ (ev.choice = false ∨ s.breaker.state ≠ .parked → t.breaker = s.breaker)
      ∧ (∀ c, c ∉ ev.tries → t.chute c = s.chute c)
      ∧ (∀ e, e ∉ ev.touched → t.entry e = s.entry e)
      ∧ (∀ p, t.pass p = { s.pass p with
          waiting := (t.pass p).waiting, reserved := (t.pass p).reserved, state := (t.pass p).state,
          d := (t.pass p).d })
      ∧ (ev.touched = [] → (∀ p, (t.pass p).state = (s.pass p).state ∧ (t.pass p).d = (s.pass p).d)
          ∧ ∀ p, p ∉ ev.arb → t.pass p = s.pass p)
      ∧ (∀ x, t.tip x = { s.tip x with state := (t.tip x).state, timer := (t.tip x).timer })
      ∧ (∀ i, t.line i = { s.line i with raw := t.pinLevel i, timer := (t.line i).timer }
          ∧ ((t.line i).timer.isSome =
              (!s.inReset && ((t.line i).raw != (t.line i).debounced))))
      ∧ t.attn = t.attention
      ∧ (s.attention = true ↔ (∃ o, (s.pass o).conds &&& s.station.mask ≠ 0)
          ∨ (∃ o, (s.tip o).conds &&& s.station.mask ≠ 0) ∨ (∃ o, (s.chute o).conds &&& s.station.mask ≠ 0)
          ∨ (∃ o, (s.bst o).conds &&& s.station.mask ≠ 0) ∨ s.breaker.conds &&& s.station.mask ≠ 0
          ∨ (∃ o, (s.entry o).conds &&& s.station.mask ≠ 0)
          ∨ (∃ o, (s.channel o).conds &&& s.station.mask ≠ 0) ∨ s.station.conds &&& s.station.mask ≠ 0)
      ∧ Event.finish ⟨s, [p], [c], true, []⟩ = (((s.runArbiter p).startTry c).chooseJob).endEvent
      ∧ (ev.arb = [] → ev.tries = [] → ev.choice = false → ev.touched = [] →
          s.linesSettled = true → s.attnJudged = true → t = s)

/-! ## Passes -/

/-- The volume at height: whole segments below, the part of the segment that holds the height, nothing above,
one division by 100 (R9). -/
def Obligations.VolumeAtHeightWalksTheProfile : Prop :=
  ∀ (below above : List Segment) (g : Segment) (h h' : Nat),
    (profileHeight below ≤ h → h ≤ profileHeight below + g.height →
        volumeAt (below ++ g :: above) h
          = ((below.map fun x => x.area * x.height).sum + g.area * (h - profileHeight below)) / 100)
      ∧ (profileHeight below ≤ h → volumeAt below h = capacityOf below)
      ∧ volumeAt below 0 = 0
      ∧ (h ≤ h' → volumeAt below h ≤ volumeAt below h')

/-- The blend: E plus the difference over 2 to the k, rounded toward zero for both signs, clamped to
0..capacity (R12). -/
def Obligations.BlendRoundsTowardZero : Prop :=
  ∀ (k capacity e m : Nat),
    (blend k capacity e m : Int)
      = min (max ((e : Int) + ((m : Int) - (e : Int)).tdiv (2 ^ k)) 0) (capacity : Int)

/-- DEFINE PASS: the modes of R1, the refusals of R2 in their order, and, accepted, the capacity of R3, then a first
definition, a redefinition in SETUP or an amendment, then the tip limit and the cushion clamped (R1 to R4); an
amendment hands on only an E that its clamp changes (log 18). -/
def Obligations.DefinePassTreatsTheWorkingState : Prop :=
  ∀ (rq : Request) (p : PassIdx) (height : Nat) (g : List Segment) (s : State),
    s.takes rq (4 + 4 * g.length) = true →
      let q := s.pass p
      let capacity := (g.map fun x => x.area * x.height).sum / 100
      let limit := min q.tipLimit capacity
      let cushion := min q.cushion limit
      let amended := { q with
        height := height, profile := g, capacity := capacity, e := min q.e capacity, amended := true
        tipLimit := limit, cushion := cushion }
      let c := Instr.definePass rq p height g.length g
      let sum := (g.map Segment.height).sum
      let bad := height < 100 ∨ 30000 < height ∨ g.length < 1 ∨ 8 < g.length ∨ 30000 < sum
        ∨ ∃ x ∈ g, x.height < 10 ∨ 30000 < x.height ∨ x.area < 10 ∨ 2000 < x.area
      let below := (∃ t, (s.tip t).defined = true ∧ (s.tip t).pass = p ∧ height < (s.tip t).elevation)
        ∨ ∃ o, (s.chute o).defined = true ∧ (s.chute o).pass = p ∧ height < (s.chute o).elevation
      let allowed := s.station.mode = .setup ∨ (s.station.mode = .run ∧ q.state = .outOfService)
      (¬ allowed → exec c s = .next (s.answered rq .wrongMode []))
        ∧ (allowed → bad → exec c s = .next (s.answered rq .outOfRange []))
        ∧ (¬ bad → s.station.mode = .setup → q.state ≠ .outOfService →
          (q.defined = false → exec c s = .next ((((Event.of s).update (State.modPass p fun q => { q with
              defined := true, height := height, profile := g, capacity := capacity
              state := .unknown, known := false, e := 0, r := 0, d := 0, reserved := 0, amended := false
              waiting := [], conds := 0, tipLimit := limit, cushion := cushion })).touchAll.finish).answered
                rq .accepted (bigEndian 3 capacity)))
          ∧ (q.defined = true → exec c s = .next ((((Event.of s).update (State.modPass p fun q => { q with
              height := height, profile := g, capacity := capacity, state := .unknown, known := false
              d := 0, e := min q.e capacity, tipLimit := limit, cushion := cushion })).touchAll.finish).answered
                rq .accepted (bigEndian 3 capacity))))
        ∧ (allowed → ¬ bad → q.state = .outOfService →
          (sum ≠ height ∨ below → exec c s = .next (s.answered rq .geometry []))
          ∧ (q.defined = true → sum = height → ¬ below →
            exec c s = .next ((Event.finish ⟨s.modPass p fun _ => amended,
              if amended.e = q.e then [] else [p], if amended.e = q.e then [] else s.chutesOf p,
              false, List.finRange 24⟩).answered rq .accepted (bigEndian 3 capacity))))

/-- TUNE PASS clamps the six values in their order and hands on a changed tip limit to the arbiter and a changed
cushion to the chutes; a lowered stale limit makes the live readings of that age STALE, and BLIND follows where no
channel stays usable for a RUNNING pass (R6, R26, R29, R40, R41; only a value that changes is handed on, log 18; the
readings go STALE within the request, log 21). An undefined pass is refused. -/
def Obligations.TunePassClampsAndHandsOn : Prop :=
  ∀ (rq : Request) (p : PassIdx) (tipLimit cushion hang shift disagreement stale : Nat) (s : State),
    s.takes rq 14 = true →
      let q := s.pass p
      let limit := min tipLimit q.capacity
      let q' := { q with
        tipLimit := limit, cushion := min cushion limit, hangThreshold := min (max hang 10) 60000
        blendShift := min shift 4, disagreement := min disagreement 60000
        staleLimit := min (max stale 10) 600 }
      let s1 := s.modPass p fun _ => q'
      let live (ch : ChannelIdx) : Bool := decide ((s.channel ch).assignment = some p)
        && decide ((s.channel ch).state = .valid ∨ (s.channel ch).state = .clamped)
      let usable (ch : ChannelIdx) : Bool :=
        live ch && (s.channel ch).defined && decide ((s.channel ch).proof = .idle)
      let old (ch : ChannelIdx) : Bool := live ch && decide (q'.staleLimit ≤ (s.channel ch).age)
      let blind := q.state = .running ∧ (∃ ch, usable ch = true) ∧ ∀ ch, usable ch = true → old ch = true
      let s2 := (s1.mapChannels fun ch x => if old ch then { x with state := .stale } else x).modPass p fun y =>
        { y with conds := if blind then raise .blind y.conds else y.conds }
      ((s.pass p).defined = true →
        exec (.tunePass rq p tipLimit cushion hang shift disagreement stale) s = .next ((Event.finish
          ⟨if q'.staleLimit < q.staleLimit then s2 else s1,
            if q'.tipLimit = q.tipLimit then [] else [p],
            if q'.cushion = q.cushion then [] else s.chutesOf p, false, []⟩).answered rq .accepted
          (bigEndian 3 q'.tipLimit ++ bigEndian 3 q'.cushion ++ bigEndian 2 q'.hangThreshold
            ++ bigEndian 1 q'.blendShift ++ bigEndian 2 q'.disagreement ++ bigEndian 2 q'.staleLimit)))
      ∧ ((s.pass p).defined = false →
        exec (.tunePass rq p tipLimit cushion hang shift disagreement stale) s = .next (s.answered rq .noRecord []))

/-- SET FILL sets E, R, D and known and takes an UNKNOWN pass to RUNNING, in every mode and pass state; CLEAR
HANG takes a HUNG pass to RUNNING with R and E kept and is refused WRONG_MODE otherwise; each hands on what R26
says, a set E only where it differs, and refuses an undefined pass (R19, R20, R26; log 18). -/
def Obligations.SetFillAndClearHang : Prop :=
  ∀ (rq : Request) (p : PassIdx) (v : Nat) (s : State),
    ((s.pass p).defined = false →
        (s.takes rq 4 = true → exec (.setFill rq p v) s = .next (s.answered rq .noRecord []))
        ∧ (s.takes rq 1 = true → exec (.clearHang rq p) s = .next (s.answered rq .noRecord [])))
      ∧ ((s.pass p).defined = true → s.takes rq 4 = true →
      let q := s.pass p
      let w := min v q.capacity
      let s1 := s.modPass p fun q => { q with
        e := w, r := w, d := 0, known := true,
        state := if q.state = .unknown then .running else q.state }
      exec (.setFill rq p v) s = .next ((Event.finish
        (if q.e = w ∧ q.state ≠ .unknown then Event.of s1
          else ⟨s1, [p], s.chutesOf p, false, []⟩)).answered rq .accepted (bigEndian 3 w)))
      ∧ ((s.pass p).defined = true → s.takes rq 1 = true → (s.pass p).state = .hung →
        exec (.clearHang rq p) s = .next ((Event.finish
          ⟨s.modPass p fun q => { q with state := .running, d := 0 }, [p], s.chutesOf p, false, []⟩).answered
            rq .accepted []))
      ∧ ((s.pass p).defined = true → s.takes rq 1 = true → (s.pass p).state ≠ .hung →
        exec (.clearHang rq p) s = .next (s.answered rq .wrongMode []))

/-- What a measurement M makes of a pass, by its state: the blend, the confirmation of the draw by a signed
drop, the hang, its release, and service (R11 to R16), handed to the arbiter and the chutes exactly where E, R,
D or the state has changed (R26); a usable conversion of an IDLE channel assigned to a defined pass forms M from
the pass's channels, the other one being the other usable one, by the volumes at the heights of their last
readings, and applies it (R10, R29, R37 to R39). -/
def Obligations.MeasurementsFollowThePassState : Prop :=
  ∀ (q : Pass) (m r : Nat) (s : State) (p : PassIdx) (ch o : ChannelIdx),
    (q.state = .unknown →
        q.measure m = { q with e := m, r := m, d := 0, known := true, state := .running })
      ∧ (q.state = .running → q.d = 0 →
        q.measure m = { q with e := blend q.blendShift q.capacity q.e m, r := m })
      ∧ (q.state = .running → 0 < q.d → (q.d : Int) ≤ 2 * ((q.r : Int) - m) →
        q.measure m = { q with e := blend q.blendShift q.capacity q.e m, d := 0, r := m })
      ∧ (q.state = .running → 0 < q.d → 2 * ((q.r : Int) - m) < q.d → q.d < q.hangThreshold →
        q.measure m = { q with e := blend q.blendShift q.capacity q.e m })
      ∧ (q.state = .running → 0 < q.d → 2 * ((q.r : Int) - m) < q.d → q.hangThreshold ≤ q.d →
        q.measure m = { q with e := m, r := m, d := 0, state := .hung, conds := raise .hang q.conds })
      ∧ (q.state = .hung → (m : Int) ≤ (q.r : Int) - q.hangThreshold →
        q.measure m = { q with e := m, r := m, state := .running, conds := raise .released q.conds })
      ∧ (q.state = .hung → (q.r : Int) - q.hangThreshold < m → q.measure m = { q with e := m })
      ∧ (q.state = .outOfService → q.known = true →
        q.measure m = { q with e := blend q.blendShift q.capacity q.e m })
      ∧ (q.state = .outOfService → q.known = false →
        q.measure m = { q with e := m, r := m, known := true })
      ∧ (let x := s.channel ch
        let distance := x.zeroAt + (min (max x.reading 400) 2000 - 400) * x.span / 1600
        let usable (c : ChannelIdx) : Bool := (s.channel c).defined
          && decide ((s.channel c).assignment = some p)
          && decide ((s.channel c).state = .valid ∨ (s.channel c).state = .clamped)
          && decide ((s.channel c).proof = .idle)
        s.channelVolume p ch = volumeAt (s.pass p).profile ((s.pass p).height - distance)
          ∧ (s.otherChannel p ch = some o ↔ o ≠ ch ∧ usable o = true
            ∧ ∀ c, c ≠ ch → usable c = true → o ≤ c)
          ∧ (s.otherChannel p ch = none ↔ ∀ c, c ≠ ch → usable c = false))
      ∧ (let q0 := s.pass p
        let q1 := q0.measure m
        let applied := s.modPass p fun y => y.measure m
        let plant := (List.finRange 8).filter fun c => (s.chute c).defined && decide ((s.chute c).pass = p)
        ¬ (q0.state = .running ∧ q1.state = .hung) → (Event.of s).applyMeasurement p m =
          if q1.e = q0.e ∧ q1.r = q0.r ∧ q1.d = q0.d ∧ q1.state = q0.state then Event.of applied
          else ⟨applied, [p], plant, false, []⟩)
      ∧ (s.inReset = false → s.scanner = ⟨ch, true⟩ → s.enabled ch = true →
        (s.channel ch).assignment = some p → (s.channel ch).proof = .idle → (s.pass p).defined = true →
        360 ≤ r → r ≤ 2100 →
        let s1 := s.modChannel ch fun x => { x with
          reading := r, age := 0, state := if 400 ≤ r ∧ r ≤ 2000 then .valid else .clamped }
        let v1 := s1.channelVolume p ch
        let limit := (s.pass p).disagreement
        exec (.conversionCompletion r) s = .next (((match s1.otherChannel p ch with
          | none => (Event.of s1).applyMeasurement p v1
          | some o =>
              let v2 := s1.channelVolume p o
              if v1 ≤ v2 + limit ∧ v2 ≤ v1 + limit then (Event.of s1).applyMeasurement p ((v1 + v2) / 2)
              else (Event.of (s1.modPass p fun q => { q with conds := raise .disagree q.conds })).applyMeasurement
                p (max v1 v2)).update State.chooseConversion).finish))

/-- A measurement that hangs a RUNNING pass: HUNG with E and R at M and D 0, HANG raised, then every grant of the pass
revoked, which leaves reserved at what the revocations do not give back, then every cycle and nudge of its chutes
aborted, whose debits E then takes, the waiting list kept, its arbiter and its chutes triggered, and no plant of
another pass touched (R14, R18, R24, R26, R67, R93, R150; log 28 says which aborted nudges reclose). -/
def Obligations.HangRevokesGrantsAndAbortsCycles : Prop :=
  ∀ (s : State) (p : PassIdx) (m : Nat),
    (s.pass p).state = .running → 0 < (s.pass p).d → 2 * (((s.pass p).r : Int) - m) < (s.pass p).d →
    (s.pass p).hangThreshold ≤ (s.pass p).d →
      let ev := (Event.of s).applyMeasurement p m
      let u := ev.st
      let a := ((Event.of (s.modPass p fun q => { q with
          e := m, r := m, d := 0, state := .hung, conds := raise .hang q.conds })).revokeWhere fun t =>
        decide ((s.tip t).pass = p ∧ (s.tip t).state = .granted)).abortWhere fun c => decide ((s.chute c).pass = p)
      let drawn : Nat := ((List.finRange 8).map fun c : ChuteIdx =>
        if (s.chute c).state = .holding ∧ (s.chute c).pass = p then (s.chute c).volume else 0).sum
      ev = ⟨a.st, p :: a.arb, s.chutesOf p ++ a.tries, a.choice, a.touched⟩
        ∧ (u.pass p).e = (if (s.pass p).defined = true ∧ (s.pass p).known = true then m - drawn else m)
        ∧ (u.pass p).reserved = (s.pass p).reserved - (((List.finRange 16).filter fun t =>
            decide ((s.tip t).state = .granted ∧ (s.tip t).pass = p)).map fun t => (s.tip t).load).sum
        ∧ (u.pass p).state = .hung ∧ (u.pass p).r = m ∧ (u.pass p).d = 0 ∧ (u.pass p).e ≤ m
        ∧ raised .hang (u.pass p).conds = true
        ∧ ((∀ c, (s.chute c).pass = p → (s.chute c).state ≠ .holding) → (u.pass p).e = m)
        ∧ (u.pass p).waiting = (s.pass p).waiting ++ (List.finRange 16).filter fun t =>
            decide ((s.tip t).pass = p ∧ (s.tip t).state = .granted) && s.callPresent t
        ∧ (∀ t, u.tip t =
            if (s.tip t).pass = p ∧ (s.tip t).state = .granted then
              { s.tip t with state := if s.callPresent t then .waiting else .idle, timer := none }
            else s.tip t)
        ∧ (∀ c, (s.chute c).pass = p → (u.chute c).state ≠ .opening ∧ (u.chute c).state ≠ .holding
            ∧ (u.chute c).state ≠ .nudging)
        ∧ (∀ c, (s.chute c).pass ≠ p → u.chute c = s.chute c)
        ∧ (∀ o, o ≠ p → u.pass o = s.pass o)
        ∧ p ∈ ev.arb ∧ (∀ c, (s.chute c).defined = true → (s.chute c).pass = p → c ∈ ev.tries)
        ∧ u.entries = s.entries ∧ u.breaker = s.breaker ∧ u.lines = s.lines ∧ u.channels = s.channels

/-! ## The scanner and the level channels -/

/-- The choice of the next conversion: the first enabled channel of the cycle 0, 4, 1, 5, 2, 6, 3, 7 after the
position, the position itself last; idle with its position kept where no channel is enabled in the active list,
which is BREAKING exactly while the breaker is BREAKING (R33, R34, R35). -/
def Obligations.ScanTakesTheNextEnabledChannel : Prop :=
  ∀ (s : State) (ch : ChannelIdx),
    let place (o : ChannelIdx) : Nat := [0, 4, 1, 5, 2, 6, 3, 7].idxOf o.val
    let ahead (o : ChannelIdx) : Nat := (place o + 7 - place s.scanner.position) % 8
    let t := s.chooseConversion
    t = { s with scanner := t.scanner }
      ∧ (t.scanner.converting = true → s.enabled t.scanner.position = true
          ∧ ∀ o, s.enabled o = true → ahead t.scanner.position ≤ ahead o)
      ∧ (t.scanner.converting = false → t.scanner.position = s.scanner.position
          ∧ ∀ o, s.enabled o = false)
      ∧ (s.enabled ch = true ↔ (s.channel ch).defined = true
          ∧ (s.breaker.state = .breaking → (s.channel ch).inBreaking = true)
          ∧ (s.breaker.state ≠ .breaking → (s.channel ch).inQuiet = true))
      ∧ s.wakeScanner = if s.scanner.converting then s else t

/-- A completion tests the channel against the list active now. Discarded, it leaves the record alone; kept, it
sets the last reading and age 0 and is judged, with SENSOR_FAULT only where the reading state was not FAULT; a
fault that takes the last usable channel (R29) from a RUNNING pass raises BLIND; an unassigned or HELD channel
and an undefined pass see nothing more. The scanner then starts the next channel (R28, R33, R36, R37, R39, R41;
a completion with no conversion in flight does nothing, log 6). -/
def Obligations.ConversionsAreKeptAndJudged : Prop :=
  ∀ (s : State) (ch : ChannelIdx) (p : PassIdx) (r : Nat), s.inReset = false →
    let usable (o : ChannelIdx) : Bool := (s.channel o).defined && decide ((s.channel o).assignment = some p)
      && decide ((s.channel o).state = .valid ∨ (s.channel o).state = .clamped)
      && decide ((s.channel o).proof = .idle)
    let c := Instr.conversionCompletion r
    let judged := s.modChannel ch fun x => { x with
      reading := min r 2400, age := 0
      state :=
        if r < 360 then .fault else if r < 400 then .clamped else if r ≤ 2000 then .valid
        else if r ≤ 2100 then .clamped else .fault
      conds := if (r < 360 ∨ 2100 < r) ∧ x.state ≠ .fault then raise .sensorFault x.conds else x.conds }
    (s.lastUsable p ch = true ↔
        usable ch = true ∧ (s.pass p).state = .running ∧ ∀ o, o ≠ ch → usable o = false)
      ∧ (s.scanner.converting = false → exec c s = .next s)
      ∧ (s.scanner = ⟨ch, true⟩ → s.enabled ch = false → exec c s = .next s.chooseConversion.endEvent)
      ∧ (s.scanner = ⟨ch, true⟩ → s.enabled ch = true →
        ((s.channel ch).proof = .held ∨ ((s.channel ch).proof = .idle ∧ (s.channel ch).assignment = none)
          ∨ ((s.channel ch).proof = .idle ∧ (s.channel ch).assignment = some p
            ∧ (s.pass p).defined = false ∧ 360 ≤ r ∧ r ≤ 2100) →
          exec c s = .next judged.chooseConversion.endEvent)
        ∧ ((s.channel ch).proof = .idle → (s.channel ch).assignment = some p → (r < 360 ∨ 2100 < r) →
          exec c s = .next (if s.lastUsable p ch then
              judged.modPass p fun q => { q with conds := raise .blind q.conds }
            else judged).chooseConversion.endEvent))

/-- PROVE CHANNEL starts PROVING with the window in force, a settle mark of 20 and the test output on, and takes the
channel from its pass; of the conversions kept in PROVING, one in 1160 to 1240 after the settle mark is PASS, and one
outside 360 to 2100 is a FAULT reading with SENSOR_FAULT and no result; the window's expiry is FAIL; each result stops
both timers, raises PROOF_DONE and leaves the channel HELD until ACCEPT PROOF returns it to IDLE with reading state
NONE; the answers number states as the record lists them, the model's choice (R37, R41, R42, R151, R152, R153; log
13). -/
def Obligations.ChannelProofsRunTheirCourse : Prop :=
  ∀ (rq : Request) (ch : ChannelIdx) (p : PassIdx) (r : Nat) (s : State),
    let x := s.channel ch
    let result (o : ChannelResult) (y : Channel) : Channel :=
      { y with proof := .held, lastProof := o, windowTimer := none, settleMark := none
               conds := raise .proofDone y.conds }
    (s.takes rq 1 = true →
        (x.defined = true → x.assignment = some p → s.bound (.test ch) = true → x.proof = .idle →
          let s1 := s.modChannel ch fun y => { y with
            proof := .proving, windowTimer := some s.station.proofWindow, settleMark := some 20 }
          s1.command (.test ch) = true ∧ exec (.proveChannel rq ch) s = .next ((if s.lastUsable p ch then
              s1.modPass p fun q => { q with conds := raise .blind q.conds }
            else s1).endEvent.answered rq .accepted (bigEndian 1 1 ++ bigEndian 2 s.station.proofWindow)))
        ∧ (x.defined = true → x.assignment = some p → s.bound (.test ch) = true → x.proof ≠ .idle →
          exec (.proveChannel rq ch) s = .next (s.answered rq .busy []))
        ∧ (x.defined = false ∨ x.assignment = none ∨ s.bound (.test ch) = false →
          exec (.proveChannel rq ch) s = .next (s.answered rq .noRecord [])))
      ∧ (s.inReset = false → x.proof = .proving →
        (x.windowTimer.isSome = true → exec (.windowTimerExpiry ch) s =
            .next (s.modChannel ch (result .fail)).endEvent)
        ∧ (x.settleMark.isSome = true → exec (.settleMarkExpiry ch) s =
            .next (s.modChannel ch fun y => { y with settleMark := none }).endEvent)
        ∧ (s.scanner = ⟨ch, true⟩ → s.enabled ch = true → 360 ≤ r → r ≤ 2100 →
          exec (.conversionCompletion r) s = .next (s.modChannel ch fun y =>
            let z := { y with
              reading := r, age := 0, state := if 400 ≤ r ∧ r ≤ 2000 then .valid else .clamped }
            if y.settleMark = none ∧ 1160 ≤ r ∧ r ≤ 1240 then result .pass z
            else z).chooseConversion.endEvent)
        ∧ (s.scanner = ⟨ch, true⟩ → s.enabled ch = true → (r < 360 ∨ 2100 < r) →
          exec (.conversionCompletion r) s = .next (s.modChannel ch fun y => { y with
            reading := min r 2400, age := 0, state := .fault
            conds := if y.state = .fault then y.conds else raise .sensorFault y.conds
            }).chooseConversion.endEvent))
      ∧ (s.takes rq 2 = true →
        (x.defined = true → x.proof = .held → exec (.acceptProof rq 6 ch) s =
            .next ((s.modChannel ch fun y => { y with proof := .idle, state := .none }).endEvent.answered rq
              .accepted (bigEndian 1 x.lastProof.code ++ bigEndian 1 0)))
        ∧ (x.defined = true → x.proof = .idle → exec (.acceptProof rq 6 ch) s =
            .next (s.endEvent.answered rq .accepted (bigEndian 1 x.lastProof.code ++ bigEndian 1 0)))
        ∧ (x.defined = true → x.proof = .proving → exec (.acceptProof rq 6 ch) s =
            .next (s.answered rq .busy []))
        ∧ (x.defined = false → exec (.acceptProof rq 6 ch) s = .next (s.answered rq .noRecord [])))

/-- A tick of 0.1 s adds 1 to the age of each defined channel, saturating, and takes 0.1 s from every running
timer (the passage of time on the timers is the model's choice, log 5; that an undefined channel's age stays is
its reading of R40 and R44, log 8); a live reading of an assigned channel whose age has reached the stale limit
goes STALE at its expiry, and BLIND follows where it was the last usable one; otherwise the expiry changes
nothing (R40, R41; logs 6, 7). -/
def Obligations.AgesGrowAndReadingsGoStale : Prop :=
  ∀ (s : State) (ch : ChannelIdx) (p : PassIdx), s.inReset = false →
    (Yields (exec .ageTick s) fun t =>
      t = { s with channels := t.channels, tips := t.tips, chutes := t.chutes, entries := t.entries,
                   lines := t.lines, breaker := t.breaker }
        ∧ (∀ o, t.channel o = { s.channel o with
            age := if (s.channel o).defined then min ((s.channel o).age + 1) 65535 else (s.channel o).age
            windowTimer := (s.channel o).windowTimer.map (· - 1)
            settleMark := (s.channel o).settleMark.map (· - 1) })
        ∧ (∀ x, t.tip x = { s.tip x with timer := (s.tip x).timer.map (· - 1) })
        ∧ (∀ c, t.chute c = { s.chute c with
            strokeTimer := (s.chute c).strokeTimer.map (· - 1)
            holdTimer := (s.chute c).holdTimer.map (· - 1)
            nudgeTimer := (s.chute c).nudgeTimer.map (· - 1) })
        ∧ (∀ e, t.entry e = { s.entry e with timer := (s.entry e).timer.map (· - 1) })
        ∧ (∀ i, t.line i = { s.line i with timer := (s.line i).timer.map (· - 100) })
        ∧ t.breaker = { s.breaker with
            travelTimer := s.breaker.travelTimer.map (· - 1)
            breakTimer := s.breaker.breakTimer.map (· - 1)
            returnTimer := s.breaker.returnTimer.map (· - 1) })
      ∧ ((s.channel ch).assignment = some p →
          ((s.channel ch).state = .valid ∨ (s.channel ch).state = .clamped) →
          (s.pass p).staleLimit ≤ (s.channel ch).age →
        let s1 := s.modChannel ch fun x => { x with state := .stale }
        exec (.stalenessExpiry ch) s = .next (if s.lastUsable p ch then
            s1.modPass p fun q => { q with conds := raise .blind q.conds }
          else s1).endEvent)
      ∧ ((s.channel ch).assignment = none
          ∨ ((s.channel ch).assignment = some p ∧ (s.channel ch).age < (s.pass p).staleLimit)
          ∨ ((s.channel ch).state ≠ .valid ∧ (s.channel ch).state ≠ .clamped) →
        exec (.stalenessExpiry ch) s = .next s)

/-- DEFINE CHANNEL: the modes of R29, then the refusals of R30 in their order (in RUN an assignment above 5 meets no
mode condition, the model's choice, log 26); accepted, it stores assignment, zero and span, binds the test line, sets
the reading state NONE and the age 0, hands a loss of use on, and wakes an idle scanner for a listed channel. SCAN
LIST sets both flags of all eight channels and an idle scanner chooses (R29 to R31, R34, R43). -/
def Obligations.DefineChannelAndScanListSetTheChannels : Prop :=
  ∀ (rq : Request) (ch : ChannelIdx) (a : Option PassIdx) (zeroAt span : Nat) (l : Option LineIdx)
    (a' l' : Option Nat) (quiet breaking : BitVec 8) (s : State),
    let x := s.channel ch
    let serving (n : Nat) : Bool :=
      (List.finRange 6).any fun q => decide (q.val = n ∧ (s.pass q).state = .outOfService)
    let raw := Instr.defineChannel rq ch a' zeroAt span l'
    let rawAllowed := s.station.mode = .setup ∨ (s.station.mode = .run
      ∧ (∀ q, x.assignment = some q → (s.pass q).state = .outOfService) ∧ a'.all serving = true)
    let c := Instr.defineChannel rq ch (a.map Fin.val) zeroAt span (l.map Fin.val)
    let allowed := s.station.mode = .setup ∨ (s.station.mode = .run
      ∧ ∀ q, x.assignment = some q ∨ a = some q → (s.pass q).state = .outOfService)
    let full (q : PassIdx) := ∃ o1 o2 : ChannelIdx, o1 < o2 ∧ o1 ≠ ch ∧ o2 ≠ ch
      ∧ (s.channel o1).assignment = some q ∧ (s.channel o2).assignment = some q
    (s.takes rq 7 = true →
        (¬ rawAllowed → exec raw s = .next (s.answered rq .wrongMode []))
        ∧ (rawAllowed → x.proof ≠ .idle → exec raw s = .next (s.answered rq .busy []))
        ∧ (rawAllowed → x.proof = .idle → (30000 < zeroAt ∨ span < 100 ∨ 30000 < span
            ∨ a'.any (fun n => decide (5 < n)) = true ∨ l'.any (fun n => decide (39 < n)) = true) →
          exec raw s = .next (s.answered rq .outOfRange []))
        ∧ (allowed → x.proof = .idle → zeroAt ≤ 30000 → 100 ≤ span → span ≤ 30000 →
          (∀ i, l = some i → i.val < 40) →
          ((∃ q, a = some q ∧ (s.pass q).defined = false) → exec c s = .next (s.answered rq .noRecord []))
          ∧ ((∀ q, a = some q → (s.pass q).defined = true) →
            ((∃ q, a = some q ∧ full q) → exec c s = .next (s.answered rq .tableFull []))
            ∧ ((∀ q, a = some q → ¬ full q) →
              (s.lineConflict [(.test ch, l)] = true → exec c s = .next (s.answered rq .lineConflict []))
              ∧ (s.lineConflict [(.test ch, l)] = false →
                let s1 := s.modChannel ch fun y => { y with
                  defined := true, assignment := a, zeroAt := zeroAt, span := span, state := .none, age := 0 }
                let s2 := (match x.assignment with
                  | some q => if s.lastUsable q ch then
                      s1.modPass q fun q => { q with conds := raise .blind q.conds } else s1
                  | none => s1).bindLines [(.test ch, l)]
                exec c s = .next
                  ((if (if s.breaker.state = .breaking then x.inBreaking else x.inQuiet) = true
                      ∧ s.scanner.converting = false then s2.chooseConversion else s2).endEvent.answered rq
                    .accepted []))))))
      ∧ (s.takes rq 2 = true →
        let s1 := s.mapChannels fun o y => { y with
          inQuiet := quiet.getLsbD o, inBreaking := breaking.getLsbD o }
        exec (.scanList rq quiet breaking) s = .next
          ((if s.scanner.converting then s1 else s1.chooseConversion).endEvent.answered rq .accepted
            [quiet, breaking]))

/-! ## Tip points -/

/-- DEFINE TIP: the modes of R46, then the refusals of R47 in their order (in RUN a pass index above 5 meets no mode
condition, the model's choice, log 26); accepted, it stores its fields and binds its lines; first definition and
redefinition treat the working state as R48 says, a WAITING tip point losing its call and a GRANTED one, which no run
meets here, keeping its grant (the model's choice, log 25); no arbiter runs, and every waiting entry makes
its settling test (R46 to R48, R126). -/
def Obligations.DefineTipTreatsTheWorkingState : Prop :=
  ∀ (rq : Request) (t : TipIdx) (p : PassIdx) (n elevation load level : Nat) (g : Option StationIdx)
    (call sensor lamp oversize : Option LineIdx) (g' call' sensor' lamp' oversize' : Option Nat) (s : State),
    s.takes rq 12 = true →
    let x := s.tip t
    let roles : Roles := [(.call t, call), (.tipSensor t, sensor), (.lamp t, lamp), (.oversize t, oversize)]
    let above (k : Nat) (o : Option Nat) : Bool := o.any fun i => decide (k < i)
    let raw := Instr.defineTip rq t n elevation load level g' call' sensor' lamp' oversize'
    let rawAllowed := s.station.mode = .setup ∨ (s.station.mode = .run
      ∧ (∃ q : PassIdx, q.val = n ∧ (s.pass q).state = .outOfService)
      ∧ (x.defined = true → (s.pass x.pass).state = .outOfService))
    let c := Instr.defineTip rq t p elevation load level (g.map Fin.val) (call.map Fin.val)
      (sensor.map Fin.val) (lamp.map Fin.val) (oversize.map Fin.val)
    let misplaced := (s.pass p).height < elevation ∨ call = none ∨ sensor = none ∨ lamp = none
      ∨ (g.isSome = true ∧ oversize = none)
      ∨ (∃ k, (s.bst k).defined = true ∧ (s.bst k).tip = t ∧ g ≠ some k)
      ∨ ∃ k, g = some k ∧ (s.bst k).defined = true ∧ (s.bst k).tip ≠ t
    (¬ rawAllowed → exec raw s = .next (s.answered rq .wrongMode []))
      ∧ (rawAllowed → (5 < n ∨ 30000 < elevation ∨ load < 5 ∨ 600 < load ∨ level < 1 ∨ 7 < level
          ∨ above 3 g' = true ∨ above 47 call' = true ∨ above 47 sensor' = true ∨ above 39 lamp' = true
          ∨ above 47 oversize' = true ∨ (oversize'.isSome = true ∧ g' = none)) →
        exec raw s = .next (s.answered rq .outOfRange []))
      ∧ (s.station.mode = .setup ∨ (s.station.mode = .run ∧ (s.pass p).state = .outOfService
          ∧ (x.defined = true → (s.pass x.pass).state = .outOfService)) →
        elevation ≤ 30000 → 5 ≤ load → load ≤ 600 → 1 ≤ level → level ≤ 7 →
        (∀ i, lamp = some i → i.val < 40) → (oversize.isSome = true → g.isSome = true) →
        ((s.pass p).defined = false → exec c s = .next (s.answered rq .noRecord []))
        ∧ ((s.pass p).defined = true →
          ((∃ o, o ≠ t ∧ (s.tip o).defined = true ∧ g.isSome = true ∧ (s.tip o).grizzly = g) →
            exec c s = .next (s.answered rq .duplicate []))
          ∧ ((∀ o, o ≠ t → (s.tip o).defined = true → g.isSome = true → (s.tip o).grizzly ≠ g) →
            (s.station.mode = .run → misplaced → exec c s = .next (s.answered rq .geometry []))
            ∧ ((s.station.mode = .run → ¬ misplaced) →
              (s.lineConflict roles = true → exec c s = .next (s.answered rq .lineConflict []))
              ∧ (s.lineConflict roles = false →
                let s1 := if x.defined = true ∧ x.state = .waiting then
                    s.modPass x.pass fun q => { q with waiting := q.waiting.filter (· ≠ t) }
                  else s
                exec c s = .next ((Event.finish ⟨(s1.modTip t fun y =>
                    if y.defined then { y with
                      pass := p, elevation := elevation, load := load, level := level, grizzly := g
                      state := if y.state = .waiting then .idle else y.state }
                    else ⟨true, p, elevation, load, level, g, y.timeout, .idle, .field, none, 0⟩).bindLines
                      roles, [], [], false, List.finRange 24⟩).answered rq .accepted []))))))

/-- A call from the field or the link makes an IDLE tip point WAITING at the tail of its pass's list and runs the
arbiter, and changes nothing otherwise; a falling call edge withdraws a FIELD call and WITHDRAW any call, with no
run of the arbiter; both requests answer the tip state that results (R51 to R54). -/
def Obligations.CallsJoinAndLeaveTheList : Prop :=
  ∀ (rq : Request) (t : TipIdx) (i : LineIdx) (s : State),
    let x := s.tip t
    let joined (source : CallSource) (u : State) : State := Event.finish
      ⟨(u.modTip t fun y => { y with state := .waiting, source := source }).modPass x.pass
        fun q => { q with waiting := q.waiting ++ [t] }, [x.pass], [], false, []⟩
    let left (u : State) : State := State.endEvent <|
      (u.modPass x.pass fun q => { q with waiting := q.waiting.filter (· ≠ t) }).modTip t
        fun y => { y with state := .idle }
    (s.takes rq 1 = true →
        (x.defined = true → x.state = .idle → exec (.callTip rq t) s = .next ((joined .link s).answered rq
            .accepted (bigEndian 1 ((joined .link s).tip t).state.code)))
        ∧ (x.defined = true → x.state ≠ .idle → exec (.callTip rq t) s =
            .next (s.endEvent.answered rq .accepted (bigEndian 1 x.state.code)))
        ∧ (x.defined = true → x.state = .waiting → exec (.withdraw rq t) s =
            .next ((left s).answered rq .accepted (bigEndian 1 0)))
        ∧ (x.defined = true → x.state ≠ .waiting → exec (.withdraw rq t) s =
            .next (s.endEvent.answered rq .accepted (bigEndian 1 x.state.code)))
        ∧ (x.defined = false → exec (.callTip rq t) s = .next (s.answered rq .noRecord [])
            ∧ exec (.withdraw rq t) s = .next (s.answered rq .noRecord [])))
      ∧ (s.edgeDue i (.call t) true = true → exec (.debounceExpiry i) s = .next
          (if x.defined = true ∧ x.state = .idle then joined .field (s.debounced i)
            else (s.debounced i).endEvent))
      ∧ (s.edgeDue i (.call t) false = true → exec (.debounceExpiry i) s = .next
          (if x.defined = true ∧ x.state = .waiting ∧ x.source = .field then left (s.debounced i)
            else (s.debounced i).endEvent))

/-- One run of a pass's arbiter offers room to the choice, the eligible member of its list with the highest level and
the earliest among equals: it grants one that fits and goes on with the next choice, and stops where none is eligible
or the choice does not fit. It grants no other, within the room alone, and changes nothing else. A tip point is
eligible in RUN on a RUNNING pass while no entry covers it and its grizzly is not blocked, by its oversize line or by
a job for its station (R24, R25, R57 to R60; that it must be defined is log 19). -/
def Obligations.ArbiterGrantsTheBestEligibleCalls : Prop :=
  ∀ (s : State) (p : PassIdx) (c : TipIdx),
    let t := s.runArbiter p
    let q := s.pass p
    (s.eligible c = true ↔ (s.tip c).defined = true ∧ s.station.mode = .run
          ∧ (s.pass (s.tip c).pass).state = .running ∧ (∀ e, s.coversTip e c = false) ∧ s.blocked c = false)
      ∧ (s.blocked c = true ↔ ∃ k, (s.tip c).grizzly = some k
          ∧ (s.level (.oversize c) = true ∨ (∃ j ∈ s.breaker.jobs, j.station = k)
            ∨ s.breaker.current.map Job.station = some k))
      ∧ t = { s with passes := t.passes, tips := t.tips }
      ∧ (∀ o, o ≠ p → t.pass o = s.pass o)
      ∧ t.pass p = { q with waiting := (t.pass p).waiting, reserved := (t.pass p).reserved }
      ∧ (t.pass p).waiting.Sublist q.waiting
      ∧ (∀ x, t.tip x = s.tip x ∨ (x ∈ q.waiting ∧ x ∉ (t.pass p).waiting ∧ s.eligible x = true
          ∧ t.tip x = { s.tip x with state := .granted, timer := some (s.tip x).timeout }))
      ∧ (∀ x, x ∈ q.waiting → x ∈ (t.pass p).waiting ∨ (t.tip x).state = .granted)
      ∧ (q.waiting.Nodup → (t.pass p).reserved
          = q.reserved + ((q.waiting.filter fun x => decide (x ∉ (t.pass p).waiting)).map
            fun x => (s.tip x).load).sum)
      ∧ ((t.pass p).waiting ≠ q.waiting → q.e + (t.pass p).reserved ≤ q.tipLimit)
      ∧ (∀ x, t.chooseCall p = some x → q.tipLimit < q.e + (t.pass p).reserved + (s.tip x).load)
      ∧ (∀ x, s.chooseCall p = some x →
        (q.e + q.reserved + (s.tip x).load ≤ q.tipLimit → t = (((s.modPass p fun y => { y with
            reserved := y.reserved + (s.tip x).load, waiting := y.waiting.filter (· ≠ x) }).modTip x
              fun y => { y with state := .granted, timer := some y.timeout }).runArbiter p))
        ∧ (q.tipLimit < q.e + q.reserved + (s.tip x).load → t = s))
      ∧ (s.chooseCall p = none → t = s)
      ∧ (s.chooseCall p = none ↔ ∀ x, x ∈ q.waiting → s.eligible x = false)
      ∧ (∀ x, s.chooseCall p = some x → x ∈ q.waiting ∧ s.eligible x = true
          ∧ ∀ y, y ∈ q.waiting → s.eligible y = true → (s.tip y).level < (s.tip x).level
            ∨ ((s.tip y).level = (s.tip x).level ∧ q.waiting.idxOf x ≤ q.waiting.idxOf y))

/-- The ends of a grant that a tip point sees: a lapse makes it IDLE with LAPSED raised; a tip at a GRANTED tip
point consumes the grant, and at any other raises UNGRANTED_TIP; every tip credits the pass, and every IN_FORCE
entry covering the tip point records it as a breach (R17, R24, R26, R56, R62 to R64, R132; a stopped timer does
nothing, log 6; an unchanged E is not handed on, log 18). -/
def Obligations.GrantsLapseAndTipsCredit : Prop :=
  ∀ (t : TipIdx) (i : LineIdx) (s : State),
    let x := s.tip t
    let q := s.pass x.pass
    let credited (y : Pass) : Pass :=
      if q.defined = true ∧ q.known = true then { y with
        e := min (q.e + x.load) q.capacity
        r := if q.state = .running then min (q.r + x.load) 16777215 else q.r
        conds := if q.capacity < q.e + x.load then raise .overtop q.conds else q.conds }
      else y
    let moved := (credited q).e ≠ q.e
    let breached (u : State) : State := u.mapEntries fun e y =>
      if s.coversTip e t = true ∧ y.state = .inForce then { y with
        breaches := min (y.breaches + 1) 255
        firstBreach := if y.firstBreach.isSome then y.firstBreach else some ⟨.tipSensed, t⟩
        conds := raise .breach y.conds }
      else y
    (s.inReset = false →
        (x.state = .granted → x.timer.isSome = true → exec (.grantTimerExpiry t) s = .next (Event.finish
          ⟨(s.modTip t fun y => { y with state := .idle, timer := none, conds := raise .lapsed y.conds }).modPass
            x.pass fun y => { y with reserved := y.reserved - x.load },
            [x.pass], [], false, s.coveringTip t⟩))
        ∧ (x.state ≠ .granted ∨ x.timer = none → exec (.grantTimerExpiry t) s = .next s))
      ∧ (s.edgeDue i (.tipSensor t) true = true → x.defined = true →
        (x.state = .granted → exec (.debounceExpiry i) s = .next (Event.finish
          ⟨breached (((s.debounced i).modTip t fun y => { y with state := .idle, timer := none }).modPass
            x.pass fun y => credited { y with reserved := y.reserved - x.load }),
            [x.pass], if moved then s.chutesOf x.pass else [], false, s.coveringTip t⟩))
        ∧ (x.state ≠ .granted → exec (.debounceExpiry i) s = .next (Event.finish
          ⟨breached (((s.debounced i).modTip t fun y =>
              { y with conds := raise .ungrantedTip y.conds }).modPass x.pass credited),
            if moved then [x.pass] else [], if moved then s.chutesOf x.pass else [], false, []⟩)))
      ∧ (s.edgeDue i (.tipSensor t) false = true
          ∨ (s.edgeDue i (.tipSensor t) true = true ∧ x.defined = false) →
        exec (.debounceExpiry i) s = .next (s.debounced i).endEvent)

/-- The revocations of one event: each chosen tip point that is GRANTED stops its timer, gives its reservation
back and is re-queued at the tail in ascending order of index if its call is present, or made IDLE; no condition
is raised, and the arbiter of each pass concerned is triggered (R24, R66, R67). -/
def Obligations.RevocationsRequeueInIndexOrder : Prop :=
  ∀ (s : State) (which : BitVec 16),
    let u := (Event.of s).revokeWhere fun t => which.getLsbD t
    let ended (t : TipIdx) : Bool := which.getLsbD t && decide ((s.tip t).state = .granted)
    let present (t : TipIdx) : Bool := decide ((s.tip t).source = .link) || s.level (.call t)
    u.st = { s with passes := u.st.passes, tips := u.st.tips }
      ∧ (∀ t, u.st.tip t = if ended t then
            { s.tip t with state := if present t then .waiting else .idle, timer := none }
          else s.tip t)
      ∧ (∀ p, u.st.pass p = { s.pass p with
            waiting := (s.pass p).waiting ++ (List.finRange 16).filter fun t =>
              ended t && present t && decide ((s.tip t).pass = p)
            reserved := (s.pass p).reserved - (((List.finRange 16).filter fun t =>
              ended t && decide ((s.tip t).pass = p)).map fun t => (s.tip t).load).sum })
      ∧ (∀ p, p ∈ u.arb ↔ ∃ t, ended t = true ∧ (s.tip t).pass = p)
      ∧ (∀ e, e ∈ u.touched ↔ ∃ t, ended t = true ∧ s.coversTip e t = true)
      ∧ u.tries = [] ∧ u.choice = false

/-! ## Chutes -/

/-- DEFINE CHUTE: the modes of R73, then the refusals of R74 in their order (in RUN a pass index above 5 meets no mode
condition, the model's choice, log 26); accepted, it stores its fields and binds its five lines; a first definition
gives the working state of R75 with the record's tuning, a redefinition drops the pending call and keeps the rest
(R73 to R75, R126). -/
def Obligations.DefineChuteTreatsTheWorkingState : Prop :=
  ∀ (rq : Request) (c : ChuteIdx) (p : PassIdx) (n elevation volume : Nat)
    (ov cv ol cl lc : Option LineIdx) (ov' cv' ol' cl' lc' : Option Nat) (s : State), s.takes rq 11 = true →
    let x := s.chute c
    let roles : Roles := [(.openValve c, ov), (.closeValve c, cv), (.openLimit c, ol), (.closedLimit c, cl),
      (.loadCall c, lc)]
    let above (k : Nat) (o : Option Nat) : Bool := o.any fun i => decide (k < i)
    let raw := Instr.defineChute rq c n elevation volume ov' cv' ol' cl' lc'
    let rawAllowed := s.station.mode = .setup ∨ (s.station.mode = .run
      ∧ (∃ q : PassIdx, q.val = n ∧ (s.pass q).state = .outOfService)
      ∧ (x.defined = true → (s.pass x.pass).state = .outOfService))
    let i := Instr.defineChute rq c p elevation volume (ov.map Fin.val) (cv.map Fin.val) (ol.map Fin.val)
      (cl.map Fin.val) (lc.map Fin.val)
    let misplaced := (s.pass p).height < elevation ∨ ov = none ∨ cv = none ∨ ol = none ∨ cl = none ∨ lc = none
    (¬ rawAllowed → exec raw s = .next (s.answered rq .wrongMode []))
      ∧ (rawAllowed → x.defined = true → x.state ≠ .closed → exec raw s = .next (s.answered rq .busy []))
      ∧ (rawAllowed → (x.defined = true → x.state = .closed) →
        (5 < n ∨ 30000 < elevation ∨ volume < 5 ∨ 600 < volume ∨ above 39 ov' = true ∨ above 39 cv' = true
          ∨ above 47 ol' = true ∨ above 47 cl' = true ∨ above 47 lc' = true) →
        exec raw s = .next (s.answered rq .outOfRange []))
      ∧ (s.station.mode = .setup ∨ (s.station.mode = .run ∧ (s.pass p).state = .outOfService
          ∧ (x.defined = true → (s.pass x.pass).state = .outOfService)) →
        (x.defined = true → x.state = .closed) → elevation ≤ 30000 → 5 ≤ volume → volume ≤ 600 →
        (∀ j, ov = some j ∨ cv = some j → j.val < 40) →
        ((s.pass p).defined = false → exec i s = .next (s.answered rq .noRecord []))
        ∧ ((s.pass p).defined = true →
          (s.station.mode = .run → misplaced → exec i s = .next (s.answered rq .geometry []))
          ∧ ((s.station.mode = .run → ¬ misplaced) →
            (s.lineConflict roles = true → exec i s = .next (s.answered rq .lineConflict []))
            ∧ (s.lineConflict roles = false →
              exec i s = .next ((Event.finish ⟨(s.modChute c fun y =>
                  if y.defined then { y with
                    pass := p, elevation := elevation, volume := volume
                    callPending := false, emptyReported := false, cushionReported := false }
                  else ⟨true, p, elevation, volume, y.holdTime, y.strokeTime, y.nudgeTime, y.interval, 0, false,
                    false, false, false, .closed, false, none, none, none, false, false, .none, none, 0,
                    0, y.staleExpiry⟩).bindLines roles, [], [], false, List.finRange 24⟩).answered rq .accepted [])))))

/-- A start try makes its eight tests in order: the first six raise nothing, a count of 0 reports ORDER_EMPTY and
a low estimate CUSHION_LOW, each once per call; all eight passed, the cycle starts: the call is taken, the gate
OPENING with its open valve on and the stroke timer running. Nothing else changes (R78, R82, R84). -/
def Obligations.StartTryMakesItsEightTests : Prop :=
  ∀ (s : State) (c : ChuteIdx),
    let x := s.chute c
    let q := s.pass x.pass
    let ready := x.state = .closed ∧ s.level (.closedLimit c) = true ∧ x.held = false
      ∧ x.faultHold = false ∧ x.proofHold = false ∧ s.station.mode = .run ∧ q.state = .running
      ∧ ∀ e, s.coversChute e c = false
    let started := s.modChute c fun y => { y with
      callPending := false, emptyReported := false, cushionReported := false, reachedOpen := false
      state := .opening, strokeTimer := some y.strokeTime }
    (x.callPending = false ∨ x.defined = false ∨ ¬ ready → s.startTry c = s)
      ∧ (x.callPending = true → x.defined = true → ready →
        (x.count = 0 → s.startTry c = s.modChute c fun y => { y with
            emptyReported := true
            conds := if x.emptyReported then y.conds else raise .orderEmpty y.conds })
        ∧ (x.count ≠ 0 → q.e < q.cushion + x.volume → s.startTry c = s.modChute c fun y => { y with
            cushionReported := true
            conds := if x.cushionReported then y.conds else raise .cushionLow y.conds })
        ∧ (x.count ≠ 0 → q.cushion + x.volume ≤ q.e → s.startTry c = started
            ∧ started.command (.openValve c) = true ∧ started.command (.closeValve c) = false))

/-- ORDER sets the count of a chute that is not proof due and lets it try to start; HOLD and FREE set and clear
held on the defined chutes of the set, FREE lets them try, and both answer the set now held; none of them touches
a cycle in progress (R96, R97). -/
def Obligations.OrderHoldAndFreeSetTheChutes : Prop :=
  ∀ (rq : Request) (c : ChuteIdx) (count : Nat) (set : BitVec 8) (s : State),
    let x := s.chute c
    (s.takes rq 2 = true →
        (x.defined = false → exec (.order rq c count) s = .next (s.answered rq .noRecord []))
        ∧ (x.defined = true → x.interval ≠ 0 → x.interval ≤ x.cycles →
          exec (.order rq c count) s = .next (s.answered rq .proofDue []))
        ∧ (x.defined = true → (x.interval = 0 ∨ x.cycles < x.interval) → exec (.order rq c count) s = .next
          ((Event.finish ⟨s.modChute c fun y => { y with count := count }, [], [c], false, []⟩).answered
            rq .accepted (bigEndian 1 count))))
      ∧ (s.takes rq 1 = true →
        exec (.hold rq set) s = .next ((s.mapChutes fun o y =>
            { y with held := y.held || (set.getLsbD o && y.defined) }).endEvent.answered rq .accepted
              (bigEndian 1 (bitmap 8 fun o =>
                (s.chute o).defined && ((s.chute o).held || set.getLsbD o))))
        ∧ exec (.free rq set) s = .next ((Event.finish ⟨s.mapChutes fun o y =>
              { y with held := y.held && !(set.getLsbD o && y.defined) }, [],
            (List.finRange 8).filter fun o => set.getLsbD o && (s.chute o).defined, false, []⟩).answered rq
              .accepted (bigEndian 1 (bitmap 8 fun o =>
                (s.chute o).defined && (s.chute o).held && !set.getLsbD o))))

/-- The hold timer's expiry ends the draw: CLOSING, the count and cycles since proof changed, the volume debited from
the pass, which hands the change of E on. The stroke timer's expiry is an opening or a closing fault, or fails a
pending PASS in RECLOSING. The nudge timer's expiry with the limit high is FAIL, final in CLOSED under proof hold. A
stopped timer does nothing, and an expiry of the stroke timer that was waiting when an event started the timer again
makes no fault (R18, R26, R86, R87, R89 to R92, R94, R147 to R149; logs 6, 18, 31). -/
def Obligations.ChuteTimersEndDrawsStrokesAndNudges : Prop :=
  ∀ (s : State) (c : ChuteIdx), s.inReset = false →
    let x := s.chute c
    let q := s.pass x.pass
    let due (n : Nat) : Prop := x.interval ≠ 0 ∧ x.interval ≤ n
    let debited (y : Pass) : Pass :=
      if q.defined = true ∧ q.known = true then { y with
        e := q.e - x.volume
        d := if q.state = .running then min (q.d + x.volume) 16777215 else q.d
        conds := if q.e < x.volume then raise .floor q.conds else q.conds }
      else y
    let moved := (debited q).e ≠ q.e
    let fault (y : Chute) : Chute := { y with faultHold := true, conds := raise .strokeFault y.conds }
    (x.state = .holding → x.holdTimer.isSome = true → exec (.holdTimerExpiry c) s = .next (Event.finish
        ⟨(s.modChute c fun y =>
          let counted := if y.count = 1 then raise .orderDone y.conds else y.conds
          { y with
            state := .closing, holdTimer := none, strokeTimer := some y.strokeTime, staleExpiry := false
            count := if y.count = 255 then 255 else y.count - 1
            cycles := min (y.cycles + 1) 65535
            conds := if ¬ due y.cycles ∧ due (min (y.cycles + 1) 65535) then raise .proofDue counted
              else counted }).modPass x.pass debited,
          if moved then [x.pass] else [], if moved then s.chutesOf x.pass else [], false, []⟩))
      ∧ (x.state ≠ .holding ∨ x.holdTimer = none → exec (.holdTimerExpiry c) s = .next s)
      ∧ (x.staleExpiry = true → exec (.strokeTimerExpiry c) s =
        .next (s.modChute c fun y => { y with staleExpiry := false }).endEvent)
      ∧ (x.staleExpiry = false → x.strokeTimer.isSome = true →
        (x.state = .opening → exec (.strokeTimerExpiry c) s = .next (s.modChute c fun y =>
            fault { y with state := .closing, holdTimer := none, strokeTimer := some y.strokeTime }).endEvent)
        ∧ (x.state = .closing → exec (.strokeTimerExpiry c) s = .next (s.modChute c fun y =>
            fault { y with strokeTimer := none }).endEvent)
        ∧ (x.state = .reclosing → exec (.strokeTimerExpiry c) s = .next (s.modChute c fun y =>
            fault { y with
              strokeTimer := none
              pendingProof := if y.pendingProof = some .pass then some .fail
                else y.pendingProof }).endEvent))
      ∧ (x.staleExpiry = false → x.strokeTimer = none → exec (.strokeTimerExpiry c) s = .next s)
      ∧ (x.state = .nudging → x.nudgeTimer.isSome = true → s.level (.closedLimit c) = true →
        exec (.nudgeTimerExpiry c) s = .next (Event.finish ⟨s.modChute c fun y => { y with
            state := .closed, strokeTimer := none, nudgeTimer := none, pendingProof := none
            lastProof := .fail, proofHold := true, conds := raise .proofDone y.conds },
          [], [c], false, s.coveringChute c⟩))
      ∧ (x.state ≠ .nudging ∨ x.nudgeTimer = none ∨ s.level (.closedLimit c) = false →
        exec (.nudgeTimerExpiry c) s = .next s)

/-- PROVE CHUTE makes its checks in order and starts the nudge; ACCEPT PROOF of a chute clears proof hold, sets
cycles since proof to 0 after a PASS and lets the chute try, changes nothing without proof hold, and is refused BUSY
in NUDGING and RECLOSING; ACCEPT PROOF of any type but 2 and 6 is refused OUT_OF_RANGE whatever its index, the
model's choice (log 32). The answers number states as the records list them, its choice too, and proof hold as 00h
for no (R145, R146, R153, R179; logs 13, 33). -/
def Obligations.ChuteProofsStartAndAreAccepted : Prop :=
  ∀ (rq : Request) (c : ChuteIdx) (type index : Nat) (s : State),
    let x := s.chute c
    let still := x.state = .closed ∧ s.level (.closedLimit c) = true ∧ x.proofHold = false
    let passOpen := (s.pass x.pass).state = .running ∨ (s.pass x.pass).state = .unknown
    (s.takes rq 1 = true →
        (x.defined = false → exec (.proveChute rq c) s = .next (s.answered rq .noRecord []))
        ∧ (x.defined = true → s.station.mode ≠ .run →
          exec (.proveChute rq c) s = .next (s.answered rq .wrongMode []))
        ∧ (x.defined = true → s.station.mode = .run → ¬ still →
          exec (.proveChute rq c) s = .next (s.answered rq .busy []))
        ∧ (x.defined = true → s.station.mode = .run → still → (∃ e, s.coversChute e c = true) →
          exec (.proveChute rq c) s = .next (s.answered rq .covered []))
        ∧ (x.defined = true → s.station.mode = .run → still → (∀ e, s.coversChute e c = false) →
          (¬ passOpen → exec (.proveChute rq c) s = .next (s.answered rq .wrongMode []))
          ∧ (passOpen → exec (.proveChute rq c) s = .next ((s.modChute c fun y => { y with
              state := .nudging, nudgeTimer := some y.nudgeTime, pendingProof := none }).endEvent.answered rq
                .accepted (bigEndian 1 4 ++ bigEndian 1 x.nudgeTime)))))
      ∧ (s.takes rq 2 = true →
        (x.defined = false → exec (.acceptProof rq 2 c) s = .next (s.answered rq .noRecord []))
        ∧ (x.defined = true → (x.state = .nudging ∨ x.state = .reclosing) →
          exec (.acceptProof rq 2 c) s = .next (s.answered rq .busy []))
        ∧ (x.defined = true → x.state ≠ .nudging → x.state ≠ .reclosing →
          (x.proofHold = false → exec (.acceptProof rq 2 c) s = .next (s.endEvent.answered rq .accepted
            (bigEndian 1 x.lastProof.code ++ bigEndian 1 0 ++ bigEndian 2 x.cycles)))
          ∧ (x.proofHold = true →
            let n := if x.lastProof = .pass then 0 else x.cycles
            exec (.acceptProof rq 2 c) s = .next ((Event.finish ⟨s.modChute c fun y =>
                { y with proofHold := false, cycles := n }, [], [c], false, []⟩).answered rq .accepted
              (bigEndian 1 x.lastProof.code ++ bigEndian 1 0 ++ bigEndian 2 n))))
        ∧ (type ≠ 2 → type ≠ 6 → exec (.acceptProof rq type index) s =
          .next (s.answered rq .outOfRange [])))

/-- The edges of a chute's lines, by its cycle state: the open limit ends an opening stroke; the closed limit closes
a cycle, finalises a proof, passes a nudge, and in CLOSED is a drift or a new try; a falling one is a breach at every
IN_FORCE entry covering the chute; a load call sets and clears call pending. A rising closed limit that stops the
stroke timer and lets the next cycle start notes an expiry of the timer that waits next in the queue, which then
makes no fault (R79 to R81, R85, R88, R92, R95, R132, R147 to R149; log 31). -/
def Obligations.ChuteEdgesActByTheCycleState : Prop :=
  ∀ (c : ChuteIdx) (i : LineIdx) (s : State), (s.chute c).defined = true →
    let x := s.chute c
    let s1 := s.debounced i
    let d := Instr.debounceExpiry i
    let seen (u : State) (tries : List ChuteIdx) : State :=
      Event.finish ⟨u, [], tries, false, s.coveringChute c⟩
    let breached := s1.mapEntries fun e y =>
      if s.coversChute e c = true ∧ y.state = .inForce then { y with
        breaches := min (y.breaches + 1) 255
        firstBreach := if y.firstBreach.isSome then y.firstBreach else some ⟨.gateMoved, c⟩
        conds := raise .breach y.conds }
      else y
    let old (u : State) : Bool := x.strokeTimer.isSome && s.waitsNext (.strokeTimerExpiry c)
      && decide (((u.startTry c).chute c).state = .opening)
    let noted (u : State) : State := u.modChute c fun y => { y with staleExpiry := old u }
    (s.edgeDue i (.openLimit c) true = true → exec d s = .next (State.endEvent
        (if x.state = .opening then s1.modChute c fun y => { y with
            state := .holding, strokeTimer := none, reachedOpen := true, holdTimer := some y.holdTime
            staleExpiry := false }
          else s1)))
      ∧ (s.edgeDue i (.openLimit c) false = true → exec d s = .next s1.endEvent)
      ∧ (s.edgeDue i (.closedLimit c) true = true →
        (x.state = .closed → exec d s = .next (seen s1 [c]))
        ∧ (x.state = .closing → exec d s = .next (seen (noted (s1.modChute c fun y =>
            { y with state := .closed, strokeTimer := none, reachedOpen := false })) [c]))
        ∧ (∀ result : NudgeResult, x.state = .reclosing → x.pendingProof = some result →
          exec d s = .next (seen (noted (s1.modChute c fun y => { y with
            state := .closed, strokeTimer := none, nudgeTimer := none, pendingProof := none
            lastProof := match result with
              | .pass => .pass
              | .fail => .fail
              | .aborted => .aborted
            proofHold := y.proofHold || decide (result ≠ .aborted)
            conds := raise .proofDone y.conds })) [c]))
        ∧ (x.state = .opening ∨ x.state = .holding ∨ x.state = .nudging → exec d s = .next s1.endEvent))
      ∧ (s.edgeDue i (.closedLimit c) false = true →
        (x.state = .closed → exec d s = .next (seen (breached.modChute c fun y =>
            { y with conds := raise .drift y.conds }) []))
        ∧ (x.state = .nudging → exec d s = .next (breached.modChute c fun y => { y with
            state := .reclosing, nudgeTimer := none, pendingProof := some .pass
            strokeTimer := some y.strokeTime }).endEvent)
        ∧ (x.state = .opening ∨ x.state = .holding ∨ x.state = .closing ∨ x.state = .reclosing →
          exec d s = .next breached.endEvent))
      ∧ (s.edgeDue i (.loadCall c) true = true →
        (x.callPending = true → exec d s = .next s1.endEvent)
        ∧ (x.callPending = false → exec d s = .next (Event.finish ⟨s1.modChute c fun y => { y with
            callPending := true, emptyReported := false, cushionReported := false }, [], [c], false, []⟩)))
      ∧ (s.edgeDue i (.loadCall c) false = true → exec d s = .next (State.endEvent
        (if x.callPending then s1.modChute c fun y => { y with
            callPending := false, emptyReported := false, cushionReported := false }
          else s1)))

/-- The aborts of one event: an OPENING gate closes with no debit, and an expiry of the stroke timer it restarts that
waits next in the queue makes no fault (log 31); a HOLDING gate closes and takes its debit, once, with ORDER_DONE at a
count of 1 and PROOF_DUE where it becomes proof due; a NUDGING gate is finalised as ABORTED with its limit high and
recloses otherwise, or where its limit's fall waits next in the queue, with nothing but expiries before it, which is
the model's reading of a fall that comes together with the abort (log 28); a gate in any other state is left alone.
The pass is debited by the volumes of the gates that were HOLDING and by nothing else, in E, in D while RUNNING, and
with FLOOR where they exceed E. The arbiter of exactly the passes so debited is triggered, each chute of a pass whose
E a debit changes tries, as does a finalised one, and every entry covering an aborted gate makes its settling test
(R18, R26, R83, R87, R89, R93, R94, R128, R150). -/
def Obligations.AbortsCloseGatesAndDebitOnce : Prop :=
  ∀ (s : State) (which : BitVec 8) (w : Instr),
    let u := (Event.of s).abortWhere fun c => which.getLsbD c
    let drawn (p : PassIdx) : Nat := ((List.finRange 8).map fun c : ChuteIdx =>
      if which.getLsbD c ∧ (s.chute c).state = .holding ∧ (s.chute c).pass = p then (s.chute c).volume
      else 0).sum
    let taken (p : PassIdx) : Prop := (s.pass p).defined = true ∧ (s.pass p).known = true
      ∧ ∃ c : ChuteIdx, which.getLsbD c = true ∧ (s.chute c).state = .holding ∧ (s.chute c).pass = p
    let falling (c : ChuteIdx) : Bool := (s.lineOf (.closedLimit c)).any fun i =>
      !(s.line i).raw && (s.line i).timer.isSome && s.waitsNext (.debounceExpiry i)
    let due (x : Chute) (n : Nat) : Prop := x.interval ≠ 0 ∧ x.interval ≤ n
    u.st = { s with passes := u.st.passes, chutes := u.st.chutes }
      ∧ (∀ c : ChuteIdx, (which.getLsbD c = false ∨ (s.chute c).state = .closed ∨ (s.chute c).state = .closing
          ∨ (s.chute c).state = .reclosing) → u.st.chute c = s.chute c)
      ∧ (∀ c : ChuteIdx, which.getLsbD c = true → (s.chute c).state = .opening → u.st.chute c = { s.chute c with
          state := .closing, holdTimer := none, strokeTimer := some (s.chute c).strokeTime
          staleExpiry := (s.chute c).strokeTimer.isSome && s.waitsNext (.strokeTimerExpiry c) })
      ∧ s.waitsNext w = decide (w ∈ s.pending.takeWhile isExpiry)
      ∧ isExpiry w = (match w with
          | .debounceExpiry _ => true
          | .grantTimerExpiry _ => true
          | .holdTimerExpiry _ => true
          | .strokeTimerExpiry _ => true
          | .nudgeTimerExpiry _ => true
          | .stalenessExpiry _ => true
          | .windowTimerExpiry _ => true
          | .settleMarkExpiry _ => true
          | .settleTimerExpiry _ => true
          | .travelTimerExpiry => true
          | .breakTimerExpiry => true
          | .returnTimerExpiry => true
          | _ => false)
      ∧ (∀ c : ChuteIdx, which.getLsbD c = true → (s.chute c).state = .holding → u.st.chute c = { s.chute c with
          state := .closing, holdTimer := none, strokeTimer := some (s.chute c).strokeTime, staleExpiry := false
          count := if (s.chute c).count = 255 then 255 else (s.chute c).count - 1
          cycles := min ((s.chute c).cycles + 1) 65535
          conds :=
            let counted := if (s.chute c).count = 1 then raise .orderDone (s.chute c).conds else (s.chute c).conds
            if ¬ due (s.chute c) (s.chute c).cycles ∧ due (s.chute c) (min ((s.chute c).cycles + 1) 65535) then
              raise .proofDue counted
            else counted })
      ∧ (∀ c : ChuteIdx, which.getLsbD c = true → (s.chute c).state = .nudging →
        (s.level (.closedLimit c) = true → falling c = false → u.st.chute c = { s.chute c with
          state := .closed, strokeTimer := none, nudgeTimer := none, pendingProof := none
          lastProof := .aborted, conds := raise .proofDone (s.chute c).conds })
        ∧ (s.level (.closedLimit c) = false ∨ falling c = true → u.st.chute c = { s.chute c with
          state := .reclosing, nudgeTimer := none, pendingProof := some .aborted
          strokeTimer := some (s.chute c).strokeTime }))
      ∧ (∀ p, u.st.pass p = { s.pass p with
          e := if taken p then (s.pass p).e - drawn p else (s.pass p).e
          d := if taken p ∧ (s.pass p).state = .running then min ((s.pass p).d + drawn p) 16777215
            else (s.pass p).d
          conds := if taken p ∧ (s.pass p).e < drawn p then raise .floor (s.pass p).conds
            else (s.pass p).conds })
      ∧ (∀ p, (s.pass p).state ≠ .running → (u.st.pass p).d = (s.pass p).d)
      ∧ (∀ p, (s.pass p).state = .running → (s.pass p).defined = true → (s.pass p).known = true →
        (s.pass p).d ≤ 16777215 → (u.st.pass p).d = min ((s.pass p).d + drawn p) 16777215)
      ∧ (∀ p, p ∈ u.arb ↔ ∃ c : ChuteIdx, which.getLsbD c = true ∧ (s.chute c).state = .holding
          ∧ (s.chute c).pass = p)
      ∧ (∀ c, c ∈ u.tries ↔ (which.getLsbD c = true ∧ (s.chute c).state = .nudging
            ∧ s.level (.closedLimit c) = true ∧ falling c = false)
          ∨ ((s.chute c).defined = true ∧ (u.st.pass (s.chute c).pass).e ≠ (s.pass (s.chute c).pass).e))
      ∧ (∀ e, e ∈ u.touched ↔ ∃ c : ChuteIdx, which.getLsbD c = true ∧ s.coversChute e c = true
          ∧ ((s.chute c).state = .opening ∨ (s.chute c).state = .holding ∨ (s.chute c).state = .nudging))
      ∧ u.choice = false

/-! ## The rock breaker -/

/-- The choice takes, of the startable jobs, the highest level, then the highest group of the station, then the
lowest station index, and finds nothing exactly where no listed job is startable; a PARKED breaker starts the job
found, and a breaker in any other state makes no choice (R107, R109, R110, R112). -/
def Obligations.TheChoiceTakesTheHighestStartableJob : Prop :=
  ∀ (s : State) (j : Job),
    (s.startable j = true ↔ s.station.mode = .run ∧ s.breaker.floor < j.level
        ∧ (∀ e, s.carriesBreaker e = false) ∧ ∀ e, s.coversStation e j.station = false)
      ∧ (s.pickJob = none ↔ ∀ x ∈ s.breaker.jobs, s.startable x = false)
      ∧ (s.pickJob = some j → j ∈ s.breaker.jobs ∧ s.startable j = true
        ∧ ∀ x ∈ s.breaker.jobs, s.startable x = true → x.level < j.level ∨ (x.level = j.level
          ∧ ((s.bst x.station).group < (s.bst j.station).group
            ∨ ((s.bst x.station).group = (s.bst j.station).group ∧ j.station ≤ x.station))))
      ∧ (s.breaker.state = .parked → s.pickJob = some j → s.chooseJob = s.modBreaker fun b => { b with
          state := .travelling, current := some j, jobs := b.jobs.erase j, lastCode := j.station
          travelTimer := some b.travelLimit, breakTimer := none })
      ∧ (s.breaker.state ≠ .parked ∨ s.pickJob = none → s.chooseJob = s)

/-- A job arrives from BREAK, which clears retry-held first, or from a rising oversize edge that nothing
suppresses: ignored for the current job's station, merged into a listed job at the higher level, or listed at the
tail with the arrival counter's number; FLOOR sets the floor; each triggers the choice where it may. A falling
oversize edge clears retry-held and ends the blocking of a grizzly with no job (R68 to R70, R105 to R107). -/
def Obligations.JobsArriveMergeAndWait : Prop :=
  ∀ (rq : Request) (k : StationIdx) (t : TipIdx) (i : LineIdx) (level : Nat) (s : State),
    let current := s.breaker.current.any fun j => decide (j.station = k)
    let listed := s.breaker.jobs.any fun j => decide (j.station = k)
    let arrived (l : Nat) (origin : Origin) (u : State) : State :=
      if current then u.endEvent
      else Event.finish ⟨u.modBreaker fun b =>
        if listed then
          { b with jobs := b.jobs.map fun j => if j.station = k then { j with level := max j.level l } else j }
        else { b with
          jobs := b.jobs ++ [⟨k, l, origin, b.counter⟩]
          counter := if b.counter < 65535 then b.counter + 1 else 0 }, [], [], true, []⟩
    (s.takes rq 2 = true →
        ((s.bst k).defined = true → level ≠ 0 → exec (.breakJob rq k level) s = .next
          ((arrived (min level 7) .link (s.modBst k fun x => { x with retryHeld := false })).answered rq
            .accepted (bigEndian 1 (min level 7)
              ++ bigEndian 1 (if current then 2 else if listed then 1 else 0))))
        ∧ ((s.bst k).defined = true → exec (.breakJob rq k 0) s = .next (s.answered rq .outOfRange []))
        ∧ ((s.bst k).defined = false →
          exec (.breakJob rq k level) s = .next (s.answered rq .noRecord [])))
      ∧ (s.takes rq 1 = true → exec (.floor rq level) s = .next ((Event.finish
          ⟨s.modBreaker fun b => { b with floor := min level 7 }, [], [], true, []⟩).answered rq .accepted
            (bigEndian 1 (min level 7))))
      ∧ (s.edgeDue i (.oversize t) true = true → (s.tip t).defined = true → (s.tip t).grizzly = some k →
        exec (.debounceExpiry i) s = .next
          (if (s.bst k).defined = true ∧ (s.bst k).retryHeld = false ∧ (s.tip t).level ≠ 0 then
              arrived (s.tip t).level .oversize (s.debounced i)
            else (s.debounced i).endEvent))
      ∧ (s.edgeDue i (.oversize t) false = true → (s.tip t).defined = true → (s.tip t).grizzly = some k →
        exec (.debounceExpiry i) s = .next (Event.finish ⟨(s.debounced i).modBst k fun x =>
            { x with retryHeld := x.retryHeld && !x.defined },
          if (s.debounced i).blocked t then [] else [(s.tip t).pass], [], false, []⟩))

/-- The handshake: in position ends the travel and starts the break; grizzly clear finishes the job, whose station
is listed again where its oversize line is high, after the choice that chains to another job or sends the breaker
home; parked brings it home to a new choice; a falling parked edge is a breach at every IN_FORCE entry with the
breaker bit; every other edge is ignored. An idle scanner takes the change of list (R35, R108, R113, R114, R117,
R132). -/
def Obligations.BreakerEdgesFollowTheHandshake : Prop :=
  ∀ (i : LineIdx) (j : Job) (s : State),
    let s1 := s.debounced i
    let d := Instr.debounceExpiry i
    let b := s.breaker
    let moved (x : Breaker) : State := { s1 with breaker := x }
    let switched (u : State) : State := if u.scanner.converting then u else u.chooseConversion
    let seen (u : State) (arb : List PassIdx) (choice : Bool) : State :=
      Event.finish ⟨u, arb, [], choice, List.finRange 24⟩
    (s.edgeDue i .inPosition true = true → exec d s = .next
        (if b.state = .travelling then seen (switched (moved { b with
            state := .breaking, travelTimer := none, breakTimer := some b.breakLimit })) [] false
          else s1.endEvent))
      ∧ (s.edgeDue i .grizzlyClear true = true → b.state = .breaking → b.current = some j →
        let free := { b with breakTimer := none, current := none }
        let high := s1.level (.oversize (s.bst j.station).tip)
        let relisted := if high then { free with
            jobs := b.jobs ++ [⟨j.station, j.level, .oversize, b.counter⟩]
            counter := if b.counter < 65535 then b.counter + 1 else 0 } else free
        let next := match s1.pickJob with
          | some n => { relisted with
              state := .travelling, current := some n, jobs := relisted.jobs.erase n
              lastCode := n.station, travelTimer := some b.travelLimit }
          | none => { relisted with
              state := .returning, travelTimer := none, returnTimer := some b.travelLimit }
        exec d s = .next (seen (switched (moved next))
          (if high then [] else (moved free).endReport j.station) false))
      ∧ (s.edgeDue i .grizzlyClear true = true → b.state ≠ .breaking → exec d s = .next s1.endEvent)
      ∧ (s.edgeDue i .parked true = true → exec d s = .next
        (if b.state = .returning then seen (moved { b with
            state := .parked, returnTimer := none, returnOverdue := false }) [] true
          else s1.endEvent))
      ∧ (s.edgeDue i .parked false = true → exec d s = .next (s1.mapEntries fun e y =>
          if s.carriesBreaker e = true ∧ y.state = .inForce then { y with
            breaches := min (y.breaches + 1) 255
            firstBreach := if y.firstBreach.isSome then y.firstBreach else some ⟨.breakerMoved, 0⟩
            conds := raise .breach y.conds }
          else y).endEvent)
      ∧ (s.edgeDue i .inPosition false = true ∨ s.edgeDue i .grizzlyClear false = true →
        exec d s = .next s1.endEvent)

/-- The travel timer's expiry abandons the job with TRAVEL_TIMEOUT and sends the breaker home with no choice; the
break timer's raises UNFINISHED with retry-held, ends the job and makes the choice; the return timer's raises
RETURN_OVERDUE and leaves the breaker RETURNING. Each ended job is reported to the tip points (R108, R115 to
R117; log 6). -/
def Obligations.BreakerTimersAbandonTheirJob : Prop :=
  ∀ (j : Job) (s : State), s.inReset = false →
    let b := s.breaker
    let home (x : Breaker) : Breaker := { x with
      state := .returning, current := none, travelTimer := none, breakTimer := none
      returnTimer := some b.travelLimit }
    (b.state = .travelling → b.travelTimer.isSome = true → b.current = some j →
        let u := (s.modBst j.station fun x => { x with conds := raise .travelTimeout x.conds }).modBreaker home
        exec .travelTimerExpiry s = .next (Event.finish
          ⟨u, u.endReport j.station, [], false, List.finRange 24⟩))
      ∧ (b.state = .breaking → b.breakTimer.isSome = true → b.current = some j →
        let u := (s.modBst j.station fun x =>
          { x with retryHeld := true, conds := raise .unfinished x.conds }).modBreaker fun x =>
            { x with breakTimer := none, current := none }
        let v := match u.pickJob with
          | some n => u.modBreaker fun x => { x with
              state := .travelling, current := some n, jobs := x.jobs.erase n, lastCode := n.station
              travelTimer := some b.travelLimit }
          | none => u.modBreaker home
        exec .breakTimerExpiry s = .next (Event.finish
          ⟨if v.scanner.converting then v else v.chooseConversion, u.endReport j.station, [], false,
            List.finRange 24⟩))
      ∧ (b.state = .returning → b.returnTimer.isSome = true → exec .returnTimerExpiry s = .next
          (s.modBreaker fun x => { x with
            returnTimer := none, returnOverdue := true, conds := raise .returnOverdue x.conds }).endEvent)
      ∧ (b.state ≠ .travelling ∨ b.travelTimer = none → exec .travelTimerExpiry s = .next s)
      ∧ (b.state ≠ .breaking ∨ b.breakTimer = none → exec .breakTimerExpiry s = .next s)
      ∧ (b.state ≠ .returning ∨ b.returnTimer = none → exec .returnTimerExpiry s = .next s)

/-- DEFINE BREAKER STATION, accepted, stores tip point and group and triggers the choice; DEFINE BREAKER binds
and releases the six lines; DEFINE STATION the estop line. Each is refused by its mode, then by the checks of R100,
R102 and R157 in their order (R100 to R102, R126, R157). -/
def Obligations.DefineBreakerAndStationStoreAndBind : Prop :=
  ∀ (rq : Request) (k : StationIdx) (t : TipIdx) (n group : Nat)
    (go code0 code1 inPosition grizzlyClear parked estop : Option LineIdx)
    (go' code0' code1' inPosition' grizzlyClear' parked' estop' : Option Nat) (s : State),
    let above (k : Nat) (o : Option Nat) : Bool := o.any fun i => decide (k < i)
    let raw1 := Instr.defineBreakerStation rq k n group
    let raw2 := Instr.defineBreaker rq go' code0' code1' inPosition' grizzlyClear' parked'
    let raw3 := Instr.defineStation rq estop'
    let c1 := Instr.defineBreakerStation rq k t group
    let c2 := Instr.defineBreaker rq (go.map Fin.val) (code0.map Fin.val) (code1.map Fin.val)
      (inPosition.map Fin.val) (grizzlyClear.map Fin.val) (parked.map Fin.val)
    let c3 := Instr.defineStation rq (estop.map Fin.val)
    let roles : Roles := [(.go, go), (.code0, code0), (.code1, code1), (.inPosition, inPosition),
      (.grizzlyClear, grizzlyClear), (.parked, parked)]
    let allowed := s.station.mode = .setup ∨ (s.station.mode = .run
      ∧ ∃ e, s.carriesBreaker e = true ∧ (s.entry e).state = .inForce)
    let listed := ∃ j ∈ s.breaker.jobs, j.station = k
    let twice := ∃ o, o ≠ k ∧ (s.bst o).defined = true ∧ (s.bst o).tip = t
    (s.takes rq 3 = true →
        (¬ allowed → exec raw1 s = .next (s.answered rq .wrongMode []))
        ∧ (allowed → listed → exec raw1 s = .next (s.answered rq .busy []))
        ∧ (allowed → ¬ listed → (15 < n ∨ 3 < group) → exec raw1 s = .next (s.answered rq .outOfRange []))
        ∧ (allowed → ¬ listed → group ≤ 3 →
          ((s.tip t).defined = false → exec c1 s = .next (s.answered rq .noRecord []))
          ∧ ((s.tip t).defined = true → twice → exec c1 s = .next (s.answered rq .duplicate []))
          ∧ ((s.tip t).defined = true → ¬ twice →
            (s.station.mode = .run → (s.tip t).grizzly ≠ some k → exec c1 s = .next (s.answered rq .geometry []))
            ∧ ((s.station.mode = .run → (s.tip t).grizzly = some k) →
              exec c1 s = .next ((Event.finish ⟨s.modBst k fun x =>
                  if x.defined then { x with tip := t, group := group } else ⟨true, t, group, false, 0⟩,
                [], [], true, List.finRange 24⟩).answered rq .accepted [])))))
      ∧ (s.takes rq 6 = true →
        (¬ allowed → exec raw2 s = .next (s.answered rq .wrongMode []))
        ∧ (allowed → (above 39 go' = true ∨ above 39 code0' = true ∨ above 39 code1' = true
            ∨ above 47 inPosition' = true ∨ above 47 grizzlyClear' = true ∨ above 47 parked' = true) →
          exec raw2 s = .next (s.answered rq .outOfRange []))
        ∧ (allowed → (∀ i, go = some i ∨ code0 = some i ∨ code1 = some i → i.val < 40) →
          (s.station.mode = .run → (∃ r ∈ roles, r.2 = none) → exec c2 s = .next (s.answered rq .geometry []))
          ∧ ((s.station.mode = .run → ∀ r ∈ roles, r.2.isSome = true) →
            (s.lineConflict roles = true → exec c2 s = .next (s.answered rq .lineConflict []))
            ∧ (s.lineConflict roles = false →
              exec c2 s = .next ((s.bindLines roles).endEvent.answered rq .accepted [])))))
      ∧ (s.takes rq 1 = true →
        (s.station.mode ≠ .setup → exec raw3 s = .next (s.answered rq .wrongMode []))
        ∧ (s.station.mode = .setup → estop'.any (fun i => decide (i < 40 ∨ 47 < i)) = true →
          exec raw3 s = .next (s.answered rq .outOfRange []))
        ∧ (s.station.mode = .setup → (∀ i, estop = some i → 40 ≤ i.val) →
          (s.lineConflict [(.estop, estop)] = true → exec c3 s = .next (s.answered rq .lineConflict []))
          ∧ (s.lineConflict [(.estop, estop)] = false →
            exec c3 s = .next ((s.bindLines [(.estop, estop)]).endEvent.answered rq .accepted []))))

/-! ## Clearances -/

/-- POST CLEARANCE is refused by the checks of R127 in their order; accepted, it takes the free entry of lowest index
with the fields its kind reads, revokes every covered grant, aborts every covered cycle and nudge and the breaker's
work it reaches, whose job is listed again at the head, and makes the new entry's settling test; it answers the index
and the state, numbered as in READ (log 13). At its end no covered plant moves and the entry is IN_FORCE exactly where
it is settled (R119, R123, R127, R128; fields not read: log 16; which nudges reclose: log 28). -/
def Obligations.PostClearanceStillsTheCoveredPlant : Prop :=
  ∀ (rq : Request) (kind : ClearanceKind) (m n : Nat) (p : PassIdx) (low high : Nat) (tips : BitVec 16)
    (chutes : BitVec 8) (breaker : Bool) (tag : Nat) (e : EntryIdx) (s : State),
    s.takes rq 12 = true →
    let code := match kind with
      | .entry => 0
      | .service => 1
      | .equipment => 2
    let post (k i : Nat) := Instr.postClearance rq k i low high tips chutes breaker tag
    let bad := 2 < m ∨ tag = 0 ∨ 65534 < tag ∨ (m ≠ 2 ∧ 5 < n) ∨ (m = 0 ∧ high < low)
    let free := ∃ o, (s.entry o).inUse = false
    (¬ free → exec (post m n) s = .next (s.answered rq .tableFull []))
      ∧ (free → bad → exec (post m n) s = .next (s.answered rq .outOfRange []))
      ∧ (free → m < 2 → 1 ≤ tag → tag ≤ 65534 → (m = 0 → low ≤ high) →
        ((s.pass p).defined = false → exec (post m p) s = .next (s.answered rq .noRecord []))
        ∧ ((s.pass p).defined = true → m = 0 → (s.pass p).height < high →
          exec (post m p) s = .next (s.answered rq .outOfRange [])))
      ∧ ((s.entry e).inUse = false → (∀ o, o < e → (s.entry o).inUse = true) →
        1 ≤ tag → tag ≤ 65534 → (kind ≠ .equipment → n = p ∧ (s.pass p).defined = true) →
        (kind = .entry → low ≤ high ∧ high ≤ (s.pass p).height) →
        let s1 := s.modEntry e fun _ => {
          inUse := true, kind := kind, pass := if kind = .equipment then none else some p
          low := if kind = .entry then low else 0, high := if kind = .entry then high else 0
          maskTips := tips, maskChutes := chutes, maskBreaker := breaker, holders := [tag], state := .pending
          timer := some s.station.settleTime, breaches := 0, firstBreach := none, conds := 0 }
        let ev := ((Event.of s1).revokeWhere fun t =>
          s1.coversTip e t && decide ((s.tip t).state = .granted)).abortWhere (s1.coversChute e)
        let b := s.breaker
        let reached := (b.state = .travelling ∨ b.state = .breaking)
          ∧ (breaker = true ∨ ∃ k, s1.coversStation e k = true ∧ b.current.map Job.station = some k)
        let u := if reached then ev.st.modBreaker fun x => { x with
            state := .returning, current := none, jobs := x.current.toList ++ x.jobs, travelTimer := none
            breakTimer := none, returnTimer := some x.travelLimit }
          else ev.st
        let v := if reached ∧ b.state = .breaking ∧ u.scanner.converting = false then u.chooseConversion else u
        let t := Event.finish ⟨v, ev.arb, ev.tries, false,
          if reached then List.finRange 24 else e :: ev.touched⟩
        exec (.postClearance rq code n low high tips chutes breaker tag) s =
            .next (t.answered rq .accepted (bigEndian 1 e.val ++ bigEndian 1 (if t.settled e then 2 else 0)))
          ∧ (∀ x, t.coversTip e x = true → (t.tip x).state ≠ .granted)
          ∧ (∀ c, t.coversChute e c = true → (t.chute c).state ≠ .opening ∧ (t.chute c).state ≠ .holding
              ∧ (t.chute c).state ≠ .nudging)
          ∧ (∀ k, t.coversStation e k = true → t.breakerAt k = false)
          ∧ (breaker = true → t.breaker.state ≠ .travelling ∧ t.breaker.state ≠ .breaking)
          ∧ (t.entry e).state = (if t.settled e then .inForce else .pending))

/-- JOIN appends a holder and LEAVE removes one, each making the entry's settling test; the last holder's LEAVE,
and CANCEL of an entry not yet IN_FORCE, retire it; the refusals stand in their order (R134 to R137). The
answers to both carry the tags alone, two bytes each (the model's choice, log 12), JOIN's then the state,
numbered as in READ (logs 13, 30). -/
def Obligations.HoldersJoinLeaveAndCancel : Prop :=
  ∀ (rq : Request) (e : EntryIdx) (tag : Nat) (s : State),
    let x := s.entry e
    let held (h : List Nat) : State := Event.finish
      ⟨s.modEntry e fun y => { y with holders := h }, [], [], false, [e]⟩
    let bytes (h : List Nat) : List Byte := h.flatMap fun n => [BitVec.ofNat 8 (n / 256), BitVec.ofNat 8 n]
    let u := held (x.holders ++ [tag])
    let shown : Byte := match (u.entry e).state with
      | .pending => 0
      | .late => 1
      | .inForce => 2
    (s.takes rq 3 = true →
        (x.inUse = false → exec (.join rq e tag) s = .next (s.answered rq .noRecord [])
            ∧ exec (.leave rq e tag) s = .next (s.answered rq .noRecord []))
        ∧ (x.inUse = true → tag = 0 ∨ 65534 < tag → exec (.join rq e tag) s =
            .next (s.answered rq .outOfRange [])
            ∧ exec (.leave rq e tag) s = .next (s.answered rq .outOfRange []))
        ∧ (x.inUse = true → 1 ≤ tag → tag ≤ 65534 →
          (tag ∈ x.holders → exec (.join rq e tag) s = .next (s.answered rq .duplicate []))
          ∧ (tag ∉ x.holders → 4 ≤ x.holders.length →
            exec (.join rq e tag) s = .next (s.answered rq .tableFull []))
          ∧ (tag ∉ x.holders → x.holders.length < 4 → exec (.join rq e tag) s = .next
            (u.answered rq .accepted (bytes (x.holders ++ [tag]) ++ [shown])))
          ∧ (tag ∉ x.holders → exec (.leave rq e tag) s = .next (s.answered rq .notHolder []))
          ∧ (tag ∈ x.holders → x.holders ≠ [tag] → exec (.leave rq e tag) s = .next
            ((held (x.holders.erase tag)).answered rq .accepted (bytes (x.holders.erase tag))))
          ∧ (x.holders = [tag] → exec (.leave rq e tag) s = .next
            (((Event.of s).retire e).finish.answered rq .accepted []))))
      ∧ (s.takes rq 1 = true →
        (x.inUse = false → exec (.cancel rq e) s = .next (s.answered rq .noRecord []))
        ∧ (x.inUse = true → x.state = .inForce → exec (.cancel rq e) s = .next (s.answered rq .inForce []))
        ∧ (x.inUse = true → x.state ≠ .inForce → exec (.cancel rq e) s = .next
          (((Event.of s).retire e).finish.answered rq .accepted [])))

/-- Retirement frees the entry with every field cleared, gives its pass back if it was the last IN_FORCE SERVICE
entry on it, and triggers the arbiters, the start tries and the choice of exactly the plant that it alone covered
(R22, R26, R123, R138, R139, R141). -/
def Obligations.RetirementFreesAndTriggers : Prop :=
  ∀ (s : State) (e : EntryIdx), (s.entry e).inUse = true →
    let x := s.entry e
    let u := (Event.of s).retire e
    let ended (p : PassIdx) : Bool := decide (x.kind = .service ∧ x.pass = some p ∧ x.state = .inForce)
      && (List.finRange 24).all fun o => decide (o = e) || !((s.entry o).inUse
        && decide ((s.entry o).kind = .service ∧ (s.entry o).pass = some p ∧ (s.entry o).state = .inForce))
    let back (p : PassIdx) : Bool := ended p && !(s.pass p).amended && (s.pass p).known
    u.st = { s with entries := u.st.entries, passes := u.st.passes }
      ∧ u.st.entry e = ⟨false, .entry, none, 0, 0, 0, 0, false, [], .pending, none, 0, none, 0⟩
      ∧ (∀ o, o ≠ e → u.st.entry o = s.entry o)
      ∧ (∀ p, u.st.pass p =
          if ended p then
            if (s.pass p).amended then { s.pass p with
              state := .unknown, known := false, d := 0, amended := false }
            else if (s.pass p).known then { s.pass p with
              state := .running, r := (s.pass p).e, d := 0, amended := false }
            else { s.pass p with state := .unknown, amended := false }
          else s.pass p)
      ∧ (∀ p, p ∈ u.arb ↔ back p = true ∨ ∃ t, s.coversTip e t = true
          ∧ (∀ o, o ≠ e → s.coversTip o t = false) ∧ (s.tip t).pass = p)
      ∧ (∀ c, c ∈ u.tries ↔ (∃ p, back p = true ∧ c ∈ s.chutesOf p)
          ∨ (s.coversChute e c = true ∧ ∀ o, o ≠ e → s.coversChute o c = false))
      ∧ (u.choice = true ↔ s.carriesBreaker e = true ∨ ∃ k, s.coversStation e k = true)
      ∧ u.touched = []

/-- An entry in use covers a tip point, a chute, a breaker station or the breaker by its extent or its mask, as
R125 says; it is settled when every chute it covers is CLOSED on its closed limit, no tip point it covers is
GRANTED, the breaker is PARKED where it carries the breaker bit and not at a station it covers; each touched
entry that waits and is settled becomes IN_FORCE, independently, and a first SERVICE entry takes its pass out of
service. The settle timer's expiry makes a PENDING entry LATE (R125, R129 to R131, R139; at a stopped timer
nothing happens, log 6; undefined plant is covered by none, log 19). -/
def Obligations.SettlingTestsMakeEntriesInForce : Prop :=
  ∀ (ev : Event) (e : EntryIdx) (t : TipIdx) (c : ChuteIdx) (k : StationIdx),
    let s := ev.st
    let u := ev.settleTests
    let settles (o : EntryIdx) : Bool := decide (o ∈ ev.touched) && (s.entry o).inUse
      && decide ((s.entry o).state ≠ .inForce) && s.settled o
    let started (p : PassIdx) : Bool := !s.serviceInForce p && (List.finRange 24).any fun o =>
      settles o && decide ((s.entry o).kind = .service ∧ (s.entry o).pass = some p)
    let x := s.entry e
    (s.coversTip e t = true ↔ x.inUse = true ∧ (s.tip t).defined = true ∧ (x.maskTips.getLsbD t = true
        ∨ (x.kind = .entry ∧ x.pass = some (s.tip t).pass ∧ x.low ≤ (s.tip t).elevation)
        ∨ (x.kind = .service ∧ x.pass = some (s.tip t).pass)))
      ∧ (s.coversChute e c = true ↔ x.inUse = true ∧ (s.chute c).defined = true ∧ (x.maskChutes.getLsbD c = true
        ∨ (x.kind = .entry ∧ x.pass = some (s.chute c).pass ∧ (s.chute c).elevation ≤ x.high)
        ∨ (x.kind = .service ∧ x.pass = some (s.chute c).pass)))
      ∧ (s.coversStation e k = true ↔ (s.bst k).defined = true ∧ s.coversTip e (s.bst k).tip = true)
      ∧ (s.carriesBreaker e = true ↔ x.inUse = true ∧ x.maskBreaker = true)
      ∧ (s.breakerAt k = true ↔ (s.breaker.state = .travelling ∨ s.breaker.state = .breaking)
        ∧ s.breaker.current.map Job.station = some k)
      ∧ (s.settled e = true ↔
        (∀ c, s.coversChute e c = true → (s.chute c).state = .closed ∧ s.level (.closedLimit c) = true)
          ∧ (∀ t, s.coversTip e t = true → (s.tip t).state ≠ .granted)
          ∧ (s.carriesBreaker e = true → s.breaker.state = .parked)
          ∧ ∀ k, s.coversStation e k = true → s.breakerAt k = false)
      ∧ ((∀ t, (s.tip t).state = .granted → (s.tip t).defined = true) →
        u = { ev with st := { s with entries := u.st.entries, passes := u.st.passes } }
          ∧ (∀ o, u.st.entry o = if settles o then { s.entry o with
                state := .inForce, timer := none, conds := raise .inForce (s.entry o).conds }
              else s.entry o)
          ∧ ∀ p, u.st.pass p = if started p then { s.pass p with state := .outOfService, d := 0 }
              else s.pass p)
      ∧ (s.inReset = false →
        ((s.entry e).inUse = true → (s.entry e).state = .pending → (s.entry e).timer.isSome = true →
          exec (.settleTimerExpiry e) s = .next (s.modEntry e fun x =>
            { x with state := .late, timer := none, conds := raise .late x.conds }).endEvent)
        ∧ ((s.entry e).inUse = false ∨ (s.entry e).state ≠ .pending ∨ (s.entry e).timer = none →
          exec (.settleTimerExpiry e) s = .next s))

/-! ## Station modes and halts -/

/-- START is refused outside SETUP, for the first record that fails the checks of R159, in the order of record type
and index, and for a stop; accepted, it enters RUN, sets each pass in service, and triggers every arbiter, every try
and the choice. RESUME is refused by the estop level alone and from HALTED enters RUN; SETUP from HALTED empties the
lists and the pending calls (R23, R159, R160, R163, R164). RESUME's answer sends the halt causes as bits 1, 2 and 4,
the model's reading (log 14), and every answer numbers the mode as the station record lists it, its choice (log
13). -/
def Obligations.StartResumeAndSetupChangeTheMode : Prop :=
  ∀ (rq : Request) (type index : Nat) (s : State), s.takes rq 0 = true →
    let mode (m : Mode) (causes : HaltCauses) : State := s.modStation fun x =>
      { x with mode := m, causes := causes }
    let entered (u : State) : State := Event.finish ⟨u, List.finRange 6, List.finRange 8, true, []⟩
    let causes (c : HaltCauses) : List Byte := bigEndian 1
      (c.estopLine.toNat + 2 * c.linkStop.toNat + 4 * c.broadcastStop.toNat)
    let clear : HaltCauses := ⟨false, false, false⟩
    let passBad (p : PassIdx) : Bool := (s.pass p).defined
      && decide (((s.pass p).profile.map Segment.height).sum ≠ (s.pass p).height)
    let tipBad (t : TipIdx) : Bool := (s.tip t).defined
      && (decide ((s.pass (s.tip t).pass).height < (s.tip t).elevation) || !s.bound (.call t)
        || !s.bound (.tipSensor t) || !s.bound (.lamp t)
        || ((s.tip t).grizzly.isSome && !s.bound (.oversize t)))
    let chuteBad (c : ChuteIdx) : Bool := (s.chute c).defined
      && (decide ((s.pass (s.chute c).pass).height < (s.chute c).elevation) || !s.bound (.openValve c)
        || !s.bound (.closeValve c) || !s.bound (.openLimit c) || !s.bound (.closedLimit c)
        || !s.bound (.loadCall c))
    let stationBad (k : StationIdx) : Bool := (s.bst k).defined
      && decide ((s.tip (s.bst k).tip).grizzly ≠ some k)
    let breakerBad := (∃ k, (s.bst k).defined = true)
      ∧ ∃ f ∈ [LineFn.go, .code0, .code1, .inPosition, .grizzlyClear, .parked], s.bound f = false
    (s.station.mode ≠ .setup → exec (.start rq) s = .next (s.answered rq .wrongMode []))
      ∧ (s.station.mode = .setup →
        (s.geometryFault = some (type, index) → exec (.start rq) s =
            .next (s.answered rq .geometry (bigEndian 1 type ++ bigEndian 1 index)))
        ∧ (s.geometryFault = none → (s.level .estop = true ∨ s.station.causes ≠ clear) →
          exec (.start rq) s = .next (s.answered rq .stopActive []))
        ∧ (s.geometryFault = none → s.level .estop = false → s.station.causes = clear →
          exec (.start rq) s = .next ((entered ((mode .run clear).mapPasses fun _ q =>
            if q.defined = true ∧ q.state ≠ .outOfService then
              if q.known then { q with
                state := .running, r := if q.state = .running then q.r else q.e, d := 0 }
              else { q with state := .unknown }
            else q)).answered rq .accepted (bigEndian 1 1))))
      ∧ ((∀ p, s.geometryFault = some (0, p.val) ↔ passBad p = true ∧ ∀ r, r < p → passBad r = false)
        ∧ ((∀ p, passBad p = false) →
          (∀ t, s.geometryFault = some (1, t.val) ↔ tipBad t = true ∧ ∀ r, r < t → tipBad r = false)
          ∧ ((∀ t, tipBad t = false) →
            (∀ c, s.geometryFault = some (2, c.val) ↔ chuteBad c = true ∧ ∀ r, r < c → chuteBad r = false)
            ∧ ((∀ c, chuteBad c = false) →
              (∀ k, s.geometryFault = some (3, k.val) ↔ stationBad k = true
                ∧ ∀ r, r < k → stationBad r = false)
              ∧ ((∀ k, stationBad k = false) →
                (s.geometryFault = some (4, 0) ↔ breakerBad)
                ∧ (¬ breakerBad → (s.geometryFault = some (7, 0) ↔ s.bound .estop = false)
                  ∧ (s.geometryFault = none ↔ s.bound .estop = true)))))))
      ∧ (s.level .estop = true → exec (.resume rq) s = .next (s.answered rq .stopActive []))
      ∧ (s.level .estop = false →
        (s.station.mode = .halted → exec (.resume rq) s = .next ((entered (mode .run clear)).answered rq
            .accepted (bigEndian 1 1 ++ causes clear)))
        ∧ (s.station.mode = .setup → exec (.resume rq) s = .next ((mode .setup clear).endEvent.answered rq
            .accepted (bigEndian 1 0 ++ causes clear)))
        ∧ (s.station.mode = .run → exec (.resume rq) s = .next (s.endEvent.answered rq
            .accepted (bigEndian 1 1 ++ causes s.station.causes))))
      ∧ (s.station.mode ≠ .halted → exec (.setup rq) s = .next (s.answered rq .wrongMode []))
      ∧ (s.station.mode = .halted → exec (.setup rq) s = .next (((((mode .setup s.station.causes).mapPasses
          fun _ q => { q with waiting := [] }).mapTips fun _ x =>
            { x with state := if x.state = .waiting then .idle else x.state }).mapChutes fun _ x =>
              { x with callPending := false, emptyReported := false,
                       cushionReported := false }).endEvent.answered rq .accepted (bigEndian 1 0)))

/-- A halt, called by STOP, by the broadcast STOP or by a rising estop edge: in RUN the mode is HALTED with the cause
and HALTED raised, then every grant is revoked, every cycle and nudge aborted, and the breaker sent home with no job
left, its ended jobs reported; gates, lists, room and estimates stand as the revocations and the aborts leave them, no
gate is OPENING, HOLDING or NUDGING, and calls, counts and holds are kept; in HALTED only the cause is added; in SETUP
nothing changes and STOP is refused (R35, R67, R93, R108, R120, R150, R161, R162). STOP's answer sends the halt causes
as bits 1, 2 and 4, the model's reading (log 14), and the mode as the record lists it (log 13); which aborted nudges
reclose is its choice (log 28). -/
def Obligations.HaltsStopThePlant : Prop :=
  ∀ (rq : Request) (i : LineIdx) (cause : HaltCause) (s : State),
    let added (c : HaltCause) : HaltCauses := ⟨s.station.causes.estopLine || decide (c = .estopLine),
      s.station.causes.linkStop || decide (c = .linkStop),
      s.station.causes.broadcastStop || decide (c = .broadcastStop)⟩
    let body (c : HaltCauses) : List Byte := bigEndian 1 2 ++ bigEndian 1
      (c.estopLine.toNat + 2 * c.linkStop.toNat + 4 * c.broadcastStop.toNat)
    let halted (c : HaltCause) (u : State) : State := ((Event.of u).halt c).finish
    let noted (c : HaltCause) (u : State) : State :=
      (u.modStation fun x => { x with causes := added c }).endEvent
    let hushed : State := { s with link := { s.link with receiver := .hunting, answer := none } }
    (s.takes rq 0 = true →
        (s.station.mode = .run → exec (.stop rq) s = .next ((halted .linkStop s).answered rq .accepted
            (body (added .linkStop))))
        ∧ (s.station.mode = .halted → exec (.stop rq) s = .next ((noted .linkStop s).answered rq .accepted
            (body (added .linkStop))))
        ∧ (s.station.mode = .setup → exec (.stop rq) s = .next (s.answered rq .wrongMode [])))
      ∧ (s.listening = true →
        (s.station.mode = .run → exec .broadcastStop s = .next (halted .broadcastStop hushed))
        ∧ (s.station.mode = .halted → exec .broadcastStop s = .next (noted .broadcastStop hushed))
        ∧ (s.station.mode = .setup → exec .broadcastStop s = .next hushed.endEvent))
      ∧ (s.edgeDue i .estop true = true →
        (s.station.mode = .run → exec (.debounceExpiry i) s = .next (halted .estopLine (s.debounced i)))
        ∧ (s.station.mode = .halted → exec (.debounceExpiry i) s =
            .next (noted .estopLine (s.debounced i)))
        ∧ (s.station.mode = .setup → exec (.debounceExpiry i) s = .next (s.debounced i).endEvent))
      ∧ (s.edgeDue i .estop false = true → exec (.debounceExpiry i) s = .next (s.debounced i).endEvent)
      ∧ (let t := halted cause s
        let a := ((Event.of (s.modStation fun x => { x with
            mode := .halted, causes := added cause, conds := raise .halted x.conds })).revokeWhere fun x =>
          decide ((s.tip x).state = .granted)).abortWhere fun _ => true
        let b := s.breaker
        let working := b.state = .travelling ∨ b.state = .breaking
        let u := a.st.modBreaker fun x => if working then { x with
            state := .returning, current := none, jobs := [], travelTimer := none, breakTimer := none
            returnTimer := some x.travelLimit }
          else { x with jobs := [] }
        let ended := (List.finRange 4).filter fun k =>
          (b.current.toList ++ b.jobs).any fun j => decide (j.station = k)
        let v := if b.state = .breaking ∧ u.scanner.converting = false then u.chooseConversion else u
        t = Event.finish ⟨v, ended.flatMap u.endReport ++ a.arb, a.tries, false,
            if working then List.finRange 24 else a.touched⟩
          ∧ (∀ c, t.chute c = a.st.chute c)
          ∧ (∀ p, (t.pass p).e = (a.st.pass p).e ∧ (t.pass p).reserved = (a.st.pass p).reserved
            ∧ (t.pass p).waiting = (a.st.pass p).waiting)
          ∧ t.station = { s.station with
            mode := .halted, causes := added cause, conds := raise .halted s.station.conds }
          ∧ (∀ x, t.tip x = if (s.tip x).state = .granted then { s.tip x with
                state := if (s.tip x).source = .link ∨ s.level (.call x) = true then .waiting else .idle
                timer := none }
              else s.tip x)
          ∧ (∀ c, (t.chute c).state ≠ .opening ∧ (t.chute c).state ≠ .holding
            ∧ (t.chute c).state ≠ .nudging ∧ (t.chute c).callPending = (s.chute c).callPending
            ∧ (t.chute c).held = (s.chute c).held ∧ ((s.chute c).state ≠ .holding →
              (t.chute c).count = (s.chute c).count))
          ∧ t.breaker = (if s.breaker.state = .travelling ∨ s.breaker.state = .breaking then
              { s.breaker with
                state := .returning, current := none, jobs := [], travelTimer := none, breakTimer := none
                returnTimer := some s.breaker.travelLimit }
            else { s.breaker with jobs := [] })
          ∧ (∀ k, t.bst k = s.bst k)
          ∧ ∀ p, ∃ tail, (t.pass p).waiting = (s.pass p).waiting ++ tail)

/-- The other tuning requests clamp and store their values and answer them; a new proof interval that makes a
chute proof due raises PROOF_DUE; ATTENTION MASK keeps the enables of kinds 0 to 22 and ATTN is judged again (R50,
R77, R104, R158, R182). -/
def Obligations.TuningClampsAndStores : Prop :=
  ∀ (rq : Request) (t : TipIdx) (c : ChuteIdx) (v1 v2 v3 v4 : Nat) (kinds : BitVec 32) (s : State),
    let x := s.chute c
    let into (low high v : Nat) : Nat := min (max v low) high
    (s.takes rq 4 = true →
        ((s.tip t).defined = true → exec (.tuneTip rq t v1 v2) s = .next ((s.modTip t fun y =>
            { y with timeout := into 100 6000 v1, level := min v2 7 }).endEvent.answered rq .accepted
              (bigEndian 2 (into 100 6000 v1) ++ bigEndian 1 (min v2 7))))
        ∧ ((s.tip t).defined = false → exec (.tuneTip rq t v1 v2) s = .next (s.answered rq .noRecord []))
        ∧ exec (.attentionMask rq kinds) s = .next ((s.modStation fun y =>
            { y with mask := kinds &&& 0x007FFFFF }).endEvent.answered rq .accepted
              (bigEndian 4 (kinds &&& 0x007FFFFF).toNat)))
      ∧ (s.takes rq 8 = true →
        (x.defined = true → exec (.tuneChute rq c v1 v2 v3 v4) s = .next ((s.modChute c fun y => { y with
            holdTime := into 5 300 v1, strokeTime := into 10 600 v2, nudgeTime := into 2 20 v3
            interval := min v4 65535
            conds := if ¬ (y.interval ≠ 0 ∧ y.interval ≤ y.cycles)
                ∧ (min v4 65535 ≠ 0 ∧ min v4 65535 ≤ y.cycles) then raise .proofDue y.conds
              else y.conds }).endEvent.answered rq .accepted (bigEndian 2 (into 5 300 v1)
                ++ bigEndian 2 (into 10 600 v2) ++ bigEndian 1 (into 2 20 v3)
                ++ bigEndian 2 (min v4 65535))))
        ∧ (x.defined = false → exec (.tuneChute rq c v1 v2 v3 v4) s = .next (s.answered rq .noRecord []))
        ∧ exec (.tuneStation rq v1 v2 v3 v4) s = .next (((s.modStation fun y => { y with
            settleTime := into 50 6000 v1, proofWindow := into 30 300 v4 }).modBreaker fun y => { y with
              travelLimit := into 50 3000 v2, breakLimit := into 100 18000 v3 }).endEvent.answered rq
                .accepted (bigEndian 2 (into 50 6000 v1) ++ bigEndian 2 (into 50 3000 v2)
                  ++ bigEndian 2 (into 100 18000 v3) ++ bigEndian 2 (into 30 300 v4))))

/-! ## Field lines and conditions -/

/-- A request is in conflict where a line it names is bound to another function or is named for two roles. What
an accepted DEFINE does to one line: named for a role, it is bound to it, and set to out by a new output role;
bound to a role of the record and not named for it, it is released with direction and latch left; else it is
left alone. Afterwards each role of the record has the line that was named for it (R168). -/
def Obligations.DefinesBindAndReleaseLines : Prop :=
  ∀ (s : State) (roles : Roles) (i : LineIdx),
    (s.lineConflict roles = true ↔
        (∃ r ∈ roles, ∃ j, r.2 = some j ∧ (s.line j).binding ≠ none ∧ (s.line j).binding ≠ some r.1)
        ∨ ¬ (roles.filterMap Prod.snd).Nodup)
      ∧ (s.lineConflict roles = false → (roles.map Prod.fst).Nodup →
    let l := s.line i
    let t := s.bindLines roles
    t = { s with lines := t.lines }
      ∧ (∀ r ∈ roles, r.2 = some i → t.line i = { l with
          binding := some r.1
          direction := if r.1.isOutput = true ∧ l.binding ≠ some r.1 then .output else l.direction })
      ∧ ((∀ r ∈ roles, r.2 ≠ some i) → (∃ r ∈ roles, l.binding = some r.1) →
        t.line i = { l with binding := none })
      ∧ ((∀ r ∈ roles, r.2 ≠ some i) → (∀ r ∈ roles, l.binding ≠ some r.1) → t.line i = l)
      ∧ ∀ r ∈ roles, t.lineOf r.1 = r.2)

/-- A function reads the debounced level of the line bound to it, and low where none is bound (R168, R171; low is the
model's choice, log 20). A pin is driven by its function's command, by its latch, or by the plant, as the table of
R169 says; a look at a line takes the raw level from its pin and starts or stops the debounce timer; LINES WRITE and a
level at the plant act through it; an expiry with no input function bound takes the level and delivers nothing; a read
returns latch or debounced level by the direction (R167, R169 to R172, R174; an expiry at a stopped timer does
nothing, log 6). A lamp is commanded on exactly while its tip point is GRANTED, a test output while its channel is
PROVING, valves, go and code lines by the states of chute and breaker but never in SETUP (R61, R78, R111, R151, R155;
an unbound closed limit reads low, log 20). -/
def Obligations.LinesDriveDebounceAndRead : Prop :=
  ∀ (rq : Request) (b : BankIdx) (i : LineIdx) (f : LineFn) (tp : TipIdx) (c : ChuteIdx) (ch : ChannelIdx)
    (dirSet dirs latchSet latches : BitVec 8)
    (time : Option Nat) (level : Bool) (s : State),
    let l := s.line i
    let driven : Bool := decide (s.station.mode ≠ .setup)
    let working : Bool := decide (s.breaker.state = .travelling ∨ s.breaker.state = .breaking)
    let shown : StationIdx := if working then (s.breaker.current.map Job.station).getD s.breaker.lastCode
      else s.breaker.lastCode
    let written := s.mapLines fun j y =>
      if j.val / 8 = b.val ∧ j.val < 40 then { y with
        latch := if latchSet.getLsbD (j.val % 8) then latches.getLsbD (j.val % 8) else y.latch
        direction := if dirSet.getLsbD (j.val % 8) then
            (if dirs.getLsbD (j.val % 8) then .output else .input) else y.direction }
      else y
    let t := match time with
      | some n => { written with debounce := s.debounce.set b (min (max (n / 5 * 5) 5) 250) }
      | none => written
    (s.takes rq 6 = true → exec (.linesWrite rq b dirSet dirs latchSet latches time) s = .next
        (t.endEvent.answered rq .accepted (t.endEvent.bankBody b)))
      ∧ exec (.rawLevelChange i level) s =
          .next (s.modLine i fun y => { y with plant := level }).refreshLines
      ∧ (s.refreshLines = { s with lines := s.refreshLines.lines }
        ∧ s.refreshLines.line i = { l with
          raw := s.pinLevel i
          timer := if s.inReset = true ∨ s.pinLevel i = l.debounced then none
            else some (l.timer.getD (s.bankTime ⟨i.val / 8, by omega⟩)) })
      ∧ ((s.lineOf f = some i ↔ l.binding = some f ∧ ∀ j, j < i → (s.line j).binding ≠ some f)
        ∧ (s.lineOf f = none ↔ ∀ j, (s.line j).binding ≠ some f)
        ∧ (s.bound f = true ↔ ∃ j, (s.line j).binding = some f)
        ∧ (s.lineOf f = some i → s.level f = l.debounced) ∧ (s.lineOf f = none → s.level f = false))
      ∧ s.command (.lamp tp) = decide ((s.tip tp).state = .granted)
      ∧ s.command (.openValve c) = (driven && decide ((s.chute c).state = .opening ∨ (s.chute c).state = .nudging))
      ∧ s.command (.closeValve c) = (driven && decide ((s.chute c).state = .closing
          ∨ (s.chute c).state = .reclosing
          ∨ ((s.chute c).state = .closed ∧ s.level (.closedLimit c) = false)))
      ∧ s.command .go = (driven && working)
      ∧ s.command .code0 = (driven && shown.val.testBit 0)
      ∧ s.command .code1 = (driven && shown.val.testBit 1)
      ∧ s.command (.test ch) = decide ((s.channel ch).proof = .proving)
      ∧ (s.plantSafe = true → s.station.mode ≠ .run → s.command (.lamp tp) = false
          ∧ s.command (.openValve c) = false ∧ s.command .go = false)
      ∧ (40 ≤ i.val → s.pinLevel i = l.plant)
      ∧ (i.val < 40 → l.binding = some f → f.isOutput = true → s.pinLevel i = s.command f)
      ∧ (i.val < 40 → (l.binding = none ∨ (l.binding = some f ∧ f.isOutput = false)) →
        s.pinLevel i = if l.direction = .output then l.latch else l.plant)
      ∧ s.readValue i = (if i.val < 40 ∧ l.direction = .output then l.latch else l.debounced)
      ∧ (l.timer = none ∨ s.inReset = true → exec (.debounceExpiry i) s = .next s)
      ∧ (l.timer.isSome = true → s.inReset = false →
        (l.raw = l.debounced ∨ l.binding = none ∨ (l.binding = some f ∧ f.isOutput = true)) →
        exec (.debounceExpiry i) s =
          .next (s.modLine i fun y => { y with debounced := y.raw, timer := none }).endEvent)

/-- ACKNOWLEDGE of each record type clears the raised kinds of the set on that record and answers what stays;
clearing STROKE_FAULT ends fault hold with a new try, clearing BREACH makes the first breach absent; no other field
changes, and any other type is refused (R91, R133, R180). -/
def Obligations.AcknowledgeClearsTheRaisedKinds : Prop :=
  ∀ (rq : Request) (set : BitVec 32) (p : PassIdx) (t : TipIdx) (c : ChuteIdx) (k : StationIdx) (e : EntryIdx)
    (ch : ChannelIdx) (type index : Nat) (s : State), s.takes rq 6 = true →
    let kept (x : CondSet) : CondSet := x &&& ~~~set
    let done (u : State) (x : CondSet) : State := u.endEvent.answered rq .accepted (bigEndian 4 (kept x).toNat)
    let fault := raised .strokeFault set && raised .strokeFault (s.chute c).conds
    let breach := raised .breach set && raised .breach (s.entry e).conds
    exec (.acknowledge rq 0 p set) s = .next (done (s.modPass p fun y => { y with conds := kept y.conds })
        (s.pass p).conds)
      ∧ exec (.acknowledge rq 1 t set) s = .next (done (s.modTip t fun y =>
          { y with conds := kept y.conds }) (s.tip t).conds)
      ∧ (fault = false → exec (.acknowledge rq 2 c set) s = .next (done (s.modChute c fun y =>
          { y with conds := kept y.conds }) (s.chute c).conds))
      ∧ (fault = true →
        let u := Event.finish ⟨s.modChute c fun y =>
          { y with conds := kept y.conds, faultHold := false }, [], [c], false, []⟩
        exec (.acknowledge rq 2 c set) s = .next (u.answered rq .accepted
          (bigEndian 4 (u.chute c).conds.toNat)))
      ∧ exec (.acknowledge rq 3 k set) s = .next (done (s.modBst k fun y =>
          { y with conds := kept y.conds }) (s.bst k).conds)
      ∧ exec (.acknowledge rq 4 0 set) s = .next (done (s.modBreaker fun y =>
          { y with conds := kept y.conds }) s.breaker.conds)
      ∧ exec (.acknowledge rq 5 e set) s = .next (done (s.modEntry e fun y => { y with
          conds := kept y.conds, firstBreach := if breach then none else y.firstBreach }) (s.entry e).conds)
      ∧ exec (.acknowledge rq 6 ch set) s = .next (done (s.modChannel ch fun y =>
          { y with conds := kept y.conds }) (s.channel ch).conds)
      ∧ exec (.acknowledge rq 7 0 set) s = .next (done (s.modStation fun y =>
          { y with conds := kept y.conds }) s.station.conds)
      ∧ (7 < type → exec (.acknowledge rq type index set) s = .next (s.answered rq .outOfRange []))

/-! ## What every step keeps -/

/-- The state after reset obeys every law below (its straps and pin levels are the model's choice, logs 1 to 3). -/
def Obligations.ResetObeysEveryLaw : Prop :=
  let s := State.reset
  s.steady = true ∧ s.bindingsLawful = true ∧ s.estimatesLawful = true ∧ s.plantSafe = true
    ∧ s.hungQuiet = true ∧ s.chutesLawful = true ∧ s.breaker.timed = true ∧ s.jobsLawful = true
    ∧ s.scannerLawful = true ∧ s.listsLawful = true ∧ s.serviceLawful = true ∧ s.entriesLawful = true
    ∧ s.grantsLawful = true ∧ s.coverageLawful = true
    ∧ s.levelsLawful = true ∧ s.stationsLawful = true ∧ s.expiriesLawful = true

/-- Every step keeps the raw levels as the pins stand and the debounce timers as R170 says, ATTN as R183 judges
it, and each line bound to one function at most and each function to one line (R168 to R170, R183). -/
def Obligations.StepsKeepLinesAttnAndBindings : Prop :=
  ∀ (s t : State), step s = .next t →
    (s.linesSettled = true → t.linesSettled = true)
      ∧ (s.attnJudged = true → t.attnJudged = true)
      ∧ (s.bindingsLawful = true → t.bindingsLawful = true)

/-- Every step keeps each pass's estimate in 0..capacity, the tip limit and the cushion in theirs, R and D
saturated, and D at 0 outside RUNNING (R4, R6 to R8). -/
def Obligations.StepsKeepTheEstimates : Prop :=
  ∀ (s t : State), s.estimatesLawful = true → step s = .next t → t.estimatesLawful = true

/-- Every step keeps the plant safe outside RUN, the gates of a HUNG pass still, the timers of chutes and breaker as
their states say, each tip point's level at most 7, at most one job for a station, and the scanner idle only with no
channel enabled (R34, R47, R50, R93, R105, R112, R150, R155), and an old expiry of a stroke timer that was started
again noted only while it waits next in the queue (log 31). -/
def Obligations.StepsKeepThePlantSafe : Prop :=
  ∀ (s t : State), step s = .next t →
    (s.plantSafe = true → t.plantSafe = true)
      ∧ (s.hungQuiet = true → t.hungQuiet = true)
      ∧ (s.chutesLawful = true → t.chutesLawful = true)
      ∧ (s.breaker.timed = true → t.breaker.timed = true)
      ∧ (s.levelsLawful = true → t.levelsLawful = true)
      ∧ (s.levelsLawful = true → s.jobsLawful = true → t.jobsLawful = true)
      ∧ (s.scannerLawful = true → t.scannerLawful = true)
      ∧ (s.expiriesLawful = true → t.expiriesLawful = true)

/-- Every step keeps the waiting lists exact, the holders and timers of the entries, a pass out of service
exactly while a SERVICE entry on it is IN_FORCE, reserved equal to the granted loads with grants only in RUN on
RUNNING passes, every defined station over a defined tip point, covered plant still, and, with nothing bound
while the part is held in reset, no settled entry waiting (R24, R55, R60, R100, R123, R129, R130, R134,
R139). -/
def Obligations.StepsKeepCallsGrantsAndClearances : Prop :=
  ∀ (s t : State), step s = .next t →
    (s.listsLawful = true → t.listsLawful = true)
      ∧ (s.entriesLawful = true → t.entriesLawful = true)
      ∧ (s.serviceLawful = true → t.serviceLawful = true)
      ∧ (s.listsLawful = true → s.serviceLawful = true → s.grantsLawful = true → t.grantsLawful = true)
      ∧ (s.listsLawful = true → s.serviceLawful = true → s.grantsLawful = true → s.plantSafe = true →
        s.jobsLawful = true → s.stationsLawful = true → s.coverageLawful = true → t.coverageLawful = true)
      ∧ (s.stationsLawful = true → t.stationsLawful = true)
      ∧ (s.linesSettled = true → s.noneSettled = true → t.noneSettled = true)
end

