-- ==== Sys2Proof/Laws/State.lean ====
section
/-! SUPPORT. What each update of the state leaves and what it changes: one lemma for each field and each update,
so that no later proof unfolds a record update. -/

namespace Sys2Proof.Machine

/-! ## `State.modPass` -/

@[simp] theorem State.modPass_inReset (j : PassIdx) (g : Pass → Pass) (s : State) :
    (s.modPass j g).inReset = s.inReset := by unfold State.modPass; rfl
@[simp] theorem State.modPass_station (j : PassIdx) (g : Pass → Pass) (s : State) :
    (s.modPass j g).station = s.station := by unfold State.modPass; rfl
@[simp] theorem State.modPass_tips (j : PassIdx) (g : Pass → Pass) (s : State) :
    (s.modPass j g).tips = s.tips := by unfold State.modPass; rfl
@[simp] theorem State.modPass_chutes (j : PassIdx) (g : Pass → Pass) (s : State) :
    (s.modPass j g).chutes = s.chutes := by unfold State.modPass; rfl
@[simp] theorem State.modPass_stations (j : PassIdx) (g : Pass → Pass) (s : State) :
    (s.modPass j g).stations = s.stations := by unfold State.modPass; rfl
@[simp] theorem State.modPass_breaker (j : PassIdx) (g : Pass → Pass) (s : State) :
    (s.modPass j g).breaker = s.breaker := by unfold State.modPass; rfl
@[simp] theorem State.modPass_entries (j : PassIdx) (g : Pass → Pass) (s : State) :
    (s.modPass j g).entries = s.entries := by unfold State.modPass; rfl
@[simp] theorem State.modPass_channels (j : PassIdx) (g : Pass → Pass) (s : State) :
    (s.modPass j g).channels = s.channels := by unfold State.modPass; rfl
@[simp] theorem State.modPass_scanner (j : PassIdx) (g : Pass → Pass) (s : State) :
    (s.modPass j g).scanner = s.scanner := by unfold State.modPass; rfl
@[simp] theorem State.modPass_lines (j : PassIdx) (g : Pass → Pass) (s : State) :
    (s.modPass j g).lines = s.lines := by unfold State.modPass; rfl
@[simp] theorem State.modPass_debounce (j : PassIdx) (g : Pass → Pass) (s : State) :
    (s.modPass j g).debounce = s.debounce := by unfold State.modPass; rfl
@[simp] theorem State.modPass_link (j : PassIdx) (g : Pass → Pass) (s : State) :
    (s.modPass j g).link = s.link := by unfold State.modPass; rfl
@[simp] theorem State.modPass_attn (j : PassIdx) (g : Pass → Pass) (s : State) :
    (s.modPass j g).attn = s.attn := by unfold State.modPass; rfl
@[simp] theorem State.modPass_pending (j : PassIdx) (g : Pass → Pass) (s : State) :
    (s.modPass j g).pending = s.pending := by unfold State.modPass; rfl
@[simp] theorem State.modPass_tip (j : PassIdx) (g : Pass → Pass) (s : State) (i : TipIdx) :
    (s.modPass j g).tip i = s.tip i := by simp only [State.tip, State.modPass_tips]
@[simp] theorem State.modPass_chute (j : PassIdx) (g : Pass → Pass) (s : State) (i : ChuteIdx) :
    (s.modPass j g).chute i = s.chute i := by simp only [State.chute, State.modPass_chutes]
@[simp] theorem State.modPass_bst (j : PassIdx) (g : Pass → Pass) (s : State) (i : StationIdx) :
    (s.modPass j g).bst i = s.bst i := by simp only [State.bst, State.modPass_stations]
@[simp] theorem State.modPass_entry (j : PassIdx) (g : Pass → Pass) (s : State) (i : EntryIdx) :
    (s.modPass j g).entry i = s.entry i := by simp only [State.entry, State.modPass_entries]
@[simp] theorem State.modPass_channel (j : PassIdx) (g : Pass → Pass) (s : State) (i : ChannelIdx) :
    (s.modPass j g).channel i = s.channel i := by simp only [State.channel, State.modPass_channels]
@[simp] theorem State.modPass_line (j : PassIdx) (g : Pass → Pass) (s : State) (i : LineIdx) :
    (s.modPass j g).line i = s.line i := by simp only [State.line, State.modPass_lines]
@[simp] theorem State.modPass_bankTime (j : PassIdx) (g : Pass → Pass) (s : State) (i : BankIdx) :
    (s.modPass j g).bankTime i = s.bankTime i := by simp only [State.bankTime, State.modPass_debounce]
@[simp] theorem State.modPass_lineOf (j : PassIdx) (g : Pass → Pass) (s : State) (f' : LineFn) :
    (s.modPass j g).lineOf f' = s.lineOf f' := by
  simp only [State.lineOf, State.modPass_line]
@[simp] theorem State.modPass_bound (j : PassIdx) (g : Pass → Pass) (s : State) (f' : LineFn) :
    (s.modPass j g).bound f' = s.bound f' := by
  simp only [State.bound, State.modPass_lineOf]
@[simp] theorem State.modPass_level (j : PassIdx) (g : Pass → Pass) (s : State) (f' : LineFn) :
    (s.modPass j g).level f' = s.level f' := by
  simp only [State.level, State.modPass_lineOf, State.modPass_line]
@[simp] theorem State.modPass_closedHigh (j : PassIdx) (g : Pass → Pass) (s : State) (c' : ChuteIdx) :
    (s.modPass j g).closedHigh c' = s.closedHigh c' := by
  simp only [State.closedHigh, State.modPass_level]
@[simp] theorem State.modPass_coversTip (j : PassIdx) (g : Pass → Pass) (s : State) (e' : EntryIdx) (t' : TipIdx) :
    (s.modPass j g).coversTip e' t' = s.coversTip e' t' := by
  simp only [State.coversTip, State.modPass_entry, State.modPass_tip]
@[simp] theorem State.modPass_coversChute (j : PassIdx) (g : Pass → Pass) (s : State) (e' : EntryIdx) (c' : ChuteIdx) :
    (s.modPass j g).coversChute e' c' = s.coversChute e' c' := by
  simp only [State.coversChute, State.modPass_entry, State.modPass_chute]
@[simp] theorem State.modPass_coversStation (j : PassIdx) (g : Pass → Pass) (s : State) (e' : EntryIdx) (k' : StationIdx) :
    (s.modPass j g).coversStation e' k' = s.coversStation e' k' := by
  simp only [State.coversStation, State.modPass_bst, State.modPass_coversTip]
@[simp] theorem State.modPass_carriesBreaker (j : PassIdx) (g : Pass → Pass) (s : State) (e' : EntryIdx) :
    (s.modPass j g).carriesBreaker e' = s.carriesBreaker e' := by
  simp only [State.carriesBreaker, State.modPass_entry]

theorem State.modPass_pass (j : PassIdx) (g : Pass → Pass) (s : State) (i : PassIdx) :
    (s.modPass j g).pass i = if i = j then g (s.pass j) else s.pass i := by
  simp only [State.modPass, State.pass, Fin.getElem_fin, Vector.getElem_set, Fin.ext_iff, eq_comm]

@[simp] theorem State.modPass_pass_self (j : PassIdx) (g : Pass → Pass) (s : State) : (s.modPass j g).pass j = g (s.pass j) := by
  simp [State.modPass_pass]

theorem State.modPass_pass_ne (j : PassIdx) (g : Pass → Pass) (s : State) {i : PassIdx} (h : i ≠ j) :
    (s.modPass j g).pass i = s.pass i := by
  simp [State.modPass_pass, h]

/-! ## `State.modTip` -/

@[simp] theorem State.modTip_inReset (j : TipIdx) (g : Tip → Tip) (s : State) :
    (s.modTip j g).inReset = s.inReset := by unfold State.modTip; rfl
@[simp] theorem State.modTip_station (j : TipIdx) (g : Tip → Tip) (s : State) :
    (s.modTip j g).station = s.station := by unfold State.modTip; rfl
@[simp] theorem State.modTip_passes (j : TipIdx) (g : Tip → Tip) (s : State) :
    (s.modTip j g).passes = s.passes := by unfold State.modTip; rfl
@[simp] theorem State.modTip_chutes (j : TipIdx) (g : Tip → Tip) (s : State) :
    (s.modTip j g).chutes = s.chutes := by unfold State.modTip; rfl
@[simp] theorem State.modTip_stations (j : TipIdx) (g : Tip → Tip) (s : State) :
    (s.modTip j g).stations = s.stations := by unfold State.modTip; rfl
@[simp] theorem State.modTip_breaker (j : TipIdx) (g : Tip → Tip) (s : State) :
    (s.modTip j g).breaker = s.breaker := by unfold State.modTip; rfl
@[simp] theorem State.modTip_entries (j : TipIdx) (g : Tip → Tip) (s : State) :
    (s.modTip j g).entries = s.entries := by unfold State.modTip; rfl
@[simp] theorem State.modTip_channels (j : TipIdx) (g : Tip → Tip) (s : State) :
    (s.modTip j g).channels = s.channels := by unfold State.modTip; rfl
@[simp] theorem State.modTip_scanner (j : TipIdx) (g : Tip → Tip) (s : State) :
    (s.modTip j g).scanner = s.scanner := by unfold State.modTip; rfl
@[simp] theorem State.modTip_lines (j : TipIdx) (g : Tip → Tip) (s : State) :
    (s.modTip j g).lines = s.lines := by unfold State.modTip; rfl
@[simp] theorem State.modTip_debounce (j : TipIdx) (g : Tip → Tip) (s : State) :
    (s.modTip j g).debounce = s.debounce := by unfold State.modTip; rfl
@[simp] theorem State.modTip_link (j : TipIdx) (g : Tip → Tip) (s : State) :
    (s.modTip j g).link = s.link := by unfold State.modTip; rfl
@[simp] theorem State.modTip_attn (j : TipIdx) (g : Tip → Tip) (s : State) :
    (s.modTip j g).attn = s.attn := by unfold State.modTip; rfl
@[simp] theorem State.modTip_pending (j : TipIdx) (g : Tip → Tip) (s : State) :
    (s.modTip j g).pending = s.pending := by unfold State.modTip; rfl
@[simp] theorem State.modTip_pass (j : TipIdx) (g : Tip → Tip) (s : State) (i : PassIdx) :
    (s.modTip j g).pass i = s.pass i := by simp only [State.pass, State.modTip_passes]
@[simp] theorem State.modTip_chute (j : TipIdx) (g : Tip → Tip) (s : State) (i : ChuteIdx) :
    (s.modTip j g).chute i = s.chute i := by simp only [State.chute, State.modTip_chutes]
@[simp] theorem State.modTip_bst (j : TipIdx) (g : Tip → Tip) (s : State) (i : StationIdx) :
    (s.modTip j g).bst i = s.bst i := by simp only [State.bst, State.modTip_stations]
@[simp] theorem State.modTip_entry (j : TipIdx) (g : Tip → Tip) (s : State) (i : EntryIdx) :
    (s.modTip j g).entry i = s.entry i := by simp only [State.entry, State.modTip_entries]
@[simp] theorem State.modTip_channel (j : TipIdx) (g : Tip → Tip) (s : State) (i : ChannelIdx) :
    (s.modTip j g).channel i = s.channel i := by simp only [State.channel, State.modTip_channels]
@[simp] theorem State.modTip_line (j : TipIdx) (g : Tip → Tip) (s : State) (i : LineIdx) :
    (s.modTip j g).line i = s.line i := by simp only [State.line, State.modTip_lines]
@[simp] theorem State.modTip_bankTime (j : TipIdx) (g : Tip → Tip) (s : State) (i : BankIdx) :
    (s.modTip j g).bankTime i = s.bankTime i := by simp only [State.bankTime, State.modTip_debounce]
@[simp] theorem State.modTip_lineOf (j : TipIdx) (g : Tip → Tip) (s : State) (f' : LineFn) :
    (s.modTip j g).lineOf f' = s.lineOf f' := by
  simp only [State.lineOf, State.modTip_line]
@[simp] theorem State.modTip_bound (j : TipIdx) (g : Tip → Tip) (s : State) (f' : LineFn) :
    (s.modTip j g).bound f' = s.bound f' := by
  simp only [State.bound, State.modTip_lineOf]
@[simp] theorem State.modTip_level (j : TipIdx) (g : Tip → Tip) (s : State) (f' : LineFn) :
    (s.modTip j g).level f' = s.level f' := by
  simp only [State.level, State.modTip_lineOf, State.modTip_line]
@[simp] theorem State.modTip_closedHigh (j : TipIdx) (g : Tip → Tip) (s : State) (c' : ChuteIdx) :
    (s.modTip j g).closedHigh c' = s.closedHigh c' := by
  simp only [State.closedHigh, State.modTip_level]
@[simp] theorem State.modTip_coversChute (j : TipIdx) (g : Tip → Tip) (s : State) (e' : EntryIdx) (c' : ChuteIdx) :
    (s.modTip j g).coversChute e' c' = s.coversChute e' c' := by
  simp only [State.coversChute, State.modTip_entry, State.modTip_chute]
@[simp] theorem State.modTip_carriesBreaker (j : TipIdx) (g : Tip → Tip) (s : State) (e' : EntryIdx) :
    (s.modTip j g).carriesBreaker e' = s.carriesBreaker e' := by
  simp only [State.carriesBreaker, State.modTip_entry]

theorem State.modTip_tip (j : TipIdx) (g : Tip → Tip) (s : State) (i : TipIdx) :
    (s.modTip j g).tip i = if i = j then g (s.tip j) else s.tip i := by
  simp only [State.modTip, State.tip, Fin.getElem_fin, Vector.getElem_set, Fin.ext_iff, eq_comm]

@[simp] theorem State.modTip_tip_self (j : TipIdx) (g : Tip → Tip) (s : State) : (s.modTip j g).tip j = g (s.tip j) := by
  simp [State.modTip_tip]

theorem State.modTip_tip_ne (j : TipIdx) (g : Tip → Tip) (s : State) {i : TipIdx} (h : i ≠ j) :
    (s.modTip j g).tip i = s.tip i := by
  simp [State.modTip_tip, h]

/-! ## `State.modChute` -/

@[simp] theorem State.modChute_inReset (j : ChuteIdx) (g : Chute → Chute) (s : State) :
    (s.modChute j g).inReset = s.inReset := by unfold State.modChute; rfl
@[simp] theorem State.modChute_station (j : ChuteIdx) (g : Chute → Chute) (s : State) :
    (s.modChute j g).station = s.station := by unfold State.modChute; rfl
@[simp] theorem State.modChute_passes (j : ChuteIdx) (g : Chute → Chute) (s : State) :
    (s.modChute j g).passes = s.passes := by unfold State.modChute; rfl
@[simp] theorem State.modChute_tips (j : ChuteIdx) (g : Chute → Chute) (s : State) :
    (s.modChute j g).tips = s.tips := by unfold State.modChute; rfl
@[simp] theorem State.modChute_stations (j : ChuteIdx) (g : Chute → Chute) (s : State) :
    (s.modChute j g).stations = s.stations := by unfold State.modChute; rfl
@[simp] theorem State.modChute_breaker (j : ChuteIdx) (g : Chute → Chute) (s : State) :
    (s.modChute j g).breaker = s.breaker := by unfold State.modChute; rfl
@[simp] theorem State.modChute_entries (j : ChuteIdx) (g : Chute → Chute) (s : State) :
    (s.modChute j g).entries = s.entries := by unfold State.modChute; rfl
@[simp] theorem State.modChute_channels (j : ChuteIdx) (g : Chute → Chute) (s : State) :
    (s.modChute j g).channels = s.channels := by unfold State.modChute; rfl
@[simp] theorem State.modChute_scanner (j : ChuteIdx) (g : Chute → Chute) (s : State) :
    (s.modChute j g).scanner = s.scanner := by unfold State.modChute; rfl
@[simp] theorem State.modChute_lines (j : ChuteIdx) (g : Chute → Chute) (s : State) :
    (s.modChute j g).lines = s.lines := by unfold State.modChute; rfl
@[simp] theorem State.modChute_debounce (j : ChuteIdx) (g : Chute → Chute) (s : State) :
    (s.modChute j g).debounce = s.debounce := by unfold State.modChute; rfl
@[simp] theorem State.modChute_link (j : ChuteIdx) (g : Chute → Chute) (s : State) :
    (s.modChute j g).link = s.link := by unfold State.modChute; rfl
@[simp] theorem State.modChute_attn (j : ChuteIdx) (g : Chute → Chute) (s : State) :
    (s.modChute j g).attn = s.attn := by unfold State.modChute; rfl
@[simp] theorem State.modChute_pending (j : ChuteIdx) (g : Chute → Chute) (s : State) :
    (s.modChute j g).pending = s.pending := by unfold State.modChute; rfl
@[simp] theorem State.modChute_pass (j : ChuteIdx) (g : Chute → Chute) (s : State) (i : PassIdx) :
    (s.modChute j g).pass i = s.pass i := by simp only [State.pass, State.modChute_passes]
@[simp] theorem State.modChute_tip (j : ChuteIdx) (g : Chute → Chute) (s : State) (i : TipIdx) :
    (s.modChute j g).tip i = s.tip i := by simp only [State.tip, State.modChute_tips]
@[simp] theorem State.modChute_bst (j : ChuteIdx) (g : Chute → Chute) (s : State) (i : StationIdx) :
    (s.modChute j g).bst i = s.bst i := by simp only [State.bst, State.modChute_stations]
@[simp] theorem State.modChute_entry (j : ChuteIdx) (g : Chute → Chute) (s : State) (i : EntryIdx) :
    (s.modChute j g).entry i = s.entry i := by simp only [State.entry, State.modChute_entries]
@[simp] theorem State.modChute_channel (j : ChuteIdx) (g : Chute → Chute) (s : State) (i : ChannelIdx) :
    (s.modChute j g).channel i = s.channel i := by simp only [State.channel, State.modChute_channels]
@[simp] theorem State.modChute_line (j : ChuteIdx) (g : Chute → Chute) (s : State) (i : LineIdx) :
    (s.modChute j g).line i = s.line i := by simp only [State.line, State.modChute_lines]
@[simp] theorem State.modChute_bankTime (j : ChuteIdx) (g : Chute → Chute) (s : State) (i : BankIdx) :
    (s.modChute j g).bankTime i = s.bankTime i := by simp only [State.bankTime, State.modChute_debounce]
@[simp] theorem State.modChute_lineOf (j : ChuteIdx) (g : Chute → Chute) (s : State) (f' : LineFn) :
    (s.modChute j g).lineOf f' = s.lineOf f' := by
  simp only [State.lineOf, State.modChute_line]
@[simp] theorem State.modChute_bound (j : ChuteIdx) (g : Chute → Chute) (s : State) (f' : LineFn) :
    (s.modChute j g).bound f' = s.bound f' := by
  simp only [State.bound, State.modChute_lineOf]
@[simp] theorem State.modChute_level (j : ChuteIdx) (g : Chute → Chute) (s : State) (f' : LineFn) :
    (s.modChute j g).level f' = s.level f' := by
  simp only [State.level, State.modChute_lineOf, State.modChute_line]
@[simp] theorem State.modChute_closedHigh (j : ChuteIdx) (g : Chute → Chute) (s : State) (c' : ChuteIdx) :
    (s.modChute j g).closedHigh c' = s.closedHigh c' := by
  simp only [State.closedHigh, State.modChute_level]
@[simp] theorem State.modChute_coversTip (j : ChuteIdx) (g : Chute → Chute) (s : State) (e' : EntryIdx) (t' : TipIdx) :
    (s.modChute j g).coversTip e' t' = s.coversTip e' t' := by
  simp only [State.coversTip, State.modChute_entry, State.modChute_tip]
@[simp] theorem State.modChute_coversStation (j : ChuteIdx) (g : Chute → Chute) (s : State) (e' : EntryIdx) (k' : StationIdx) :
    (s.modChute j g).coversStation e' k' = s.coversStation e' k' := by
  simp only [State.coversStation, State.modChute_bst, State.modChute_coversTip]
@[simp] theorem State.modChute_carriesBreaker (j : ChuteIdx) (g : Chute → Chute) (s : State) (e' : EntryIdx) :
    (s.modChute j g).carriesBreaker e' = s.carriesBreaker e' := by
  simp only [State.carriesBreaker, State.modChute_entry]

theorem State.modChute_chute (j : ChuteIdx) (g : Chute → Chute) (s : State) (i : ChuteIdx) :
    (s.modChute j g).chute i = if i = j then g (s.chute j) else s.chute i := by
  simp only [State.modChute, State.chute, Fin.getElem_fin, Vector.getElem_set, Fin.ext_iff, eq_comm]

@[simp] theorem State.modChute_chute_self (j : ChuteIdx) (g : Chute → Chute) (s : State) : (s.modChute j g).chute j = g (s.chute j) := by
  simp [State.modChute_chute]

theorem State.modChute_chute_ne (j : ChuteIdx) (g : Chute → Chute) (s : State) {i : ChuteIdx} (h : i ≠ j) :
    (s.modChute j g).chute i = s.chute i := by
  simp [State.modChute_chute, h]

/-! ## `State.modBst` -/

@[simp] theorem State.modBst_inReset (j : StationIdx) (g : Station → Station) (s : State) :
    (s.modBst j g).inReset = s.inReset := by unfold State.modBst; rfl
@[simp] theorem State.modBst_station (j : StationIdx) (g : Station → Station) (s : State) :
    (s.modBst j g).station = s.station := by unfold State.modBst; rfl
@[simp] theorem State.modBst_passes (j : StationIdx) (g : Station → Station) (s : State) :
    (s.modBst j g).passes = s.passes := by unfold State.modBst; rfl
@[simp] theorem State.modBst_tips (j : StationIdx) (g : Station → Station) (s : State) :
    (s.modBst j g).tips = s.tips := by unfold State.modBst; rfl
@[simp] theorem State.modBst_chutes (j : StationIdx) (g : Station → Station) (s : State) :
    (s.modBst j g).chutes = s.chutes := by unfold State.modBst; rfl
@[simp] theorem State.modBst_breaker (j : StationIdx) (g : Station → Station) (s : State) :
    (s.modBst j g).breaker = s.breaker := by unfold State.modBst; rfl
@[simp] theorem State.modBst_entries (j : StationIdx) (g : Station → Station) (s : State) :
    (s.modBst j g).entries = s.entries := by unfold State.modBst; rfl
@[simp] theorem State.modBst_channels (j : StationIdx) (g : Station → Station) (s : State) :
    (s.modBst j g).channels = s.channels := by unfold State.modBst; rfl
@[simp] theorem State.modBst_scanner (j : StationIdx) (g : Station → Station) (s : State) :
    (s.modBst j g).scanner = s.scanner := by unfold State.modBst; rfl
@[simp] theorem State.modBst_lines (j : StationIdx) (g : Station → Station) (s : State) :
    (s.modBst j g).lines = s.lines := by unfold State.modBst; rfl
@[simp] theorem State.modBst_debounce (j : StationIdx) (g : Station → Station) (s : State) :
    (s.modBst j g).debounce = s.debounce := by unfold State.modBst; rfl
@[simp] theorem State.modBst_link (j : StationIdx) (g : Station → Station) (s : State) :
    (s.modBst j g).link = s.link := by unfold State.modBst; rfl
@[simp] theorem State.modBst_attn (j : StationIdx) (g : Station → Station) (s : State) :
    (s.modBst j g).attn = s.attn := by unfold State.modBst; rfl
@[simp] theorem State.modBst_pending (j : StationIdx) (g : Station → Station) (s : State) :
    (s.modBst j g).pending = s.pending := by unfold State.modBst; rfl
@[simp] theorem State.modBst_pass (j : StationIdx) (g : Station → Station) (s : State) (i : PassIdx) :
    (s.modBst j g).pass i = s.pass i := by simp only [State.pass, State.modBst_passes]
@[simp] theorem State.modBst_tip (j : StationIdx) (g : Station → Station) (s : State) (i : TipIdx) :
    (s.modBst j g).tip i = s.tip i := by simp only [State.tip, State.modBst_tips]
@[simp] theorem State.modBst_chute (j : StationIdx) (g : Station → Station) (s : State) (i : ChuteIdx) :
    (s.modBst j g).chute i = s.chute i := by simp only [State.chute, State.modBst_chutes]
@[simp] theorem State.modBst_entry (j : StationIdx) (g : Station → Station) (s : State) (i : EntryIdx) :
    (s.modBst j g).entry i = s.entry i := by simp only [State.entry, State.modBst_entries]
@[simp] theorem State.modBst_channel (j : StationIdx) (g : Station → Station) (s : State) (i : ChannelIdx) :
    (s.modBst j g).channel i = s.channel i := by simp only [State.channel, State.modBst_channels]
@[simp] theorem State.modBst_line (j : StationIdx) (g : Station → Station) (s : State) (i : LineIdx) :
    (s.modBst j g).line i = s.line i := by simp only [State.line, State.modBst_lines]
@[simp] theorem State.modBst_bankTime (j : StationIdx) (g : Station → Station) (s : State) (i : BankIdx) :
    (s.modBst j g).bankTime i = s.bankTime i := by simp only [State.bankTime, State.modBst_debounce]
@[simp] theorem State.modBst_lineOf (j : StationIdx) (g : Station → Station) (s : State) (f' : LineFn) :
    (s.modBst j g).lineOf f' = s.lineOf f' := by
  simp only [State.lineOf, State.modBst_line]
@[simp] theorem State.modBst_bound (j : StationIdx) (g : Station → Station) (s : State) (f' : LineFn) :
    (s.modBst j g).bound f' = s.bound f' := by
  simp only [State.bound, State.modBst_lineOf]
@[simp] theorem State.modBst_level (j : StationIdx) (g : Station → Station) (s : State) (f' : LineFn) :
    (s.modBst j g).level f' = s.level f' := by
  simp only [State.level, State.modBst_lineOf, State.modBst_line]
@[simp] theorem State.modBst_closedHigh (j : StationIdx) (g : Station → Station) (s : State) (c' : ChuteIdx) :
    (s.modBst j g).closedHigh c' = s.closedHigh c' := by
  simp only [State.closedHigh, State.modBst_level]
@[simp] theorem State.modBst_coversTip (j : StationIdx) (g : Station → Station) (s : State) (e' : EntryIdx) (t' : TipIdx) :
    (s.modBst j g).coversTip e' t' = s.coversTip e' t' := by
  simp only [State.coversTip, State.modBst_entry, State.modBst_tip]
@[simp] theorem State.modBst_coversChute (j : StationIdx) (g : Station → Station) (s : State) (e' : EntryIdx) (c' : ChuteIdx) :
    (s.modBst j g).coversChute e' c' = s.coversChute e' c' := by
  simp only [State.coversChute, State.modBst_entry, State.modBst_chute]
@[simp] theorem State.modBst_carriesBreaker (j : StationIdx) (g : Station → Station) (s : State) (e' : EntryIdx) :
    (s.modBst j g).carriesBreaker e' = s.carriesBreaker e' := by
  simp only [State.carriesBreaker, State.modBst_entry]

theorem State.modBst_bst (j : StationIdx) (g : Station → Station) (s : State) (i : StationIdx) :
    (s.modBst j g).bst i = if i = j then g (s.bst j) else s.bst i := by
  simp only [State.modBst, State.bst, Fin.getElem_fin, Vector.getElem_set, Fin.ext_iff, eq_comm]

@[simp] theorem State.modBst_bst_self (j : StationIdx) (g : Station → Station) (s : State) : (s.modBst j g).bst j = g (s.bst j) := by
  simp [State.modBst_bst]

theorem State.modBst_bst_ne (j : StationIdx) (g : Station → Station) (s : State) {i : StationIdx} (h : i ≠ j) :
    (s.modBst j g).bst i = s.bst i := by
  simp [State.modBst_bst, h]

/-! ## `State.modEntry` -/

@[simp] theorem State.modEntry_inReset (j : EntryIdx) (g : Entry → Entry) (s : State) :
    (s.modEntry j g).inReset = s.inReset := by unfold State.modEntry; rfl
@[simp] theorem State.modEntry_station (j : EntryIdx) (g : Entry → Entry) (s : State) :
    (s.modEntry j g).station = s.station := by unfold State.modEntry; rfl
@[simp] theorem State.modEntry_passes (j : EntryIdx) (g : Entry → Entry) (s : State) :
    (s.modEntry j g).passes = s.passes := by unfold State.modEntry; rfl
@[simp] theorem State.modEntry_tips (j : EntryIdx) (g : Entry → Entry) (s : State) :
    (s.modEntry j g).tips = s.tips := by unfold State.modEntry; rfl
@[simp] theorem State.modEntry_chutes (j : EntryIdx) (g : Entry → Entry) (s : State) :
    (s.modEntry j g).chutes = s.chutes := by unfold State.modEntry; rfl
@[simp] theorem State.modEntry_stations (j : EntryIdx) (g : Entry → Entry) (s : State) :
    (s.modEntry j g).stations = s.stations := by unfold State.modEntry; rfl
@[simp] theorem State.modEntry_breaker (j : EntryIdx) (g : Entry → Entry) (s : State) :
    (s.modEntry j g).breaker = s.breaker := by unfold State.modEntry; rfl
@[simp] theorem State.modEntry_channels (j : EntryIdx) (g : Entry → Entry) (s : State) :
    (s.modEntry j g).channels = s.channels := by unfold State.modEntry; rfl
@[simp] theorem State.modEntry_scanner (j : EntryIdx) (g : Entry → Entry) (s : State) :
    (s.modEntry j g).scanner = s.scanner := by unfold State.modEntry; rfl
@[simp] theorem State.modEntry_lines (j : EntryIdx) (g : Entry → Entry) (s : State) :
    (s.modEntry j g).lines = s.lines := by unfold State.modEntry; rfl
@[simp] theorem State.modEntry_debounce (j : EntryIdx) (g : Entry → Entry) (s : State) :
    (s.modEntry j g).debounce = s.debounce := by unfold State.modEntry; rfl
@[simp] theorem State.modEntry_link (j : EntryIdx) (g : Entry → Entry) (s : State) :
    (s.modEntry j g).link = s.link := by unfold State.modEntry; rfl
@[simp] theorem State.modEntry_attn (j : EntryIdx) (g : Entry → Entry) (s : State) :
    (s.modEntry j g).attn = s.attn := by unfold State.modEntry; rfl
@[simp] theorem State.modEntry_pending (j : EntryIdx) (g : Entry → Entry) (s : State) :
    (s.modEntry j g).pending = s.pending := by unfold State.modEntry; rfl
@[simp] theorem State.modEntry_pass (j : EntryIdx) (g : Entry → Entry) (s : State) (i : PassIdx) :
    (s.modEntry j g).pass i = s.pass i := by simp only [State.pass, State.modEntry_passes]
@[simp] theorem State.modEntry_tip (j : EntryIdx) (g : Entry → Entry) (s : State) (i : TipIdx) :
    (s.modEntry j g).tip i = s.tip i := by simp only [State.tip, State.modEntry_tips]
@[simp] theorem State.modEntry_chute (j : EntryIdx) (g : Entry → Entry) (s : State) (i : ChuteIdx) :
    (s.modEntry j g).chute i = s.chute i := by simp only [State.chute, State.modEntry_chutes]
@[simp] theorem State.modEntry_bst (j : EntryIdx) (g : Entry → Entry) (s : State) (i : StationIdx) :
    (s.modEntry j g).bst i = s.bst i := by simp only [State.bst, State.modEntry_stations]
@[simp] theorem State.modEntry_channel (j : EntryIdx) (g : Entry → Entry) (s : State) (i : ChannelIdx) :
    (s.modEntry j g).channel i = s.channel i := by simp only [State.channel, State.modEntry_channels]
@[simp] theorem State.modEntry_line (j : EntryIdx) (g : Entry → Entry) (s : State) (i : LineIdx) :
    (s.modEntry j g).line i = s.line i := by simp only [State.line, State.modEntry_lines]
@[simp] theorem State.modEntry_bankTime (j : EntryIdx) (g : Entry → Entry) (s : State) (i : BankIdx) :
    (s.modEntry j g).bankTime i = s.bankTime i := by simp only [State.bankTime, State.modEntry_debounce]
@[simp] theorem State.modEntry_lineOf (j : EntryIdx) (g : Entry → Entry) (s : State) (f' : LineFn) :
    (s.modEntry j g).lineOf f' = s.lineOf f' := by
  simp only [State.lineOf, State.modEntry_line]
@[simp] theorem State.modEntry_bound (j : EntryIdx) (g : Entry → Entry) (s : State) (f' : LineFn) :
    (s.modEntry j g).bound f' = s.bound f' := by
  simp only [State.bound, State.modEntry_lineOf]
@[simp] theorem State.modEntry_level (j : EntryIdx) (g : Entry → Entry) (s : State) (f' : LineFn) :
    (s.modEntry j g).level f' = s.level f' := by
  simp only [State.level, State.modEntry_lineOf, State.modEntry_line]
@[simp] theorem State.modEntry_closedHigh (j : EntryIdx) (g : Entry → Entry) (s : State) (c' : ChuteIdx) :
    (s.modEntry j g).closedHigh c' = s.closedHigh c' := by
  simp only [State.closedHigh, State.modEntry_level]

theorem State.modEntry_entry (j : EntryIdx) (g : Entry → Entry) (s : State) (i : EntryIdx) :
    (s.modEntry j g).entry i = if i = j then g (s.entry j) else s.entry i := by
  simp only [State.modEntry, State.entry, Fin.getElem_fin, Vector.getElem_set, Fin.ext_iff, eq_comm]

@[simp] theorem State.modEntry_entry_self (j : EntryIdx) (g : Entry → Entry) (s : State) : (s.modEntry j g).entry j = g (s.entry j) := by
  simp [State.modEntry_entry]

theorem State.modEntry_entry_ne (j : EntryIdx) (g : Entry → Entry) (s : State) {i : EntryIdx} (h : i ≠ j) :
    (s.modEntry j g).entry i = s.entry i := by
  simp [State.modEntry_entry, h]

/-! ## `State.modChannel` -/

@[simp] theorem State.modChannel_inReset (j : ChannelIdx) (g : Channel → Channel) (s : State) :
    (s.modChannel j g).inReset = s.inReset := by unfold State.modChannel; rfl
@[simp] theorem State.modChannel_station (j : ChannelIdx) (g : Channel → Channel) (s : State) :
    (s.modChannel j g).station = s.station := by unfold State.modChannel; rfl
@[simp] theorem State.modChannel_passes (j : ChannelIdx) (g : Channel → Channel) (s : State) :
    (s.modChannel j g).passes = s.passes := by unfold State.modChannel; rfl
@[simp] theorem State.modChannel_tips (j : ChannelIdx) (g : Channel → Channel) (s : State) :
    (s.modChannel j g).tips = s.tips := by unfold State.modChannel; rfl
@[simp] theorem State.modChannel_chutes (j : ChannelIdx) (g : Channel → Channel) (s : State) :
    (s.modChannel j g).chutes = s.chutes := by unfold State.modChannel; rfl
@[simp] theorem State.modChannel_stations (j : ChannelIdx) (g : Channel → Channel) (s : State) :
    (s.modChannel j g).stations = s.stations := by unfold State.modChannel; rfl
@[simp] theorem State.modChannel_breaker (j : ChannelIdx) (g : Channel → Channel) (s : State) :
    (s.modChannel j g).breaker = s.breaker := by unfold State.modChannel; rfl
@[simp] theorem State.modChannel_entries (j : ChannelIdx) (g : Channel → Channel) (s : State) :
    (s.modChannel j g).entries = s.entries := by unfold State.modChannel; rfl
@[simp] theorem State.modChannel_scanner (j : ChannelIdx) (g : Channel → Channel) (s : State) :
    (s.modChannel j g).scanner = s.scanner := by unfold State.modChannel; rfl
@[simp] theorem State.modChannel_lines (j : ChannelIdx) (g : Channel → Channel) (s : State) :
    (s.modChannel j g).lines = s.lines := by unfold State.modChannel; rfl
@[simp] theorem State.modChannel_debounce (j : ChannelIdx) (g : Channel → Channel) (s : State) :
    (s.modChannel j g).debounce = s.debounce := by unfold State.modChannel; rfl
@[simp] theorem State.modChannel_link (j : ChannelIdx) (g : Channel → Channel) (s : State) :
    (s.modChannel j g).link = s.link := by unfold State.modChannel; rfl
@[simp] theorem State.modChannel_attn (j : ChannelIdx) (g : Channel → Channel) (s : State) :
    (s.modChannel j g).attn = s.attn := by unfold State.modChannel; rfl
@[simp] theorem State.modChannel_pending (j : ChannelIdx) (g : Channel → Channel) (s : State) :
    (s.modChannel j g).pending = s.pending := by unfold State.modChannel; rfl
@[simp] theorem State.modChannel_pass (j : ChannelIdx) (g : Channel → Channel) (s : State) (i : PassIdx) :
    (s.modChannel j g).pass i = s.pass i := by simp only [State.pass, State.modChannel_passes]
@[simp] theorem State.modChannel_tip (j : ChannelIdx) (g : Channel → Channel) (s : State) (i : TipIdx) :
    (s.modChannel j g).tip i = s.tip i := by simp only [State.tip, State.modChannel_tips]
@[simp] theorem State.modChannel_chute (j : ChannelIdx) (g : Channel → Channel) (s : State) (i : ChuteIdx) :
    (s.modChannel j g).chute i = s.chute i := by simp only [State.chute, State.modChannel_chutes]
@[simp] theorem State.modChannel_bst (j : ChannelIdx) (g : Channel → Channel) (s : State) (i : StationIdx) :
    (s.modChannel j g).bst i = s.bst i := by simp only [State.bst, State.modChannel_stations]
@[simp] theorem State.modChannel_entry (j : ChannelIdx) (g : Channel → Channel) (s : State) (i : EntryIdx) :
    (s.modChannel j g).entry i = s.entry i := by simp only [State.entry, State.modChannel_entries]
@[simp] theorem State.modChannel_line (j : ChannelIdx) (g : Channel → Channel) (s : State) (i : LineIdx) :
    (s.modChannel j g).line i = s.line i := by simp only [State.line, State.modChannel_lines]
@[simp] theorem State.modChannel_bankTime (j : ChannelIdx) (g : Channel → Channel) (s : State) (i : BankIdx) :
    (s.modChannel j g).bankTime i = s.bankTime i := by simp only [State.bankTime, State.modChannel_debounce]
@[simp] theorem State.modChannel_lineOf (j : ChannelIdx) (g : Channel → Channel) (s : State) (f' : LineFn) :
    (s.modChannel j g).lineOf f' = s.lineOf f' := by
  simp only [State.lineOf, State.modChannel_line]
@[simp] theorem State.modChannel_bound (j : ChannelIdx) (g : Channel → Channel) (s : State) (f' : LineFn) :
    (s.modChannel j g).bound f' = s.bound f' := by
  simp only [State.bound, State.modChannel_lineOf]
@[simp] theorem State.modChannel_level (j : ChannelIdx) (g : Channel → Channel) (s : State) (f' : LineFn) :
    (s.modChannel j g).level f' = s.level f' := by
  simp only [State.level, State.modChannel_lineOf, State.modChannel_line]
@[simp] theorem State.modChannel_closedHigh (j : ChannelIdx) (g : Channel → Channel) (s : State) (c' : ChuteIdx) :
    (s.modChannel j g).closedHigh c' = s.closedHigh c' := by
  simp only [State.closedHigh, State.modChannel_level]
@[simp] theorem State.modChannel_coversTip (j : ChannelIdx) (g : Channel → Channel) (s : State) (e' : EntryIdx) (t' : TipIdx) :
    (s.modChannel j g).coversTip e' t' = s.coversTip e' t' := by
  simp only [State.coversTip, State.modChannel_entry, State.modChannel_tip]
@[simp] theorem State.modChannel_coversChute (j : ChannelIdx) (g : Channel → Channel) (s : State) (e' : EntryIdx) (c' : ChuteIdx) :
    (s.modChannel j g).coversChute e' c' = s.coversChute e' c' := by
  simp only [State.coversChute, State.modChannel_entry, State.modChannel_chute]
@[simp] theorem State.modChannel_coversStation (j : ChannelIdx) (g : Channel → Channel) (s : State) (e' : EntryIdx) (k' : StationIdx) :
    (s.modChannel j g).coversStation e' k' = s.coversStation e' k' := by
  simp only [State.coversStation, State.modChannel_bst, State.modChannel_coversTip]
@[simp] theorem State.modChannel_carriesBreaker (j : ChannelIdx) (g : Channel → Channel) (s : State) (e' : EntryIdx) :
    (s.modChannel j g).carriesBreaker e' = s.carriesBreaker e' := by
  simp only [State.carriesBreaker, State.modChannel_entry]

theorem State.modChannel_channel (j : ChannelIdx) (g : Channel → Channel) (s : State) (i : ChannelIdx) :
    (s.modChannel j g).channel i = if i = j then g (s.channel j) else s.channel i := by
  simp only [State.modChannel, State.channel, Fin.getElem_fin, Vector.getElem_set, Fin.ext_iff, eq_comm]

@[simp] theorem State.modChannel_channel_self (j : ChannelIdx) (g : Channel → Channel) (s : State) : (s.modChannel j g).channel j = g (s.channel j) := by
  simp [State.modChannel_channel]

theorem State.modChannel_channel_ne (j : ChannelIdx) (g : Channel → Channel) (s : State) {i : ChannelIdx} (h : i ≠ j) :
    (s.modChannel j g).channel i = s.channel i := by
  simp [State.modChannel_channel, h]

/-! ## `State.modLine` -/

@[simp] theorem State.modLine_inReset (j : LineIdx) (g : Line → Line) (s : State) :
    (s.modLine j g).inReset = s.inReset := by unfold State.modLine; rfl
@[simp] theorem State.modLine_station (j : LineIdx) (g : Line → Line) (s : State) :
    (s.modLine j g).station = s.station := by unfold State.modLine; rfl
@[simp] theorem State.modLine_passes (j : LineIdx) (g : Line → Line) (s : State) :
    (s.modLine j g).passes = s.passes := by unfold State.modLine; rfl
@[simp] theorem State.modLine_tips (j : LineIdx) (g : Line → Line) (s : State) :
    (s.modLine j g).tips = s.tips := by unfold State.modLine; rfl
@[simp] theorem State.modLine_chutes (j : LineIdx) (g : Line → Line) (s : State) :
    (s.modLine j g).chutes = s.chutes := by unfold State.modLine; rfl
@[simp] theorem State.modLine_stations (j : LineIdx) (g : Line → Line) (s : State) :
    (s.modLine j g).stations = s.stations := by unfold State.modLine; rfl
@[simp] theorem State.modLine_breaker (j : LineIdx) (g : Line → Line) (s : State) :
    (s.modLine j g).breaker = s.breaker := by unfold State.modLine; rfl
@[simp] theorem State.modLine_entries (j : LineIdx) (g : Line → Line) (s : State) :
    (s.modLine j g).entries = s.entries := by unfold State.modLine; rfl
@[simp] theorem State.modLine_channels (j : LineIdx) (g : Line → Line) (s : State) :
    (s.modLine j g).channels = s.channels := by unfold State.modLine; rfl
@[simp] theorem State.modLine_scanner (j : LineIdx) (g : Line → Line) (s : State) :
    (s.modLine j g).scanner = s.scanner := by unfold State.modLine; rfl
@[simp] theorem State.modLine_debounce (j : LineIdx) (g : Line → Line) (s : State) :
    (s.modLine j g).debounce = s.debounce := by unfold State.modLine; rfl
@[simp] theorem State.modLine_link (j : LineIdx) (g : Line → Line) (s : State) :
    (s.modLine j g).link = s.link := by unfold State.modLine; rfl
@[simp] theorem State.modLine_attn (j : LineIdx) (g : Line → Line) (s : State) :
    (s.modLine j g).attn = s.attn := by unfold State.modLine; rfl
@[simp] theorem State.modLine_pending (j : LineIdx) (g : Line → Line) (s : State) :
    (s.modLine j g).pending = s.pending := by unfold State.modLine; rfl
@[simp] theorem State.modLine_pass (j : LineIdx) (g : Line → Line) (s : State) (i : PassIdx) :
    (s.modLine j g).pass i = s.pass i := by simp only [State.pass, State.modLine_passes]
@[simp] theorem State.modLine_tip (j : LineIdx) (g : Line → Line) (s : State) (i : TipIdx) :
    (s.modLine j g).tip i = s.tip i := by simp only [State.tip, State.modLine_tips]
@[simp] theorem State.modLine_chute (j : LineIdx) (g : Line → Line) (s : State) (i : ChuteIdx) :
    (s.modLine j g).chute i = s.chute i := by simp only [State.chute, State.modLine_chutes]
@[simp] theorem State.modLine_bst (j : LineIdx) (g : Line → Line) (s : State) (i : StationIdx) :
    (s.modLine j g).bst i = s.bst i := by simp only [State.bst, State.modLine_stations]
@[simp] theorem State.modLine_entry (j : LineIdx) (g : Line → Line) (s : State) (i : EntryIdx) :
    (s.modLine j g).entry i = s.entry i := by simp only [State.entry, State.modLine_entries]
@[simp] theorem State.modLine_channel (j : LineIdx) (g : Line → Line) (s : State) (i : ChannelIdx) :
    (s.modLine j g).channel i = s.channel i := by simp only [State.channel, State.modLine_channels]
@[simp] theorem State.modLine_bankTime (j : LineIdx) (g : Line → Line) (s : State) (i : BankIdx) :
    (s.modLine j g).bankTime i = s.bankTime i := by simp only [State.bankTime, State.modLine_debounce]
@[simp] theorem State.modLine_coversTip (j : LineIdx) (g : Line → Line) (s : State) (e' : EntryIdx) (t' : TipIdx) :
    (s.modLine j g).coversTip e' t' = s.coversTip e' t' := by
  simp only [State.coversTip, State.modLine_entry, State.modLine_tip]
@[simp] theorem State.modLine_coversChute (j : LineIdx) (g : Line → Line) (s : State) (e' : EntryIdx) (c' : ChuteIdx) :
    (s.modLine j g).coversChute e' c' = s.coversChute e' c' := by
  simp only [State.coversChute, State.modLine_entry, State.modLine_chute]
@[simp] theorem State.modLine_coversStation (j : LineIdx) (g : Line → Line) (s : State) (e' : EntryIdx) (k' : StationIdx) :
    (s.modLine j g).coversStation e' k' = s.coversStation e' k' := by
  simp only [State.coversStation, State.modLine_bst, State.modLine_coversTip]
@[simp] theorem State.modLine_carriesBreaker (j : LineIdx) (g : Line → Line) (s : State) (e' : EntryIdx) :
    (s.modLine j g).carriesBreaker e' = s.carriesBreaker e' := by
  simp only [State.carriesBreaker, State.modLine_entry]

theorem State.modLine_line (j : LineIdx) (g : Line → Line) (s : State) (i : LineIdx) :
    (s.modLine j g).line i = if i = j then g (s.line j) else s.line i := by
  simp only [State.modLine, State.line, Fin.getElem_fin, Vector.getElem_set, Fin.ext_iff, eq_comm]

@[simp] theorem State.modLine_line_self (j : LineIdx) (g : Line → Line) (s : State) : (s.modLine j g).line j = g (s.line j) := by
  simp [State.modLine_line]

theorem State.modLine_line_ne (j : LineIdx) (g : Line → Line) (s : State) {i : LineIdx} (h : i ≠ j) :
    (s.modLine j g).line i = s.line i := by
  simp [State.modLine_line, h]

/-! ## `State.modBreaker` -/

@[simp] theorem State.modBreaker_inReset (g : Breaker → Breaker) (s : State) :
    (s.modBreaker g).inReset = s.inReset := by unfold State.modBreaker; rfl
@[simp] theorem State.modBreaker_station (g : Breaker → Breaker) (s : State) :
    (s.modBreaker g).station = s.station := by unfold State.modBreaker; rfl
@[simp] theorem State.modBreaker_passes (g : Breaker → Breaker) (s : State) :
    (s.modBreaker g).passes = s.passes := by unfold State.modBreaker; rfl
@[simp] theorem State.modBreaker_tips (g : Breaker → Breaker) (s : State) :
    (s.modBreaker g).tips = s.tips := by unfold State.modBreaker; rfl
@[simp] theorem State.modBreaker_chutes (g : Breaker → Breaker) (s : State) :
    (s.modBreaker g).chutes = s.chutes := by unfold State.modBreaker; rfl
@[simp] theorem State.modBreaker_stations (g : Breaker → Breaker) (s : State) :
    (s.modBreaker g).stations = s.stations := by unfold State.modBreaker; rfl
@[simp] theorem State.modBreaker_entries (g : Breaker → Breaker) (s : State) :
    (s.modBreaker g).entries = s.entries := by unfold State.modBreaker; rfl
@[simp] theorem State.modBreaker_channels (g : Breaker → Breaker) (s : State) :
    (s.modBreaker g).channels = s.channels := by unfold State.modBreaker; rfl
@[simp] theorem State.modBreaker_scanner (g : Breaker → Breaker) (s : State) :
    (s.modBreaker g).scanner = s.scanner := by unfold State.modBreaker; rfl
@[simp] theorem State.modBreaker_lines (g : Breaker → Breaker) (s : State) :
    (s.modBreaker g).lines = s.lines := by unfold State.modBreaker; rfl
@[simp] theorem State.modBreaker_debounce (g : Breaker → Breaker) (s : State) :
    (s.modBreaker g).debounce = s.debounce := by unfold State.modBreaker; rfl
@[simp] theorem State.modBreaker_link (g : Breaker → Breaker) (s : State) :
    (s.modBreaker g).link = s.link := by unfold State.modBreaker; rfl
@[simp] theorem State.modBreaker_attn (g : Breaker → Breaker) (s : State) :
    (s.modBreaker g).attn = s.attn := by unfold State.modBreaker; rfl
@[simp] theorem State.modBreaker_pending (g : Breaker → Breaker) (s : State) :
    (s.modBreaker g).pending = s.pending := by unfold State.modBreaker; rfl
@[simp] theorem State.modBreaker_pass (g : Breaker → Breaker) (s : State) (i : PassIdx) :
    (s.modBreaker g).pass i = s.pass i := by simp only [State.pass, State.modBreaker_passes]
@[simp] theorem State.modBreaker_tip (g : Breaker → Breaker) (s : State) (i : TipIdx) :
    (s.modBreaker g).tip i = s.tip i := by simp only [State.tip, State.modBreaker_tips]
@[simp] theorem State.modBreaker_chute (g : Breaker → Breaker) (s : State) (i : ChuteIdx) :
    (s.modBreaker g).chute i = s.chute i := by simp only [State.chute, State.modBreaker_chutes]
@[simp] theorem State.modBreaker_bst (g : Breaker → Breaker) (s : State) (i : StationIdx) :
    (s.modBreaker g).bst i = s.bst i := by simp only [State.bst, State.modBreaker_stations]
@[simp] theorem State.modBreaker_entry (g : Breaker → Breaker) (s : State) (i : EntryIdx) :
    (s.modBreaker g).entry i = s.entry i := by simp only [State.entry, State.modBreaker_entries]
@[simp] theorem State.modBreaker_channel (g : Breaker → Breaker) (s : State) (i : ChannelIdx) :
    (s.modBreaker g).channel i = s.channel i := by simp only [State.channel, State.modBreaker_channels]
@[simp] theorem State.modBreaker_line (g : Breaker → Breaker) (s : State) (i : LineIdx) :
    (s.modBreaker g).line i = s.line i := by simp only [State.line, State.modBreaker_lines]
@[simp] theorem State.modBreaker_bankTime (g : Breaker → Breaker) (s : State) (i : BankIdx) :
    (s.modBreaker g).bankTime i = s.bankTime i := by simp only [State.bankTime, State.modBreaker_debounce]
@[simp] theorem State.modBreaker_lineOf (g : Breaker → Breaker) (s : State) (f' : LineFn) :
    (s.modBreaker g).lineOf f' = s.lineOf f' := by
  simp only [State.lineOf, State.modBreaker_line]
@[simp] theorem State.modBreaker_bound (g : Breaker → Breaker) (s : State) (f' : LineFn) :
    (s.modBreaker g).bound f' = s.bound f' := by
  simp only [State.bound, State.modBreaker_lineOf]
@[simp] theorem State.modBreaker_level (g : Breaker → Breaker) (s : State) (f' : LineFn) :
    (s.modBreaker g).level f' = s.level f' := by
  simp only [State.level, State.modBreaker_lineOf, State.modBreaker_line]
@[simp] theorem State.modBreaker_closedHigh (g : Breaker → Breaker) (s : State) (c' : ChuteIdx) :
    (s.modBreaker g).closedHigh c' = s.closedHigh c' := by
  simp only [State.closedHigh, State.modBreaker_level]
@[simp] theorem State.modBreaker_coversTip (g : Breaker → Breaker) (s : State) (e' : EntryIdx) (t' : TipIdx) :
    (s.modBreaker g).coversTip e' t' = s.coversTip e' t' := by
  simp only [State.coversTip, State.modBreaker_entry, State.modBreaker_tip]
@[simp] theorem State.modBreaker_coversChute (g : Breaker → Breaker) (s : State) (e' : EntryIdx) (c' : ChuteIdx) :
    (s.modBreaker g).coversChute e' c' = s.coversChute e' c' := by
  simp only [State.coversChute, State.modBreaker_entry, State.modBreaker_chute]
@[simp] theorem State.modBreaker_coversStation (g : Breaker → Breaker) (s : State) (e' : EntryIdx) (k' : StationIdx) :
    (s.modBreaker g).coversStation e' k' = s.coversStation e' k' := by
  simp only [State.coversStation, State.modBreaker_bst, State.modBreaker_coversTip]
@[simp] theorem State.modBreaker_carriesBreaker (g : Breaker → Breaker) (s : State) (e' : EntryIdx) :
    (s.modBreaker g).carriesBreaker e' = s.carriesBreaker e' := by
  simp only [State.carriesBreaker, State.modBreaker_entry]

@[simp] theorem State.modBreaker_breaker (g : Breaker → Breaker) (s : State) : (s.modBreaker g).breaker = g s.breaker := by unfold State.modBreaker; rfl

/-! ## `State.modStation` -/

@[simp] theorem State.modStation_inReset (g : StationControl → StationControl) (s : State) :
    (s.modStation g).inReset = s.inReset := by unfold State.modStation; rfl
@[simp] theorem State.modStation_passes (g : StationControl → StationControl) (s : State) :
    (s.modStation g).passes = s.passes := by unfold State.modStation; rfl
@[simp] theorem State.modStation_tips (g : StationControl → StationControl) (s : State) :
    (s.modStation g).tips = s.tips := by unfold State.modStation; rfl
@[simp] theorem State.modStation_chutes (g : StationControl → StationControl) (s : State) :
    (s.modStation g).chutes = s.chutes := by unfold State.modStation; rfl
@[simp] theorem State.modStation_stations (g : StationControl → StationControl) (s : State) :
    (s.modStation g).stations = s.stations := by unfold State.modStation; rfl
@[simp] theorem State.modStation_breaker (g : StationControl → StationControl) (s : State) :
    (s.modStation g).breaker = s.breaker := by unfold State.modStation; rfl
@[simp] theorem State.modStation_entries (g : StationControl → StationControl) (s : State) :
    (s.modStation g).entries = s.entries := by unfold State.modStation; rfl
@[simp] theorem State.modStation_channels (g : StationControl → StationControl) (s : State) :
    (s.modStation g).channels = s.channels := by unfold State.modStation; rfl
@[simp] theorem State.modStation_scanner (g : StationControl → StationControl) (s : State) :
    (s.modStation g).scanner = s.scanner := by unfold State.modStation; rfl
@[simp] theorem State.modStation_lines (g : StationControl → StationControl) (s : State) :
    (s.modStation g).lines = s.lines := by unfold State.modStation; rfl
@[simp] theorem State.modStation_debounce (g : StationControl → StationControl) (s : State) :
    (s.modStation g).debounce = s.debounce := by unfold State.modStation; rfl
@[simp] theorem State.modStation_link (g : StationControl → StationControl) (s : State) :
    (s.modStation g).link = s.link := by unfold State.modStation; rfl
@[simp] theorem State.modStation_attn (g : StationControl → StationControl) (s : State) :
    (s.modStation g).attn = s.attn := by unfold State.modStation; rfl
@[simp] theorem State.modStation_pending (g : StationControl → StationControl) (s : State) :
    (s.modStation g).pending = s.pending := by unfold State.modStation; rfl
@[simp] theorem State.modStation_pass (g : StationControl → StationControl) (s : State) (i : PassIdx) :
    (s.modStation g).pass i = s.pass i := by simp only [State.pass, State.modStation_passes]
@[simp] theorem State.modStation_tip (g : StationControl → StationControl) (s : State) (i : TipIdx) :
    (s.modStation g).tip i = s.tip i := by simp only [State.tip, State.modStation_tips]
@[simp] theorem State.modStation_chute (g : StationControl → StationControl) (s : State) (i : ChuteIdx) :
    (s.modStation g).chute i = s.chute i := by simp only [State.chute, State.modStation_chutes]
@[simp] theorem State.modStation_bst (g : StationControl → StationControl) (s : State) (i : StationIdx) :
    (s.modStation g).bst i = s.bst i := by simp only [State.bst, State.modStation_stations]
@[simp] theorem State.modStation_entry (g : StationControl → StationControl) (s : State) (i : EntryIdx) :
    (s.modStation g).entry i = s.entry i := by simp only [State.entry, State.modStation_entries]
@[simp] theorem State.modStation_channel (g : StationControl → StationControl) (s : State) (i : ChannelIdx) :
    (s.modStation g).channel i = s.channel i := by simp only [State.channel, State.modStation_channels]
@[simp] theorem State.modStation_line (g : StationControl → StationControl) (s : State) (i : LineIdx) :
    (s.modStation g).line i = s.line i := by simp only [State.line, State.modStation_lines]
@[simp] theorem State.modStation_bankTime (g : StationControl → StationControl) (s : State) (i : BankIdx) :
    (s.modStation g).bankTime i = s.bankTime i := by simp only [State.bankTime, State.modStation_debounce]
@[simp] theorem State.modStation_lineOf (g : StationControl → StationControl) (s : State) (f' : LineFn) :
    (s.modStation g).lineOf f' = s.lineOf f' := by
  simp only [State.lineOf, State.modStation_line]
@[simp] theorem State.modStation_bound (g : StationControl → StationControl) (s : State) (f' : LineFn) :
    (s.modStation g).bound f' = s.bound f' := by
  simp only [State.bound, State.modStation_lineOf]
@[simp] theorem State.modStation_level (g : StationControl → StationControl) (s : State) (f' : LineFn) :
    (s.modStation g).level f' = s.level f' := by
  simp only [State.level, State.modStation_lineOf, State.modStation_line]
@[simp] theorem State.modStation_closedHigh (g : StationControl → StationControl) (s : State) (c' : ChuteIdx) :
    (s.modStation g).closedHigh c' = s.closedHigh c' := by
  simp only [State.closedHigh, State.modStation_level]
@[simp] theorem State.modStation_coversTip (g : StationControl → StationControl) (s : State) (e' : EntryIdx) (t' : TipIdx) :
    (s.modStation g).coversTip e' t' = s.coversTip e' t' := by
  simp only [State.coversTip, State.modStation_entry, State.modStation_tip]
@[simp] theorem State.modStation_coversChute (g : StationControl → StationControl) (s : State) (e' : EntryIdx) (c' : ChuteIdx) :
    (s.modStation g).coversChute e' c' = s.coversChute e' c' := by
  simp only [State.coversChute, State.modStation_entry, State.modStation_chute]
@[simp] theorem State.modStation_coversStation (g : StationControl → StationControl) (s : State) (e' : EntryIdx) (k' : StationIdx) :
    (s.modStation g).coversStation e' k' = s.coversStation e' k' := by
  simp only [State.coversStation, State.modStation_bst, State.modStation_coversTip]
@[simp] theorem State.modStation_carriesBreaker (g : StationControl → StationControl) (s : State) (e' : EntryIdx) :
    (s.modStation g).carriesBreaker e' = s.carriesBreaker e' := by
  simp only [State.carriesBreaker, State.modStation_entry]

@[simp] theorem State.modStation_station (g : StationControl → StationControl) (s : State) : (s.modStation g).station = g s.station := by unfold State.modStation; rfl

/-! ## `State.modLink` -/

@[simp] theorem State.modLink_inReset (g : Link → Link) (s : State) :
    (s.modLink g).inReset = s.inReset := by unfold State.modLink; rfl
@[simp] theorem State.modLink_station (g : Link → Link) (s : State) :
    (s.modLink g).station = s.station := by unfold State.modLink; rfl
@[simp] theorem State.modLink_passes (g : Link → Link) (s : State) :
    (s.modLink g).passes = s.passes := by unfold State.modLink; rfl
@[simp] theorem State.modLink_tips (g : Link → Link) (s : State) :
    (s.modLink g).tips = s.tips := by unfold State.modLink; rfl
@[simp] theorem State.modLink_chutes (g : Link → Link) (s : State) :
    (s.modLink g).chutes = s.chutes := by unfold State.modLink; rfl
@[simp] theorem State.modLink_stations (g : Link → Link) (s : State) :
    (s.modLink g).stations = s.stations := by unfold State.modLink; rfl
@[simp] theorem State.modLink_breaker (g : Link → Link) (s : State) :
    (s.modLink g).breaker = s.breaker := by unfold State.modLink; rfl
@[simp] theorem State.modLink_entries (g : Link → Link) (s : State) :
    (s.modLink g).entries = s.entries := by unfold State.modLink; rfl
@[simp] theorem State.modLink_channels (g : Link → Link) (s : State) :
    (s.modLink g).channels = s.channels := by unfold State.modLink; rfl
@[simp] theorem State.modLink_scanner (g : Link → Link) (s : State) :
    (s.modLink g).scanner = s.scanner := by unfold State.modLink; rfl
@[simp] theorem State.modLink_lines (g : Link → Link) (s : State) :
    (s.modLink g).lines = s.lines := by unfold State.modLink; rfl
@[simp] theorem State.modLink_debounce (g : Link → Link) (s : State) :
    (s.modLink g).debounce = s.debounce := by unfold State.modLink; rfl
@[simp] theorem State.modLink_attn (g : Link → Link) (s : State) :
    (s.modLink g).attn = s.attn := by unfold State.modLink; rfl
@[simp] theorem State.modLink_pending (g : Link → Link) (s : State) :
    (s.modLink g).pending = s.pending := by unfold State.modLink; rfl
@[simp] theorem State.modLink_pass (g : Link → Link) (s : State) (i : PassIdx) :
    (s.modLink g).pass i = s.pass i := by simp only [State.pass, State.modLink_passes]
@[simp] theorem State.modLink_tip (g : Link → Link) (s : State) (i : TipIdx) :
    (s.modLink g).tip i = s.tip i := by simp only [State.tip, State.modLink_tips]
@[simp] theorem State.modLink_chute (g : Link → Link) (s : State) (i : ChuteIdx) :
    (s.modLink g).chute i = s.chute i := by simp only [State.chute, State.modLink_chutes]
@[simp] theorem State.modLink_bst (g : Link → Link) (s : State) (i : StationIdx) :
    (s.modLink g).bst i = s.bst i := by simp only [State.bst, State.modLink_stations]
@[simp] theorem State.modLink_entry (g : Link → Link) (s : State) (i : EntryIdx) :
    (s.modLink g).entry i = s.entry i := by simp only [State.entry, State.modLink_entries]
@[simp] theorem State.modLink_channel (g : Link → Link) (s : State) (i : ChannelIdx) :
    (s.modLink g).channel i = s.channel i := by simp only [State.channel, State.modLink_channels]
@[simp] theorem State.modLink_line (g : Link → Link) (s : State) (i : LineIdx) :
    (s.modLink g).line i = s.line i := by simp only [State.line, State.modLink_lines]
@[simp] theorem State.modLink_bankTime (g : Link → Link) (s : State) (i : BankIdx) :
    (s.modLink g).bankTime i = s.bankTime i := by simp only [State.bankTime, State.modLink_debounce]
@[simp] theorem State.modLink_lineOf (g : Link → Link) (s : State) (f' : LineFn) :
    (s.modLink g).lineOf f' = s.lineOf f' := by
  simp only [State.lineOf, State.modLink_line]
@[simp] theorem State.modLink_bound (g : Link → Link) (s : State) (f' : LineFn) :
    (s.modLink g).bound f' = s.bound f' := by
  simp only [State.bound, State.modLink_lineOf]
@[simp] theorem State.modLink_level (g : Link → Link) (s : State) (f' : LineFn) :
    (s.modLink g).level f' = s.level f' := by
  simp only [State.level, State.modLink_lineOf, State.modLink_line]
@[simp] theorem State.modLink_closedHigh (g : Link → Link) (s : State) (c' : ChuteIdx) :
    (s.modLink g).closedHigh c' = s.closedHigh c' := by
  simp only [State.closedHigh, State.modLink_level]
@[simp] theorem State.modLink_coversTip (g : Link → Link) (s : State) (e' : EntryIdx) (t' : TipIdx) :
    (s.modLink g).coversTip e' t' = s.coversTip e' t' := by
  simp only [State.coversTip, State.modLink_entry, State.modLink_tip]
@[simp] theorem State.modLink_coversChute (g : Link → Link) (s : State) (e' : EntryIdx) (c' : ChuteIdx) :
    (s.modLink g).coversChute e' c' = s.coversChute e' c' := by
  simp only [State.coversChute, State.modLink_entry, State.modLink_chute]
@[simp] theorem State.modLink_coversStation (g : Link → Link) (s : State) (e' : EntryIdx) (k' : StationIdx) :
    (s.modLink g).coversStation e' k' = s.coversStation e' k' := by
  simp only [State.coversStation, State.modLink_bst, State.modLink_coversTip]
@[simp] theorem State.modLink_carriesBreaker (g : Link → Link) (s : State) (e' : EntryIdx) :
    (s.modLink g).carriesBreaker e' = s.carriesBreaker e' := by
  simp only [State.carriesBreaker, State.modLink_entry]

@[simp] theorem State.modLink_link (g : Link → Link) (s : State) : (s.modLink g).link = g s.link := by unfold State.modLink; rfl

/-! ## `State.mapPasses` -/

@[simp] theorem State.mapPasses_inReset (g : PassIdx → Pass → Pass) (s : State) :
    (s.mapPasses g).inReset = s.inReset := by unfold State.mapPasses; rfl
@[simp] theorem State.mapPasses_station (g : PassIdx → Pass → Pass) (s : State) :
    (s.mapPasses g).station = s.station := by unfold State.mapPasses; rfl
@[simp] theorem State.mapPasses_tips (g : PassIdx → Pass → Pass) (s : State) :
    (s.mapPasses g).tips = s.tips := by unfold State.mapPasses; rfl
@[simp] theorem State.mapPasses_chutes (g : PassIdx → Pass → Pass) (s : State) :
    (s.mapPasses g).chutes = s.chutes := by unfold State.mapPasses; rfl
@[simp] theorem State.mapPasses_stations (g : PassIdx → Pass → Pass) (s : State) :
    (s.mapPasses g).stations = s.stations := by unfold State.mapPasses; rfl
@[simp] theorem State.mapPasses_breaker (g : PassIdx → Pass → Pass) (s : State) :
    (s.mapPasses g).breaker = s.breaker := by unfold State.mapPasses; rfl
@[simp] theorem State.mapPasses_entries (g : PassIdx → Pass → Pass) (s : State) :
    (s.mapPasses g).entries = s.entries := by unfold State.mapPasses; rfl
@[simp] theorem State.mapPasses_channels (g : PassIdx → Pass → Pass) (s : State) :
    (s.mapPasses g).channels = s.channels := by unfold State.mapPasses; rfl
@[simp] theorem State.mapPasses_scanner (g : PassIdx → Pass → Pass) (s : State) :
    (s.mapPasses g).scanner = s.scanner := by unfold State.mapPasses; rfl
@[simp] theorem State.mapPasses_lines (g : PassIdx → Pass → Pass) (s : State) :
    (s.mapPasses g).lines = s.lines := by unfold State.mapPasses; rfl
@[simp] theorem State.mapPasses_debounce (g : PassIdx → Pass → Pass) (s : State) :
    (s.mapPasses g).debounce = s.debounce := by unfold State.mapPasses; rfl
@[simp] theorem State.mapPasses_link (g : PassIdx → Pass → Pass) (s : State) :
    (s.mapPasses g).link = s.link := by unfold State.mapPasses; rfl
@[simp] theorem State.mapPasses_attn (g : PassIdx → Pass → Pass) (s : State) :
    (s.mapPasses g).attn = s.attn := by unfold State.mapPasses; rfl
@[simp] theorem State.mapPasses_pending (g : PassIdx → Pass → Pass) (s : State) :
    (s.mapPasses g).pending = s.pending := by unfold State.mapPasses; rfl
@[simp] theorem State.mapPasses_tip (g : PassIdx → Pass → Pass) (s : State) (i : TipIdx) :
    (s.mapPasses g).tip i = s.tip i := by simp only [State.tip, State.mapPasses_tips]
@[simp] theorem State.mapPasses_chute (g : PassIdx → Pass → Pass) (s : State) (i : ChuteIdx) :
    (s.mapPasses g).chute i = s.chute i := by simp only [State.chute, State.mapPasses_chutes]
@[simp] theorem State.mapPasses_bst (g : PassIdx → Pass → Pass) (s : State) (i : StationIdx) :
    (s.mapPasses g).bst i = s.bst i := by simp only [State.bst, State.mapPasses_stations]
@[simp] theorem State.mapPasses_entry (g : PassIdx → Pass → Pass) (s : State) (i : EntryIdx) :
    (s.mapPasses g).entry i = s.entry i := by simp only [State.entry, State.mapPasses_entries]
@[simp] theorem State.mapPasses_channel (g : PassIdx → Pass → Pass) (s : State) (i : ChannelIdx) :
    (s.mapPasses g).channel i = s.channel i := by simp only [State.channel, State.mapPasses_channels]
@[simp] theorem State.mapPasses_line (g : PassIdx → Pass → Pass) (s : State) (i : LineIdx) :
    (s.mapPasses g).line i = s.line i := by simp only [State.line, State.mapPasses_lines]
@[simp] theorem State.mapPasses_bankTime (g : PassIdx → Pass → Pass) (s : State) (i : BankIdx) :
    (s.mapPasses g).bankTime i = s.bankTime i := by simp only [State.bankTime, State.mapPasses_debounce]
@[simp] theorem State.mapPasses_lineOf (g : PassIdx → Pass → Pass) (s : State) (f' : LineFn) :
    (s.mapPasses g).lineOf f' = s.lineOf f' := by
  simp only [State.lineOf, State.mapPasses_line]
@[simp] theorem State.mapPasses_bound (g : PassIdx → Pass → Pass) (s : State) (f' : LineFn) :
    (s.mapPasses g).bound f' = s.bound f' := by
  simp only [State.bound, State.mapPasses_lineOf]
@[simp] theorem State.mapPasses_level (g : PassIdx → Pass → Pass) (s : State) (f' : LineFn) :
    (s.mapPasses g).level f' = s.level f' := by
  simp only [State.level, State.mapPasses_lineOf, State.mapPasses_line]
@[simp] theorem State.mapPasses_closedHigh (g : PassIdx → Pass → Pass) (s : State) (c' : ChuteIdx) :
    (s.mapPasses g).closedHigh c' = s.closedHigh c' := by
  simp only [State.closedHigh, State.mapPasses_level]
@[simp] theorem State.mapPasses_coversTip (g : PassIdx → Pass → Pass) (s : State) (e' : EntryIdx) (t' : TipIdx) :
    (s.mapPasses g).coversTip e' t' = s.coversTip e' t' := by
  simp only [State.coversTip, State.mapPasses_entry, State.mapPasses_tip]
@[simp] theorem State.mapPasses_coversChute (g : PassIdx → Pass → Pass) (s : State) (e' : EntryIdx) (c' : ChuteIdx) :
    (s.mapPasses g).coversChute e' c' = s.coversChute e' c' := by
  simp only [State.coversChute, State.mapPasses_entry, State.mapPasses_chute]
@[simp] theorem State.mapPasses_coversStation (g : PassIdx → Pass → Pass) (s : State) (e' : EntryIdx) (k' : StationIdx) :
    (s.mapPasses g).coversStation e' k' = s.coversStation e' k' := by
  simp only [State.coversStation, State.mapPasses_bst, State.mapPasses_coversTip]
@[simp] theorem State.mapPasses_carriesBreaker (g : PassIdx → Pass → Pass) (s : State) (e' : EntryIdx) :
    (s.mapPasses g).carriesBreaker e' = s.carriesBreaker e' := by
  simp only [State.carriesBreaker, State.mapPasses_entry]

@[simp] theorem State.mapPasses_pass (g : PassIdx → Pass → Pass) (s : State) (i : PassIdx) :
    (s.mapPasses g).pass i = g i (s.pass i) := by
  simp [State.mapPasses, State.pass]

/-! ## `State.mapTips` -/

@[simp] theorem State.mapTips_inReset (g : TipIdx → Tip → Tip) (s : State) :
    (s.mapTips g).inReset = s.inReset := by unfold State.mapTips; rfl
@[simp] theorem State.mapTips_station (g : TipIdx → Tip → Tip) (s : State) :
    (s.mapTips g).station = s.station := by unfold State.mapTips; rfl
@[simp] theorem State.mapTips_passes (g : TipIdx → Tip → Tip) (s : State) :
    (s.mapTips g).passes = s.passes := by unfold State.mapTips; rfl
@[simp] theorem State.mapTips_chutes (g : TipIdx → Tip → Tip) (s : State) :
    (s.mapTips g).chutes = s.chutes := by unfold State.mapTips; rfl
@[simp] theorem State.mapTips_stations (g : TipIdx → Tip → Tip) (s : State) :
    (s.mapTips g).stations = s.stations := by unfold State.mapTips; rfl
@[simp] theorem State.mapTips_breaker (g : TipIdx → Tip → Tip) (s : State) :
    (s.mapTips g).breaker = s.breaker := by unfold State.mapTips; rfl
@[simp] theorem State.mapTips_entries (g : TipIdx → Tip → Tip) (s : State) :
    (s.mapTips g).entries = s.entries := by unfold State.mapTips; rfl
@[simp] theorem State.mapTips_channels (g : TipIdx → Tip → Tip) (s : State) :
    (s.mapTips g).channels = s.channels := by unfold State.mapTips; rfl
@[simp] theorem State.mapTips_scanner (g : TipIdx → Tip → Tip) (s : State) :
    (s.mapTips g).scanner = s.scanner := by unfold State.mapTips; rfl
@[simp] theorem State.mapTips_lines (g : TipIdx → Tip → Tip) (s : State) :
    (s.mapTips g).lines = s.lines := by unfold State.mapTips; rfl
@[simp] theorem State.mapTips_debounce (g : TipIdx → Tip → Tip) (s : State) :
    (s.mapTips g).debounce = s.debounce := by unfold State.mapTips; rfl
@[simp] theorem State.mapTips_link (g : TipIdx → Tip → Tip) (s : State) :
    (s.mapTips g).link = s.link := by unfold State.mapTips; rfl
@[simp] theorem State.mapTips_attn (g : TipIdx → Tip → Tip) (s : State) :
    (s.mapTips g).attn = s.attn := by unfold State.mapTips; rfl
@[simp] theorem State.mapTips_pending (g : TipIdx → Tip → Tip) (s : State) :
    (s.mapTips g).pending = s.pending := by unfold State.mapTips; rfl
@[simp] theorem State.mapTips_pass (g : TipIdx → Tip → Tip) (s : State) (i : PassIdx) :
    (s.mapTips g).pass i = s.pass i := by simp only [State.pass, State.mapTips_passes]
@[simp] theorem State.mapTips_chute (g : TipIdx → Tip → Tip) (s : State) (i : ChuteIdx) :
    (s.mapTips g).chute i = s.chute i := by simp only [State.chute, State.mapTips_chutes]
@[simp] theorem State.mapTips_bst (g : TipIdx → Tip → Tip) (s : State) (i : StationIdx) :
    (s.mapTips g).bst i = s.bst i := by simp only [State.bst, State.mapTips_stations]
@[simp] theorem State.mapTips_entry (g : TipIdx → Tip → Tip) (s : State) (i : EntryIdx) :
    (s.mapTips g).entry i = s.entry i := by simp only [State.entry, State.mapTips_entries]
@[simp] theorem State.mapTips_channel (g : TipIdx → Tip → Tip) (s : State) (i : ChannelIdx) :
    (s.mapTips g).channel i = s.channel i := by simp only [State.channel, State.mapTips_channels]
@[simp] theorem State.mapTips_line (g : TipIdx → Tip → Tip) (s : State) (i : LineIdx) :
    (s.mapTips g).line i = s.line i := by simp only [State.line, State.mapTips_lines]
@[simp] theorem State.mapTips_bankTime (g : TipIdx → Tip → Tip) (s : State) (i : BankIdx) :
    (s.mapTips g).bankTime i = s.bankTime i := by simp only [State.bankTime, State.mapTips_debounce]
@[simp] theorem State.mapTips_lineOf (g : TipIdx → Tip → Tip) (s : State) (f' : LineFn) :
    (s.mapTips g).lineOf f' = s.lineOf f' := by
  simp only [State.lineOf, State.mapTips_line]
@[simp] theorem State.mapTips_bound (g : TipIdx → Tip → Tip) (s : State) (f' : LineFn) :
    (s.mapTips g).bound f' = s.bound f' := by
  simp only [State.bound, State.mapTips_lineOf]
@[simp] theorem State.mapTips_level (g : TipIdx → Tip → Tip) (s : State) (f' : LineFn) :
    (s.mapTips g).level f' = s.level f' := by
  simp only [State.level, State.mapTips_lineOf, State.mapTips_line]
@[simp] theorem State.mapTips_closedHigh (g : TipIdx → Tip → Tip) (s : State) (c' : ChuteIdx) :
    (s.mapTips g).closedHigh c' = s.closedHigh c' := by
  simp only [State.closedHigh, State.mapTips_level]
@[simp] theorem State.mapTips_coversChute (g : TipIdx → Tip → Tip) (s : State) (e' : EntryIdx) (c' : ChuteIdx) :
    (s.mapTips g).coversChute e' c' = s.coversChute e' c' := by
  simp only [State.coversChute, State.mapTips_entry, State.mapTips_chute]
@[simp] theorem State.mapTips_carriesBreaker (g : TipIdx → Tip → Tip) (s : State) (e' : EntryIdx) :
    (s.mapTips g).carriesBreaker e' = s.carriesBreaker e' := by
  simp only [State.carriesBreaker, State.mapTips_entry]

@[simp] theorem State.mapTips_tip (g : TipIdx → Tip → Tip) (s : State) (i : TipIdx) :
    (s.mapTips g).tip i = g i (s.tip i) := by
  simp [State.mapTips, State.tip]

/-! ## `State.mapChutes` -/

@[simp] theorem State.mapChutes_inReset (g : ChuteIdx → Chute → Chute) (s : State) :
    (s.mapChutes g).inReset = s.inReset := by unfold State.mapChutes; rfl
@[simp] theorem State.mapChutes_station (g : ChuteIdx → Chute → Chute) (s : State) :
    (s.mapChutes g).station = s.station := by unfold State.mapChutes; rfl
@[simp] theorem State.mapChutes_passes (g : ChuteIdx → Chute → Chute) (s : State) :
    (s.mapChutes g).passes = s.passes := by unfold State.mapChutes; rfl
@[simp] theorem State.mapChutes_tips (g : ChuteIdx → Chute → Chute) (s : State) :
    (s.mapChutes g).tips = s.tips := by unfold State.mapChutes; rfl
@[simp] theorem State.mapChutes_stations (g : ChuteIdx → Chute → Chute) (s : State) :
    (s.mapChutes g).stations = s.stations := by unfold State.mapChutes; rfl
@[simp] theorem State.mapChutes_breaker (g : ChuteIdx → Chute → Chute) (s : State) :
    (s.mapChutes g).breaker = s.breaker := by unfold State.mapChutes; rfl
@[simp] theorem State.mapChutes_entries (g : ChuteIdx → Chute → Chute) (s : State) :
    (s.mapChutes g).entries = s.entries := by unfold State.mapChutes; rfl
@[simp] theorem State.mapChutes_channels (g : ChuteIdx → Chute → Chute) (s : State) :
    (s.mapChutes g).channels = s.channels := by unfold State.mapChutes; rfl
@[simp] theorem State.mapChutes_scanner (g : ChuteIdx → Chute → Chute) (s : State) :
    (s.mapChutes g).scanner = s.scanner := by unfold State.mapChutes; rfl
@[simp] theorem State.mapChutes_lines (g : ChuteIdx → Chute → Chute) (s : State) :
    (s.mapChutes g).lines = s.lines := by unfold State.mapChutes; rfl
@[simp] theorem State.mapChutes_debounce (g : ChuteIdx → Chute → Chute) (s : State) :
    (s.mapChutes g).debounce = s.debounce := by unfold State.mapChutes; rfl
@[simp] theorem State.mapChutes_link (g : ChuteIdx → Chute → Chute) (s : State) :
    (s.mapChutes g).link = s.link := by unfold State.mapChutes; rfl
@[simp] theorem State.mapChutes_attn (g : ChuteIdx → Chute → Chute) (s : State) :
    (s.mapChutes g).attn = s.attn := by unfold State.mapChutes; rfl
@[simp] theorem State.mapChutes_pending (g : ChuteIdx → Chute → Chute) (s : State) :
    (s.mapChutes g).pending = s.pending := by unfold State.mapChutes; rfl
@[simp] theorem State.mapChutes_pass (g : ChuteIdx → Chute → Chute) (s : State) (i : PassIdx) :
    (s.mapChutes g).pass i = s.pass i := by simp only [State.pass, State.mapChutes_passes]
@[simp] theorem State.mapChutes_tip (g : ChuteIdx → Chute → Chute) (s : State) (i : TipIdx) :
    (s.mapChutes g).tip i = s.tip i := by simp only [State.tip, State.mapChutes_tips]
@[simp] theorem State.mapChutes_bst (g : ChuteIdx → Chute → Chute) (s : State) (i : StationIdx) :
    (s.mapChutes g).bst i = s.bst i := by simp only [State.bst, State.mapChutes_stations]
@[simp] theorem State.mapChutes_entry (g : ChuteIdx → Chute → Chute) (s : State) (i : EntryIdx) :
    (s.mapChutes g).entry i = s.entry i := by simp only [State.entry, State.mapChutes_entries]
@[simp] theorem State.mapChutes_channel (g : ChuteIdx → Chute → Chute) (s : State) (i : ChannelIdx) :
    (s.mapChutes g).channel i = s.channel i := by simp only [State.channel, State.mapChutes_channels]
@[simp] theorem State.mapChutes_line (g : ChuteIdx → Chute → Chute) (s : State) (i : LineIdx) :
    (s.mapChutes g).line i = s.line i := by simp only [State.line, State.mapChutes_lines]
@[simp] theorem State.mapChutes_bankTime (g : ChuteIdx → Chute → Chute) (s : State) (i : BankIdx) :
    (s.mapChutes g).bankTime i = s.bankTime i := by simp only [State.bankTime, State.mapChutes_debounce]
@[simp] theorem State.mapChutes_lineOf (g : ChuteIdx → Chute → Chute) (s : State) (f' : LineFn) :
    (s.mapChutes g).lineOf f' = s.lineOf f' := by
  simp only [State.lineOf, State.mapChutes_line]
@[simp] theorem State.mapChutes_bound (g : ChuteIdx → Chute → Chute) (s : State) (f' : LineFn) :
    (s.mapChutes g).bound f' = s.bound f' := by
  simp only [State.bound, State.mapChutes_lineOf]
@[simp] theorem State.mapChutes_level (g : ChuteIdx → Chute → Chute) (s : State) (f' : LineFn) :
    (s.mapChutes g).level f' = s.level f' := by
  simp only [State.level, State.mapChutes_lineOf, State.mapChutes_line]
@[simp] theorem State.mapChutes_closedHigh (g : ChuteIdx → Chute → Chute) (s : State) (c' : ChuteIdx) :
    (s.mapChutes g).closedHigh c' = s.closedHigh c' := by
  simp only [State.closedHigh, State.mapChutes_level]
@[simp] theorem State.mapChutes_coversTip (g : ChuteIdx → Chute → Chute) (s : State) (e' : EntryIdx) (t' : TipIdx) :
    (s.mapChutes g).coversTip e' t' = s.coversTip e' t' := by
  simp only [State.coversTip, State.mapChutes_entry, State.mapChutes_tip]
@[simp] theorem State.mapChutes_coversStation (g : ChuteIdx → Chute → Chute) (s : State) (e' : EntryIdx) (k' : StationIdx) :
    (s.mapChutes g).coversStation e' k' = s.coversStation e' k' := by
  simp only [State.coversStation, State.mapChutes_bst, State.mapChutes_coversTip]
@[simp] theorem State.mapChutes_carriesBreaker (g : ChuteIdx → Chute → Chute) (s : State) (e' : EntryIdx) :
    (s.mapChutes g).carriesBreaker e' = s.carriesBreaker e' := by
  simp only [State.carriesBreaker, State.mapChutes_entry]

@[simp] theorem State.mapChutes_chute (g : ChuteIdx → Chute → Chute) (s : State) (i : ChuteIdx) :
    (s.mapChutes g).chute i = g i (s.chute i) := by
  simp [State.mapChutes, State.chute]

/-! ## `State.mapEntries` -/

@[simp] theorem State.mapEntries_inReset (g : EntryIdx → Entry → Entry) (s : State) :
    (s.mapEntries g).inReset = s.inReset := by unfold State.mapEntries; rfl
@[simp] theorem State.mapEntries_station (g : EntryIdx → Entry → Entry) (s : State) :
    (s.mapEntries g).station = s.station := by unfold State.mapEntries; rfl
@[simp] theorem State.mapEntries_passes (g : EntryIdx → Entry → Entry) (s : State) :
    (s.mapEntries g).passes = s.passes := by unfold State.mapEntries; rfl
@[simp] theorem State.mapEntries_tips (g : EntryIdx → Entry → Entry) (s : State) :
    (s.mapEntries g).tips = s.tips := by unfold State.mapEntries; rfl
@[simp] theorem State.mapEntries_chutes (g : EntryIdx → Entry → Entry) (s : State) :
    (s.mapEntries g).chutes = s.chutes := by unfold State.mapEntries; rfl
@[simp] theorem State.mapEntries_stations (g : EntryIdx → Entry → Entry) (s : State) :
    (s.mapEntries g).stations = s.stations := by unfold State.mapEntries; rfl
@[simp] theorem State.mapEntries_breaker (g : EntryIdx → Entry → Entry) (s : State) :
    (s.mapEntries g).breaker = s.breaker := by unfold State.mapEntries; rfl
@[simp] theorem State.mapEntries_channels (g : EntryIdx → Entry → Entry) (s : State) :
    (s.mapEntries g).channels = s.channels := by unfold State.mapEntries; rfl
@[simp] theorem State.mapEntries_scanner (g : EntryIdx → Entry → Entry) (s : State) :
    (s.mapEntries g).scanner = s.scanner := by unfold State.mapEntries; rfl
@[simp] theorem State.mapEntries_lines (g : EntryIdx → Entry → Entry) (s : State) :
    (s.mapEntries g).lines = s.lines := by unfold State.mapEntries; rfl
@[simp] theorem State.mapEntries_debounce (g : EntryIdx → Entry → Entry) (s : State) :
    (s.mapEntries g).debounce = s.debounce := by unfold State.mapEntries; rfl
@[simp] theorem State.mapEntries_link (g : EntryIdx → Entry → Entry) (s : State) :
    (s.mapEntries g).link = s.link := by unfold State.mapEntries; rfl
@[simp] theorem State.mapEntries_attn (g : EntryIdx → Entry → Entry) (s : State) :
    (s.mapEntries g).attn = s.attn := by unfold State.mapEntries; rfl
@[simp] theorem State.mapEntries_pending (g : EntryIdx → Entry → Entry) (s : State) :
    (s.mapEntries g).pending = s.pending := by unfold State.mapEntries; rfl
@[simp] theorem State.mapEntries_pass (g : EntryIdx → Entry → Entry) (s : State) (i : PassIdx) :
    (s.mapEntries g).pass i = s.pass i := by simp only [State.pass, State.mapEntries_passes]
@[simp] theorem State.mapEntries_tip (g : EntryIdx → Entry → Entry) (s : State) (i : TipIdx) :
    (s.mapEntries g).tip i = s.tip i := by simp only [State.tip, State.mapEntries_tips]
@[simp] theorem State.mapEntries_chute (g : EntryIdx → Entry → Entry) (s : State) (i : ChuteIdx) :
    (s.mapEntries g).chute i = s.chute i := by simp only [State.chute, State.mapEntries_chutes]
@[simp] theorem State.mapEntries_bst (g : EntryIdx → Entry → Entry) (s : State) (i : StationIdx) :
    (s.mapEntries g).bst i = s.bst i := by simp only [State.bst, State.mapEntries_stations]
@[simp] theorem State.mapEntries_channel (g : EntryIdx → Entry → Entry) (s : State) (i : ChannelIdx) :
    (s.mapEntries g).channel i = s.channel i := by simp only [State.channel, State.mapEntries_channels]
@[simp] theorem State.mapEntries_line (g : EntryIdx → Entry → Entry) (s : State) (i : LineIdx) :
    (s.mapEntries g).line i = s.line i := by simp only [State.line, State.mapEntries_lines]
@[simp] theorem State.mapEntries_bankTime (g : EntryIdx → Entry → Entry) (s : State) (i : BankIdx) :
    (s.mapEntries g).bankTime i = s.bankTime i := by simp only [State.bankTime, State.mapEntries_debounce]
@[simp] theorem State.mapEntries_lineOf (g : EntryIdx → Entry → Entry) (s : State) (f' : LineFn) :
    (s.mapEntries g).lineOf f' = s.lineOf f' := by
  simp only [State.lineOf, State.mapEntries_line]
@[simp] theorem State.mapEntries_bound (g : EntryIdx → Entry → Entry) (s : State) (f' : LineFn) :
    (s.mapEntries g).bound f' = s.bound f' := by
  simp only [State.bound, State.mapEntries_lineOf]
@[simp] theorem State.mapEntries_level (g : EntryIdx → Entry → Entry) (s : State) (f' : LineFn) :
    (s.mapEntries g).level f' = s.level f' := by
  simp only [State.level, State.mapEntries_lineOf, State.mapEntries_line]
@[simp] theorem State.mapEntries_closedHigh (g : EntryIdx → Entry → Entry) (s : State) (c' : ChuteIdx) :
    (s.mapEntries g).closedHigh c' = s.closedHigh c' := by
  simp only [State.closedHigh, State.mapEntries_level]

@[simp] theorem State.mapEntries_entry (g : EntryIdx → Entry → Entry) (s : State) (i : EntryIdx) :
    (s.mapEntries g).entry i = g i (s.entry i) := by
  simp [State.mapEntries, State.entry]

/-! ## `State.mapChannels` -/

@[simp] theorem State.mapChannels_inReset (g : ChannelIdx → Channel → Channel) (s : State) :
    (s.mapChannels g).inReset = s.inReset := by unfold State.mapChannels; rfl
@[simp] theorem State.mapChannels_station (g : ChannelIdx → Channel → Channel) (s : State) :
    (s.mapChannels g).station = s.station := by unfold State.mapChannels; rfl
@[simp] theorem State.mapChannels_passes (g : ChannelIdx → Channel → Channel) (s : State) :
    (s.mapChannels g).passes = s.passes := by unfold State.mapChannels; rfl
@[simp] theorem State.mapChannels_tips (g : ChannelIdx → Channel → Channel) (s : State) :
    (s.mapChannels g).tips = s.tips := by unfold State.mapChannels; rfl
@[simp] theorem State.mapChannels_chutes (g : ChannelIdx → Channel → Channel) (s : State) :
    (s.mapChannels g).chutes = s.chutes := by unfold State.mapChannels; rfl
@[simp] theorem State.mapChannels_stations (g : ChannelIdx → Channel → Channel) (s : State) :
    (s.mapChannels g).stations = s.stations := by unfold State.mapChannels; rfl
@[simp] theorem State.mapChannels_breaker (g : ChannelIdx → Channel → Channel) (s : State) :
    (s.mapChannels g).breaker = s.breaker := by unfold State.mapChannels; rfl
@[simp] theorem State.mapChannels_entries (g : ChannelIdx → Channel → Channel) (s : State) :
    (s.mapChannels g).entries = s.entries := by unfold State.mapChannels; rfl
@[simp] theorem State.mapChannels_scanner (g : ChannelIdx → Channel → Channel) (s : State) :
    (s.mapChannels g).scanner = s.scanner := by unfold State.mapChannels; rfl
@[simp] theorem State.mapChannels_lines (g : ChannelIdx → Channel → Channel) (s : State) :
    (s.mapChannels g).lines = s.lines := by unfold State.mapChannels; rfl
@[simp] theorem State.mapChannels_debounce (g : ChannelIdx → Channel → Channel) (s : State) :
    (s.mapChannels g).debounce = s.debounce := by unfold State.mapChannels; rfl
@[simp] theorem State.mapChannels_link (g : ChannelIdx → Channel → Channel) (s : State) :
    (s.mapChannels g).link = s.link := by unfold State.mapChannels; rfl
@[simp] theorem State.mapChannels_attn (g : ChannelIdx → Channel → Channel) (s : State) :
    (s.mapChannels g).attn = s.attn := by unfold State.mapChannels; rfl
@[simp] theorem State.mapChannels_pending (g : ChannelIdx → Channel → Channel) (s : State) :
    (s.mapChannels g).pending = s.pending := by unfold State.mapChannels; rfl
@[simp] theorem State.mapChannels_pass (g : ChannelIdx → Channel → Channel) (s : State) (i : PassIdx) :
    (s.mapChannels g).pass i = s.pass i := by simp only [State.pass, State.mapChannels_passes]
@[simp] theorem State.mapChannels_tip (g : ChannelIdx → Channel → Channel) (s : State) (i : TipIdx) :
    (s.mapChannels g).tip i = s.tip i := by simp only [State.tip, State.mapChannels_tips]
@[simp] theorem State.mapChannels_chute (g : ChannelIdx → Channel → Channel) (s : State) (i : ChuteIdx) :
    (s.mapChannels g).chute i = s.chute i := by simp only [State.chute, State.mapChannels_chutes]
@[simp] theorem State.mapChannels_bst (g : ChannelIdx → Channel → Channel) (s : State) (i : StationIdx) :
    (s.mapChannels g).bst i = s.bst i := by simp only [State.bst, State.mapChannels_stations]
@[simp] theorem State.mapChannels_entry (g : ChannelIdx → Channel → Channel) (s : State) (i : EntryIdx) :
    (s.mapChannels g).entry i = s.entry i := by simp only [State.entry, State.mapChannels_entries]
@[simp] theorem State.mapChannels_line (g : ChannelIdx → Channel → Channel) (s : State) (i : LineIdx) :
    (s.mapChannels g).line i = s.line i := by simp only [State.line, State.mapChannels_lines]
@[simp] theorem State.mapChannels_bankTime (g : ChannelIdx → Channel → Channel) (s : State) (i : BankIdx) :
    (s.mapChannels g).bankTime i = s.bankTime i := by simp only [State.bankTime, State.mapChannels_debounce]
@[simp] theorem State.mapChannels_lineOf (g : ChannelIdx → Channel → Channel) (s : State) (f' : LineFn) :
    (s.mapChannels g).lineOf f' = s.lineOf f' := by
  simp only [State.lineOf, State.mapChannels_line]
@[simp] theorem State.mapChannels_bound (g : ChannelIdx → Channel → Channel) (s : State) (f' : LineFn) :
    (s.mapChannels g).bound f' = s.bound f' := by
  simp only [State.bound, State.mapChannels_lineOf]
@[simp] theorem State.mapChannels_level (g : ChannelIdx → Channel → Channel) (s : State) (f' : LineFn) :
    (s.mapChannels g).level f' = s.level f' := by
  simp only [State.level, State.mapChannels_lineOf, State.mapChannels_line]
@[simp] theorem State.mapChannels_closedHigh (g : ChannelIdx → Channel → Channel) (s : State) (c' : ChuteIdx) :
    (s.mapChannels g).closedHigh c' = s.closedHigh c' := by
  simp only [State.closedHigh, State.mapChannels_level]
@[simp] theorem State.mapChannels_coversTip (g : ChannelIdx → Channel → Channel) (s : State) (e' : EntryIdx) (t' : TipIdx) :
    (s.mapChannels g).coversTip e' t' = s.coversTip e' t' := by
  simp only [State.coversTip, State.mapChannels_entry, State.mapChannels_tip]
@[simp] theorem State.mapChannels_coversChute (g : ChannelIdx → Channel → Channel) (s : State) (e' : EntryIdx) (c' : ChuteIdx) :
    (s.mapChannels g).coversChute e' c' = s.coversChute e' c' := by
  simp only [State.coversChute, State.mapChannels_entry, State.mapChannels_chute]
@[simp] theorem State.mapChannels_coversStation (g : ChannelIdx → Channel → Channel) (s : State) (e' : EntryIdx) (k' : StationIdx) :
    (s.mapChannels g).coversStation e' k' = s.coversStation e' k' := by
  simp only [State.coversStation, State.mapChannels_bst, State.mapChannels_coversTip]
@[simp] theorem State.mapChannels_carriesBreaker (g : ChannelIdx → Channel → Channel) (s : State) (e' : EntryIdx) :
    (s.mapChannels g).carriesBreaker e' = s.carriesBreaker e' := by
  simp only [State.carriesBreaker, State.mapChannels_entry]

@[simp] theorem State.mapChannels_channel (g : ChannelIdx → Channel → Channel) (s : State) (i : ChannelIdx) :
    (s.mapChannels g).channel i = g i (s.channel i) := by
  simp [State.mapChannels, State.channel]

/-! ## `State.mapLines` -/

@[simp] theorem State.mapLines_inReset (g : LineIdx → Line → Line) (s : State) :
    (s.mapLines g).inReset = s.inReset := by unfold State.mapLines; rfl
@[simp] theorem State.mapLines_station (g : LineIdx → Line → Line) (s : State) :
    (s.mapLines g).station = s.station := by unfold State.mapLines; rfl
@[simp] theorem State.mapLines_passes (g : LineIdx → Line → Line) (s : State) :
    (s.mapLines g).passes = s.passes := by unfold State.mapLines; rfl
@[simp] theorem State.mapLines_tips (g : LineIdx → Line → Line) (s : State) :
    (s.mapLines g).tips = s.tips := by unfold State.mapLines; rfl
@[simp] theorem State.mapLines_chutes (g : LineIdx → Line → Line) (s : State) :
    (s.mapLines g).chutes = s.chutes := by unfold State.mapLines; rfl
@[simp] theorem State.mapLines_stations (g : LineIdx → Line → Line) (s : State) :
    (s.mapLines g).stations = s.stations := by unfold State.mapLines; rfl
@[simp] theorem State.mapLines_breaker (g : LineIdx → Line → Line) (s : State) :
    (s.mapLines g).breaker = s.breaker := by unfold State.mapLines; rfl
@[simp] theorem State.mapLines_entries (g : LineIdx → Line → Line) (s : State) :
    (s.mapLines g).entries = s.entries := by unfold State.mapLines; rfl
@[simp] theorem State.mapLines_channels (g : LineIdx → Line → Line) (s : State) :
    (s.mapLines g).channels = s.channels := by unfold State.mapLines; rfl
@[simp] theorem State.mapLines_scanner (g : LineIdx → Line → Line) (s : State) :
    (s.mapLines g).scanner = s.scanner := by unfold State.mapLines; rfl
@[simp] theorem State.mapLines_debounce (g : LineIdx → Line → Line) (s : State) :
    (s.mapLines g).debounce = s.debounce := by unfold State.mapLines; rfl
@[simp] theorem State.mapLines_link (g : LineIdx → Line → Line) (s : State) :
    (s.mapLines g).link = s.link := by unfold State.mapLines; rfl
@[simp] theorem State.mapLines_attn (g : LineIdx → Line → Line) (s : State) :
    (s.mapLines g).attn = s.attn := by unfold State.mapLines; rfl
@[simp] theorem State.mapLines_pending (g : LineIdx → Line → Line) (s : State) :
    (s.mapLines g).pending = s.pending := by unfold State.mapLines; rfl
@[simp] theorem State.mapLines_pass (g : LineIdx → Line → Line) (s : State) (i : PassIdx) :
    (s.mapLines g).pass i = s.pass i := by simp only [State.pass, State.mapLines_passes]
@[simp] theorem State.mapLines_tip (g : LineIdx → Line → Line) (s : State) (i : TipIdx) :
    (s.mapLines g).tip i = s.tip i := by simp only [State.tip, State.mapLines_tips]
@[simp] theorem State.mapLines_chute (g : LineIdx → Line → Line) (s : State) (i : ChuteIdx) :
    (s.mapLines g).chute i = s.chute i := by simp only [State.chute, State.mapLines_chutes]
@[simp] theorem State.mapLines_bst (g : LineIdx → Line → Line) (s : State) (i : StationIdx) :
    (s.mapLines g).bst i = s.bst i := by simp only [State.bst, State.mapLines_stations]
@[simp] theorem State.mapLines_entry (g : LineIdx → Line → Line) (s : State) (i : EntryIdx) :
    (s.mapLines g).entry i = s.entry i := by simp only [State.entry, State.mapLines_entries]
@[simp] theorem State.mapLines_channel (g : LineIdx → Line → Line) (s : State) (i : ChannelIdx) :
    (s.mapLines g).channel i = s.channel i := by simp only [State.channel, State.mapLines_channels]
@[simp] theorem State.mapLines_bankTime (g : LineIdx → Line → Line) (s : State) (i : BankIdx) :
    (s.mapLines g).bankTime i = s.bankTime i := by simp only [State.bankTime, State.mapLines_debounce]
@[simp] theorem State.mapLines_coversTip (g : LineIdx → Line → Line) (s : State) (e' : EntryIdx) (t' : TipIdx) :
    (s.mapLines g).coversTip e' t' = s.coversTip e' t' := by
  simp only [State.coversTip, State.mapLines_entry, State.mapLines_tip]
@[simp] theorem State.mapLines_coversChute (g : LineIdx → Line → Line) (s : State) (e' : EntryIdx) (c' : ChuteIdx) :
    (s.mapLines g).coversChute e' c' = s.coversChute e' c' := by
  simp only [State.coversChute, State.mapLines_entry, State.mapLines_chute]
@[simp] theorem State.mapLines_coversStation (g : LineIdx → Line → Line) (s : State) (e' : EntryIdx) (k' : StationIdx) :
    (s.mapLines g).coversStation e' k' = s.coversStation e' k' := by
  simp only [State.coversStation, State.mapLines_bst, State.mapLines_coversTip]
@[simp] theorem State.mapLines_carriesBreaker (g : LineIdx → Line → Line) (s : State) (e' : EntryIdx) :
    (s.mapLines g).carriesBreaker e' = s.carriesBreaker e' := by
  simp only [State.carriesBreaker, State.mapLines_entry]

@[simp] theorem State.mapLines_line (g : LineIdx → Line → Line) (s : State) (i : LineIdx) :
    (s.mapLines g).line i = g i (s.line i) := by
  simp [State.mapLines, State.line]

/-! ## When two states are equal -/

theorem State.passes_eq {s t : State} (h : ∀ i, s.pass i = t.pass i) : s.passes = t.passes :=
  Vector.ext fun i hi => h ⟨i, hi⟩

theorem State.tips_eq {s t : State} (h : ∀ i, s.tip i = t.tip i) : s.tips = t.tips :=
  Vector.ext fun i hi => h ⟨i, hi⟩

theorem State.chutes_eq {s t : State} (h : ∀ i, s.chute i = t.chute i) : s.chutes = t.chutes :=
  Vector.ext fun i hi => h ⟨i, hi⟩

theorem State.stations_eq {s t : State} (h : ∀ i, s.bst i = t.bst i) : s.stations = t.stations :=
  Vector.ext fun i hi => h ⟨i, hi⟩

theorem State.entries_eq {s t : State} (h : ∀ i, s.entry i = t.entry i) : s.entries = t.entries :=
  Vector.ext fun i hi => h ⟨i, hi⟩

theorem State.channels_eq {s t : State} (h : ∀ i, s.channel i = t.channel i) : s.channels = t.channels :=
  Vector.ext fun i hi => h ⟨i, hi⟩

theorem State.lines_eq {s t : State} (h : ∀ i, s.line i = t.line i) : s.lines = t.lines :=
  Vector.ext fun i hi => h ⟨i, hi⟩

theorem State.debounce_eq {s t : State} (h : ∀ i, s.bankTime i = t.bankTime i) : s.debounce = t.debounce :=
  Vector.ext fun i hi => h ⟨i, hi⟩

/-- Two states are equal when their single fields and every record of each kind are. -/
theorem State.ext_records {s t : State} (hr : s.inReset = t.inReset) (hst : s.station = t.station)
    (hp : ∀ i, s.pass i = t.pass i) (ht : ∀ i, s.tip i = t.tip i) (hc : ∀ i, s.chute i = t.chute i)
    (hk : ∀ i, s.bst i = t.bst i) (hb : s.breaker = t.breaker) (he : ∀ i, s.entry i = t.entry i)
    (hch : ∀ i, s.channel i = t.channel i) (hsc : s.scanner = t.scanner) (hl : ∀ i, s.line i = t.line i)
    (hd : ∀ i, s.bankTime i = t.bankTime i) (hlk : s.link = t.link) (ha : s.attn = t.attn)
    (hq : s.pending = t.pending) : s = t := by
  have hp := State.passes_eq hp
  have ht := State.tips_eq ht
  have hc := State.chutes_eq hc
  have hk := State.stations_eq hk
  have he := State.entries_eq he
  have hch := State.channels_eq hch
  have hl := State.lines_eq hl
  have hd := State.debounce_eq hd
  cases s
  cases t
  simp_all

end Sys2Proof.Machine
end

