-- ==== Sys2Proof/Laws/Events.lean ====
section
/-! SUPPORT. What each shared operation can do, said once: the parts of an event, the operations that make a
choice as a list of their cases, and the loops as rules of induction. -/

namespace Sys2Proof.Machine

/-! ## The parts of an event -/

@[simp] theorem Event.of_st (s : State) : (Event.of s).st = s := rfl
@[simp] theorem Event.update_st (f : State → State) (ev : Event) : (ev.update f).st = f ev.st := rfl
@[simp] theorem Event.update_arb (f : State → State) (ev : Event) : (ev.update f).arb = ev.arb := rfl
@[simp] theorem Event.update_tries (f : State → State) (ev : Event) : (ev.update f).tries = ev.tries := rfl
@[simp] theorem Event.update_choice (f : State → State) (ev : Event) : (ev.update f).choice = ev.choice := rfl
@[simp] theorem Event.update_touched (f : State → State) (ev : Event) :
    (ev.update f).touched = ev.touched := rfl
@[simp] theorem Event.triggerArbiter_st (p : PassIdx) (ev : Event) : (ev.triggerArbiter p).st = ev.st := rfl
@[simp] theorem Event.triggerArbiter_arb (p : PassIdx) (ev : Event) :
    (ev.triggerArbiter p).arb = p :: ev.arb := rfl
@[simp] theorem Event.triggerTries_st (cs : List ChuteIdx) (ev : Event) : (ev.triggerTries cs).st = ev.st := rfl
@[simp] theorem Event.triggerTries_tries (cs : List ChuteIdx) (ev : Event) :
    (ev.triggerTries cs).tries = cs ++ ev.tries := rfl
@[simp] theorem Event.triggerChoice_st (ev : Event) : ev.triggerChoice.st = ev.st := rfl
@[simp] theorem Event.triggerChoice_choice (ev : Event) : ev.triggerChoice.choice = true := rfl
@[simp] theorem Event.touch_st (es : List EntryIdx) (ev : Event) : (ev.touch es).st = ev.st := rfl
@[simp] theorem Event.touch_touched (es : List EntryIdx) (ev : Event) :
    (ev.touch es).touched = es ++ ev.touched := rfl
@[simp] theorem Event.touchAll_st (ev : Event) : ev.touchAll.st = ev.st := rfl
@[simp] theorem Event.touchChute_st (c : ChuteIdx) (ev : Event) : (ev.touchChute c).st = ev.st := rfl
@[simp] theorem Event.touchTip_st (t : TipIdx) (ev : Event) : (ev.touchTip t).st = ev.st := rfl
@[simp] theorem Event.handOn_st (p : PassIdx) (ev : Event) : (ev.handOn p).st = ev.st := rfl
@[simp] theorem Event.handOn_arb (p : PassIdx) (ev : Event) : (ev.handOn p).arb = p :: ev.arb := rfl
@[simp] theorem Event.handOn_tries (p : PassIdx) (ev : Event) :
    (ev.handOn p).tries = ev.st.chutesOf p ++ ev.tries := rfl

/-! ## An event's end -/

@[simp] theorem Event.settleTests_nil (s : State) (arb : List PassIdx) (tries : List ChuteIdx)
    (choice : Bool) : Event.settleTests ⟨s, arb, tries, choice, []⟩ = ⟨s, arb, tries, choice, []⟩ := by
  simp [Event.settleTests]

@[simp] theorem State.runArbiters_nil (s : State) : s.runArbiters [] = s := by simp [State.runArbiters]

@[simp] theorem State.runTries_nil (s : State) : s.runTries [] = s := by simp [State.runTries]

/-- An event that triggers nothing ends with the pins and ATTN. -/
theorem Event.finish_quiet (s : State) : Event.finish ⟨s, [], [], false, []⟩ = s.endEvent := by
  simp [Event.finish, State.endEvent]

theorem Event.finish_of (s : State) : (Event.of s).finish = s.endEvent := Event.finish_quiet s

theorem Event.finish_update (f : State → State) (s : State) :
    ((Event.of s).update f).finish = (f s).endEvent := Event.finish_quiet (f s)

/-- The end of an event touches nothing but the pins, the timers of the lines and ATTN once its settling tests,
arbiters, tries and choice are made. -/
theorem Event.finish_eq (ev : Event) : ev.finish =
    (let s := ((ev.settleTests.st.runArbiters ev.settleTests.arb).runTries ev.settleTests.tries)
     (if ev.settleTests.choice then s.chooseJob else s).endEvent) := rfl

/-! ## Triggers are sets

An event acts on each of its triggers once, so only which ones stand in it matters, not how often or in which
order. -/

/-- Two events with the same state and the same triggers. -/
def Event.Same (a b : Event) : Prop :=
  a.st = b.st ∧ (∀ p, p ∈ a.arb ↔ p ∈ b.arb) ∧ (∀ c, c ∈ a.tries ↔ c ∈ b.tries) ∧ a.choice = b.choice
    ∧ ∀ e, e ∈ a.touched ↔ e ∈ b.touched

theorem Event.Same.update {a b : Event} (h : a.Same b) (f : State → State) : (a.update f).Same (b.update f) :=
  ⟨congrArg f h.1, h.2⟩

theorem Event.Same.triggerArbiter {a b : Event} (h : a.Same b) (p : PassIdx) :
    (a.triggerArbiter p).Same (b.triggerArbiter p) := by
  obtain ⟨h1, h2, h3, h4, h5⟩ := h
  exact ⟨h1, fun q => by simp [Event.triggerArbiter, h2], h3, h4, h5⟩

theorem Event.Same.touchTip {a b : Event} (h : a.Same b) (t : TipIdx) :
    (a.touchTip t).Same (b.touchTip t) := by
  obtain ⟨h1, h2, h3, h4, h5⟩ := h
  exact ⟨h1, h2, h3, h4, fun e => by simp [Event.touchTip, Event.touch, h1, h5]⟩

theorem Event.Same.endGrant {a b : Event} (h : a.Same b) (t : TipIdx) (state : TipState) :
    (a.endGrant t state).Same (b.endGrant t state) := by
  unfold Event.endGrant
  rw [h.1]
  exact (((h.update _).update _).touchTip t).triggerArbiter _

theorem Event.Same.revoke {a b : Event} (h : a.Same b) (t : TipIdx) : (a.revoke t).Same (b.revoke t) := by
  unfold Event.revoke
  rw [h.1]
  split
  · split
    · exact (h.endGrant t _).update _
    · exact h.endGrant t _
  · exact h

/-- A list of steps that each keep a relation keeps it. -/
theorem foldl_same {α β : Type} {R : β → β → Prop} {step : β → α → β}
    (hstep : ∀ a b x, R a b → R (step a x) (step b x)) (l : List α) {a b : β} (h : R a b) :
    R (l.foldl step a) (l.foldl step b) := by
  induction l generalizing a b with
  | nil => exact h
  | cons x l ih => exact ih (hstep _ _ x h)

theorem Event.Same.revokeWhere {a b : Event} (h : a.Same b) (which : TipIdx → Bool) :
    (a.revokeWhere which).Same (b.revokeWhere which) :=
  foldl_same (R := Event.Same) (fun _ _ t h => h.revoke t) _ h

theorem Event.Same.settleTest {a b : Event} (h : a.Same b) (e : EntryIdx) :
    (a.settleTest e).Same (b.settleTest e) := by
  unfold Event.settleTest
  rw [h.1]
  dsimp only
  split
  · unfold Event.enterForce
    rw [h.1]
    dsimp only
    split
    · split
      · exact h.update _
      · unfold Event.startService
        have h1 := h.update (State.modEntry e fun x =>
          { x with state := .inForce, timer := none, conds := raise .inForce x.conds })
        rw [h1.1]
        exact (h1.update _).revokeWhere _
    · exact h.update _
    · exact h.update _
    · exact h.update _
  · exact h

theorem Event.Same.settleTests {a b : Event} (h : a.Same b) : a.settleTests.Same b.settleTests := by
  unfold Event.settleTests
  have hl : ((List.finRange 24).filter fun e => decide (e ∈ a.touched))
      = (List.finRange 24).filter fun e => decide (e ∈ b.touched) := by
    simp only [h.2.2.2.2]
  rw [hl]
  exact foldl_same (R := Event.Same) (fun _ _ e h => h.settleTest e) _ h

/-- Events with the same state and the same triggers end alike. -/
theorem Event.Same.finish {a b : Event} (h : a.Same b) : a.finish = b.finish := by
  obtain ⟨h1, h2, h3, h4, -⟩ := h.settleTests
  have ha : a.settleTests.st.runArbiters a.settleTests.arb = b.settleTests.st.runArbiters b.settleTests.arb := by
    unfold State.runArbiters
    simp only [h1, h2]
  have ht : ∀ s : State, s.runTries a.settleTests.tries = s.runTries b.settleTests.tries := by
    intro s
    unfold State.runTries
    simp only [h3]
  simp only [Event.finish, ha, ht, h4]

/-! ## Rules of induction for the loops -/

/-- What holds before a run of an arbiter and is kept by each grant it makes holds after it. -/
theorem State.runArbiter_induct {P : State → Prop} (p : PassIdx)
    (hgrant : ∀ s t, P s → s.chooseCall p = some t → s.roomTest p t = true → P (s.grant p t)) (s : State)
    (h : P s) : P (s.runArbiter p) := by
  unfold State.runArbiter
  generalize (s.pass p).waiting.length = n
  induction n generalizing s with
  | zero => exact h
  | succ n ih =>
    unfold arbiterLoop
    split
    · exact h
    · rename_i t ht
      split
      · rename_i hr
        exact ih _ (hgrant s t h ht hr)
      · exact h

theorem State.runArbiters_induct {P : State → Prop} (ps : List PassIdx)
    (hrun : ∀ s p, p ∈ ps → P s → P (s.runArbiter p)) (s : State) (h : P s) : P (s.runArbiters ps) := by
  unfold State.runArbiters
  have hl : ∀ p ∈ (List.finRange 6).filter fun p => decide (p ∈ ps), p ∈ ps := by simp
  revert hl
  generalize ((List.finRange 6).filter fun p => decide (p ∈ ps)) = l
  intro hl
  induction l generalizing s with
  | nil => exact h
  | cons p l ih =>
    exact ih _ (hrun s p (hl p (by simp)) h) fun q hq => hl q (by simp [hq])

theorem State.runTries_induct {P : State → Prop} (cs : List ChuteIdx)
    (htry : ∀ s c, c ∈ cs → P s → P (s.startTry c)) (s : State) (h : P s) : P (s.runTries cs) := by
  unfold State.runTries
  have hl : ∀ c ∈ (List.finRange 8).filter fun c => decide (c ∈ cs), c ∈ cs := by simp
  revert hl
  generalize ((List.finRange 8).filter fun c => decide (c ∈ cs)) = l
  intro hl
  induction l generalizing s with
  | nil => exact h
  | cons c l ih =>
    exact ih _ (htry s c (hl c (by simp)) h) fun q hq => hl q (by simp [hq])

theorem Event.revokeWhere_induct {P : Event → Prop} (which : TipIdx → Bool)
    (hrevoke : ∀ ev t, which t = true → P ev → P (ev.revoke t)) (ev : Event) (h : P ev) :
    P (ev.revokeWhere which) := by
  unfold Event.revokeWhere
  have hl : ∀ t ∈ (List.finRange 16).filter which, which t = true := by simp
  revert hl
  generalize (List.finRange 16).filter which = l
  intro hl
  induction l generalizing ev with
  | nil => exact h
  | cons t l ih => exact ih _ (hrevoke ev t (hl t (by simp)) h) fun q hq => hl q (by simp [hq])

theorem Event.abortWhere_induct {P : Event → Prop} (which : ChuteIdx → Bool)
    (habort : ∀ ev c, which c = true → P ev → P (ev.abortChute c)) (ev : Event) (h : P ev) :
    P (ev.abortWhere which) := by
  unfold Event.abortWhere
  have hl : ∀ c ∈ (List.finRange 8).filter which, which c = true := by simp
  revert hl
  generalize (List.finRange 8).filter which = l
  intro hl
  induction l generalizing ev with
  | nil => exact h
  | cons c l ih => exact ih _ (habort ev c (hl c (by simp)) h) fun q hq => hl q (by simp [hq])

theorem Event.settleTests_induct {P : Event → Prop} (ev : Event)
    (htest : ∀ ev' e, e ∈ ev.touched → P ev' → P (ev'.settleTest e)) (h : P ev) : P ev.settleTests := by
  unfold Event.settleTests
  have hl : ∀ e ∈ (List.finRange 24).filter fun e => decide (e ∈ ev.touched), e ∈ ev.touched := by simp
  revert hl
  generalize ((List.finRange 24).filter fun e => decide (e ∈ ev.touched)) = l
  intro hl
  suffices H : ∀ (l : List EntryIdx) (ev' : Event), (∀ e ∈ l, e ∈ ev.touched) → P ev' →
      P (l.foldl (fun ev e => ev.settleTest e) ev') from H l ev hl h
  intro l
  induction l with
  | nil => exact fun _ _ h => h
  | cons e l ih =>
    exact fun ev' hl h => ih _ (fun q hq => hl q (by simp [hq])) (htest ev' e (hl e (by simp)) h)

/-- What the settling tests, the grants, the start tries and the choice keep, and the pins and ATTN do not touch,
holds at the end of an event. -/
theorem Event.finish_induct {P : State → Prop} (ev : Event)
    (hsettle : ∀ ev e, P ev.st → P (Event.settleTest e ev).st)
    (hgrant : ∀ s p t, P s → s.chooseCall p = some t → s.roomTest p t = true → P (s.grant p t))
    (htry : ∀ s c, P s → P (s.startTry c)) (hchoice : ∀ s, P s → P s.chooseJob)
    (hend : ∀ s, P s → P s.endEvent) (h : P ev.st) : P ev.finish := by
  have h1 : P ev.settleTests.st :=
    Event.settleTests_induct (P := fun ev => P ev.st) ev (fun ev' e _ h => hsettle ev' e h) h
  have h2 := State.runArbiters_induct ev.settleTests.arb
    (fun s p _ h => State.runArbiter_induct p (fun s t h hc hr => hgrant s p t h hc hr) s h) _ h1
  have h3 := State.runTries_induct ev.settleTests.tries (fun s c _ h => htry s c h) _ h2
  rw [Event.finish_eq]
  dsimp only
  split
  · exact hend _ (hchoice _ h3)
  · exact hend _ h3

/-! ## Choices -/

/-- A fold that keeps the better of two finds a member of the list, or nothing in an empty one. -/
theorem foldl_better_mem {α : Type} {better : Option α → α → Option α}
    (h : ∀ o x, better o x = o ∨ better o x = some x) (l : List α) {x : α}
    (hx : l.foldl better none = some x) : x ∈ l := by
  suffices H : ∀ (l : List α) (o : Option α), l.foldl better o = some x → o = some x ∨ x ∈ l by
    rcases H l none hx with h | h
    · cases h
    · exact h
  intro l
  induction l with
  | nil => exact fun o h => .inl h
  | cons y l ih =>
    intro o ho
    rcases ih _ ho with h1 | h1
    · rcases h o y with h2 | h2
      · exact .inl (h2 ▸ h1)
      · rw [h2] at h1
        injection h1 with h1
        exact .inr (by simp [h1])
    · exact .inr (by simp [h1])

/-- The call chosen stands in the list and is eligible. -/
theorem State.chooseCall_mem {s : State} {p : PassIdx} {t : TipIdx} (h : s.chooseCall p = some t) :
    t ∈ (s.pass p).waiting ∧ s.eligible t = true := by
  have := foldl_better_mem (better := s.betterCall) (by
    intro o x
    cases o with
    | none => exact .inr rfl
    | some b => simp only [State.betterCall]; split <;> simp) _ h
  simpa using this

/-- The job picked stands in the list and is startable. -/
theorem State.pickJob_mem {s : State} {j : Job} (h : s.pickJob = some j) :
    j ∈ s.breaker.jobs ∧ s.startable j = true := by
  have := foldl_better_mem (better := s.betterJob) (by
    intro o x
    cases o with
    | none => exact .inr rfl
    | some b => simp only [State.betterJob]; split <;> simp) _ h
  simpa using this

/-- The scanner alone changes at a choice of the next conversion. -/
theorem State.chooseConversion_eq (s : State) :
    s.chooseConversion = { s with scanner := s.chooseConversion.scanner } := by
  unfold State.chooseConversion
  split <;> rfl

theorem State.wakeScanner_eq (s : State) : s.wakeScanner = { s with scanner := s.wakeScanner.scanner } := by
  unfold State.wakeScanner
  split
  · rfl
  · exact s.chooseConversion_eq

/-- The breaker alone changes at a choice: a PARKED one that finds a job starts it. -/
theorem State.chooseJob_cases (s : State) :
    s.chooseJob = s ∨ ∃ j, s.breaker.state = .parked ∧ s.pickJob = some j
      ∧ s.chooseJob = s.modBreaker (Breaker.take j) := by
  unfold State.chooseJob
  split
  · rename_i hs
    split
    · rename_i j hj
      exact .inr ⟨j, hs, hj, rfl⟩
    · exact .inl rfl
  · exact .inl rfl

/-- A start try changes its chute alone, in one of three ways, and starts a cycle only where every test passes. -/
theorem State.startTry_cases (c : ChuteIdx) (s : State) :
    s.startTry c = s
      ∨ ((s.chute c).defined = true ∧ (s.chute c).callPending = true ∧ s.startReady c = true
        ∧ (((s.chute c).count = 0 ∧ s.startTry c = s.modChute c Chute.reportEmpty)
          ∨ ((s.chute c).count ≠ 0
            ∧ (s.pass (s.chute c).pass).e < (s.pass (s.chute c).pass).cushion + (s.chute c).volume
            ∧ s.startTry c = s.modChute c Chute.reportCushion)
          ∨ ((s.chute c).count ≠ 0
            ∧ (s.pass (s.chute c).pass).cushion + (s.chute c).volume ≤ (s.pass (s.chute c).pass).e
            ∧ s.startTry c = s.modChute c Chute.startCycle))) := by
  unfold State.startTry
  dsimp only
  split
  · exact .inl rfl
  · rename_i h
    simp only [Bool.or_eq_true, Bool.not_eq_true', not_or, Bool.not_eq_false] at h
    refine .inr ⟨h.1.1, h.1.2, h.2, ?_⟩
    split
    · rename_i h0
      exact .inl ⟨h0, rfl⟩
    · rename_i h0
      split
      · rename_i h1
        exact .inr (.inl ⟨h0, h1, rfl⟩)
      · rename_i h1
        exact .inr (.inr ⟨h0, Nat.le_of_not_lt h1, rfl⟩)

/-- A loss of use raises BLIND on its pass or changes nothing. -/
theorem State.loseUse_cases (p : PassIdx) (s : State) :
    s.loseUse p = s ∨ ((s.pass p).state = .running ∧ (∀ ch, s.usableFor p ch = false)
      ∧ s.loseUse p = s.modPass p fun q => { q with conds := raise .blind q.conds }) := by
  unfold State.loseUse
  split
  · rename_i h
    exact .inr ⟨h.1, by simpa using h.2, rfl⟩
  · exact .inl rfl

/-- A change of a channel changes that channel, and may raise BLIND on the pass that loses it. -/
theorem State.changeChannel_cases (ch : ChannelIdx) (f : Channel → Channel) (s : State) :
    s.changeChannel ch f = s.modChannel ch f
      ∨ ∃ p, (s.channel ch).assignment = some p ∧ s.usableFor p ch = true
        ∧ (s.modChannel ch f).usableFor p ch = false
        ∧ s.changeChannel ch f = (s.modChannel ch f).loseUse p := by
  unfold State.changeChannel
  dsimp only
  split
  · rename_i p hp
    split
    · rename_i h
      simp only [Bool.and_eq_true, Bool.not_eq_true'] at h
      exact .inr ⟨p, hp, h.1, h.2, rfl⟩
    · exact .inl rfl
  · exact .inl rfl

/-- The breaker and, where the active list switches, the scanner change at a move. -/
theorem Event.moveBreaker_st (f : Breaker → Breaker) (ev : Event) :
    (ev.moveBreaker f).st = ev.st.modBreaker f ∨ (ev.moveBreaker f).st = (ev.st.modBreaker f).wakeScanner := by
  unfold Event.moveBreaker
  simp only [Event.touchAll_st]
  split
  · exact .inr rfl
  · exact .inl rfl

/-- An arriving job is ignored, merged or listed; the breaker alone changes, and the choice is triggered where
the list does. -/
theorem Event.arrive_cases (k : StationIdx) (level : Nat) (origin : Origin) (ev : Event) :
    (ev.st.disposition k = .current ∧ ev.arrive k level origin = ev)
      ∨ (ev.st.disposition k = .merged ∧ ev.arrive k level origin
        = (ev.update (State.modBreaker (Breaker.merge k level))).triggerChoice)
      ∨ (ev.st.disposition k = .listed ∧ ev.arrive k level origin
        = (ev.update (State.modBreaker (Breaker.list k level origin))).triggerChoice) := by
  unfold Event.arrive
  cases h : ev.st.disposition k <;> simp

/-- A report of an ended job triggers at most one arbiter and changes nothing. -/
theorem Event.reportEnd_cases (k : StationIdx) (ev : Event) :
    ev.reportEnd k = ev ∨ ∃ t, (ev.st.tip t).grizzly = some k ∧ ev.st.blocked t = false
      ∧ ev.reportEnd k = ev.triggerArbiter (ev.st.tip t).pass := by
  unfold Event.reportEnd
  split
  · rename_i t ht
    unfold Event.judgeBlocking
    split
    · exact .inl rfl
    · rename_i hb
      have := List.find?_some ht
      simp only [Bool.and_eq_true, decide_eq_true_eq] at this
      exact .inr ⟨t, this.2, by simpa using hb, rfl⟩
  · exact .inl rfl

theorem Event.reportEnd_st (k : StationIdx) (ev : Event) : (ev.reportEnd k).st = ev.st := by
  rcases ev.reportEnd_cases k with h | ⟨t, -, -, h⟩
  · rw [h]
  · rw [h]; rfl

/-- A change of a pass's fill changes that pass alone, and hands on where E changes. -/
theorem Event.changeFill_st (p : PassIdx) (f : Pass → Pass) (ev : Event) :
    (ev.changeFill p f).st = ev.st.modPass p f := by
  unfold Event.changeFill
  dsimp only
  split <;> rfl

theorem Event.changeFill_arb (p : PassIdx) (f : Pass → Pass) (ev : Event) :
    (ev.changeFill p f).arb = if (f (ev.st.pass p)).e = (ev.st.pass p).e then ev.arb else p :: ev.arb := by
  unfold Event.changeFill
  dsimp only
  split <;> rfl

/-- The end of a grant changes the tip point and its pass's reserved volume. -/
theorem Event.endGrant_st (t : TipIdx) (state : TipState) (ev : Event) :
    (ev.endGrant t state).st = (ev.st.modTip t fun x => { x with state := state, timer := none }).modPass
      (ev.st.tip t).pass fun q => { q with reserved := q.reserved - (ev.st.tip t).load } := rfl

/-- A revocation does nothing to a tip point that is not GRANTED. -/
theorem Event.revoke_of_not_granted {t : TipIdx} {ev : Event} (h : (ev.st.tip t).state ≠ .granted) :
    ev.revoke t = ev := by
  simp [Event.revoke, h]

/-- A settling test makes its entry IN_FORCE or changes nothing. -/
theorem Event.settleTest_cases (e : EntryIdx) (ev : Event) :
    ev.settleTest e = ev ∨ ((ev.st.entry e).inUse = true ∧ (ev.st.entry e).state ≠ .inForce
      ∧ ev.st.settled e = true ∧ ev.settleTest e = ev.enterForce e) := by
  unfold Event.settleTest
  dsimp only
  split
  · rename_i h
    simp only [Bool.and_eq_true, decide_eq_true_eq] at h
    exact .inr ⟨h.1.1, h.1.2, h.2, rfl⟩
  · exact .inl rfl

/-- An abort acts on a chute that is OPENING, HOLDING or NUDGING alone. -/
theorem Event.abortChute_of_still {c : ChuteIdx} {ev : Event}
    (h : (ev.st.chute c).state = .closed ∨ (ev.st.chute c).state = .closing
      ∨ (ev.st.chute c).state = .reclosing) : ev.abortChute c = ev := by
  unfold Event.abortChute
  rcases h with h | h | h <;> simp [h]

/-- An abort of an OPENING gate closes it with no debit (R93). -/
theorem Event.abortChute_of_opening {c : ChuteIdx} {ev : Event} (h : (ev.st.chute c).state = .opening) :
    ev.abortChute c = (ev.update (State.modChute c fun x =>
      { x.close with staleExpiry := ev.st.strokeExpiryWaits c })).touchChute c := by
  simp [Event.abortChute, h]

/-- An abort of a HOLDING gate closes it, takes its debit and triggers its pass's arbiter (R93, R128 step 7). -/
theorem Event.abortChute_of_holding {c : ChuteIdx} {ev : Event} (h : (ev.st.chute c).state = .holding) :
    ev.abortChute c = (((ev.update (State.modChute c Chute.close)).touchChute c).takeDebit c).triggerArbiter
      (ev.st.chute c).pass := by
  simp [Event.abortChute, h]

/-- An abort of a NUDGING gate on its seat is final at once (R150 step 3). -/
theorem Event.abortChute_of_seated {c : ChuteIdx} {ev : Event} (h : (ev.st.chute c).state = .nudging)
    (hc : ev.st.closedHigh c = true) (hf : ev.st.limitFallWaits c = false) :
    ev.abortChute c = ev.finalise c .aborted := by
  simp [Event.abortChute, h, hc, hf]

/-- An abort of a NUDGING gate off its seat, or leaving it, recloses it (R150 step 2 and its table). -/
theorem Event.abortChute_of_unseated {c : ChuteIdx} {ev : Event} (h : (ev.st.chute c).state = .nudging)
    (hc : ev.st.closedHigh c = false ∨ ev.st.limitFallWaits c = true) :
    ev.abortChute c = (ev.update (State.modChute c fun x =>
      { x with state := .reclosing, nudgeTimer := none, pendingProof := some .aborted,
               strokeTimer := some x.strokeTime })).touchChute c := by
  rcases hc with hc | hc <;> simp [Event.abortChute, h, hc]

/-- Whether a closed limit's fall waits depends on the lines and the queue alone. -/
theorem State.limitFallWaits_congr {s t : State} (h : s.lines = t.lines) (hq : s.pending = t.pending)
    (c : ChuteIdx) : s.limitFallWaits c = t.limitFallWaits c := by
  cases s; cases t; cases h; cases hq; rfl

/-- What waits next depends on the queue alone. -/
theorem State.waitsNext_congr {s t : State} (h : s.pending = t.pending) (i : Instr) :
    s.waitsNext i = t.waitsNext i := by
  unfold State.waitsNext
  rw [h]

/-- An expiry waits next exactly where only expiries stand before it. -/
theorem State.waitsNext_iff {s : State} {i : Instr} :
    s.waitsNext i = true ↔ i ∈ s.pending.takeWhile isExpiry := by
  simp [State.waitsNext]

/-- The fall of a closed limit waits: the line bound to it, its expiry next in the queue, its timer running and
its raw level low. -/
theorem State.limitFallWaits_iff {s : State} {c : ChuteIdx} :
    s.limitFallWaits c = true ↔ ∃ i, s.lineOf (.closedLimit c) = some i ∧ s.waitsNext (.debounceExpiry i) = true
      ∧ (s.line i).timer.isSome = true ∧ (s.line i).raw = false := by
  unfold State.limitFallWaits
  cases s.lineOf (.closedLimit c) <;> simp [and_assoc]

/-- With no expiry next in the queue none waits, and no fall does. -/
theorem State.waitsNext_of_none {s : State} (h : s.pending.takeWhile isExpiry = []) (i : Instr) :
    s.waitsNext i = false := by
  simp [State.waitsNext, h]

theorem State.limitFallWaits_of_none {s : State} (h : s.pending.takeWhile isExpiry = []) (c : ChuteIdx) :
    s.limitFallWaits c = false := by
  unfold State.limitFallWaits
  cases s.lineOf (.closedLimit c) <;> simp [State.waitsNext_of_none h]

/-- With no expiry next in the queue none of a stroke timer waits. -/
theorem State.strokeExpiryWaits_of_none {s : State} (h : s.pending.takeWhile isExpiry = []) (c : ChuteIdx) :
    s.strokeExpiryWaits c = false := by
  simp [State.strokeExpiryWaits, State.waitsNext_of_none h]

/-- A note of a restart changes one field of one chute. -/
theorem Event.noteRestart_st (c : ChuteIdx) (waits : Bool) (ev : Event) :
    (ev.noteRestart c waits).st = ev.st.modChute c fun x => { x with
      staleExpiry := waits && decide (((ev.st.startTry c).chute c).state = .opening) } := rfl

/-- A breach touches the entries that cover the plant and are IN_FORCE. -/
theorem State.recordBreach_entry (covers : EntryIdx → Bool) (cause : BreachCause) (actuator : Nat) (s : State)
    (e : EntryIdx) : (s.recordBreach covers cause actuator).entry e
      = if covers e && decide ((s.entry e).state = .inForce) then (s.entry e).breach cause actuator
        else s.entry e := by
  simp [State.recordBreach]

/-! ## An event at the part -/

theorem occur_held {s : State} (h : s.inReset = true) (f : State → Option Event) : occur s f = s := by
  simp [occur, h]

theorem occur_none {s : State} {f : State → Option Event} (h : f s = none) : occur s f = s := by
  simp [occur, h]

theorem occur_some {s : State} {f : State → Option Event} {ev : Event} (hr : s.inReset = false)
    (h : f s = some ev) : occur s f = ev.finish := by
  simp [occur, hr, h]

end Sys2Proof.Machine
end

