-- ==== Sys2Proof/Laws/Lines.lean ====
section
/-! SUPPORT. What the end of an event does to the lines and ATTN, and what a binding does to one line. -/

namespace Sys2Proof.Machine

/-! ## The pins -/

/-- A look at the lines gives each its pin's level and the timer to match. -/
@[simp] theorem State.refreshLines_line (s : State) (i : LineIdx) :
    s.refreshLines.line i = s.refreshLine i (s.line i) := by
  simp [State.refreshLines]

/-- A debounce timer runs after a look exactly where the two levels differ and no reset is held. -/
theorem debounceTimer_isSome (inReset raw debounced : Bool) (time : Nat) (timer : Timer) :
    (debounceTimer inReset raw debounced time timer).isSome = (!inReset && (raw != debounced)) := by
  unfold debounceTimer
  cases inReset <;> cases raw <;> cases debounced <;> rfl

/-- A timer already running keeps its time. -/
theorem debounceTimer_running {raw debounced : Bool} (h : raw ≠ debounced) (time n : Nat) :
    debounceTimer false raw debounced time (some n) = some n := by
  simp [debounceTimer, h]

@[simp] theorem State.refreshLine_direction (s : State) (i : LineIdx) (l : Line) :
    (s.refreshLine i l).direction = l.direction := rfl
@[simp] theorem State.refreshLine_latch (s : State) (i : LineIdx) (l : Line) :
    (s.refreshLine i l).latch = l.latch := rfl
@[simp] theorem State.refreshLine_binding (s : State) (i : LineIdx) (l : Line) :
    (s.refreshLine i l).binding = l.binding := rfl
@[simp] theorem State.refreshLine_plant (s : State) (i : LineIdx) (l : Line) :
    (s.refreshLine i l).plant = l.plant := rfl
@[simp] theorem State.refreshLine_raw (s : State) (i : LineIdx) (l : Line) :
    (s.refreshLine i l).raw = s.pinLevel i := rfl
@[simp] theorem State.refreshLine_debounced (s : State) (i : LineIdx) (l : Line) :
    (s.refreshLine i l).debounced = l.debounced := rfl

/-- Which line serves a function depends on the bindings alone. -/
theorem State.lineOf_congr {s t : State} (h : ∀ i, (s.line i).binding = (t.line i).binding) (f : LineFn) :
    s.lineOf f = t.lineOf f := by
  unfold State.lineOf
  simp only [h]

/-- What a function reads depends on the bindings and the debounced levels alone. -/
theorem State.level_congr {s t : State} (h : ∀ i, (s.line i).binding = (t.line i).binding)
    (hd : ∀ i, (s.line i).debounced = (t.line i).debounced) (f : LineFn) : s.level f = t.level f := by
  unfold State.level
  rw [State.lineOf_congr h]
  simp only [hd]

/-- A line found for a function is bound to it. -/
theorem State.lineOf_binding {s : State} {f : LineFn} {i : LineIdx} (h : s.lineOf f = some i) :
    (s.line i).binding = some f := by
  have := List.find?_some h
  simpa using this

/-- Where no other line is bound to the function, the line bound to it is the one found. -/
theorem State.lineOf_eq_some {s : State} {f : LineFn} {i : LineIdx} (h : (s.line i).binding = some f)
    (hu : ∀ j, (s.line j).binding = some f → j = i) : s.lineOf f = some i := by
  cases hf : s.lineOf f with
  | none =>
    have := List.find?_eq_none.mp hf i (List.mem_finRange i)
    simp [h] at this
  | some j => rw [hu j (State.lineOf_binding hf)]

theorem State.lineOf_eq_none {s : State} {f : LineFn} (h : ∀ i, (s.line i).binding ≠ some f) :
    s.lineOf f = none := by
  cases hf : s.lineOf f with
  | none => rfl
  | some j => exact absurd (State.lineOf_binding hf) (h j)

/-- What a function commands depends on the mode, the records that own output roles and, for a close valve, the
level of its closed limit. -/
theorem State.command_congr {s t : State} (hm : s.station.mode = t.station.mode) (ht : s.tips = t.tips)
    (hc : s.chutes = t.chutes) (hb : s.breaker = t.breaker) (hch : s.channels = t.channels)
    (hl : ∀ c, s.closedHigh c = t.closedHigh c) (f : LineFn) : s.command f = t.command f := by
  cases f <;> simp [State.command, State.tip, State.chute, State.channel, hm, ht, hc, hb, hch, hl]
  all_goals rfl

/-! ## Binding -/

/-- A binding leaves a line's latch, levels and timer. -/
theorem bindLine_eq (roles : Roles) (i : LineIdx) (l : Line) : bindLine roles i l =
    { l with binding := (bindLine roles i l).binding, direction := (bindLine roles i l).direction } := by
  unfold bindLine
  repeat' split
  all_goals rfl

/-- A line named for no role and bound to none of the record's roles is left as it is. -/
theorem bindLine_other {roles : Roles} {i : LineIdx} {l : Line} (hn : ∀ r ∈ roles, r.2 ≠ some i)
    (hb : ∀ r ∈ roles, l.binding ≠ some r.1) : bindLine roles i l = l := by
  have hf : roles.find? (fun r => decide (r.2 = some i)) = none := by
    simpa using fun a b hr => hn (a, b) hr
  have ha : roles.any (fun r => decide (l.binding = some r.1)) = false := by
    simpa using fun a b hr => hb (a, b) hr
  simp [bindLine, hf, ha]

/-- A line bound to one of the record's roles and named for none is released, nothing else. -/
theorem bindLine_released {roles : Roles} {i : LineIdx} {l : Line} (hn : ∀ r ∈ roles, r.2 ≠ some i)
    {r : LineFn × Option LineIdx} (hr : r ∈ roles) (hb : l.binding = some r.1) :
    bindLine roles i l = { l with binding := none } := by
  have hf : roles.find? (fun r => decide (r.2 = some i)) = none := by
    simpa using fun a b hr => hn (a, b) hr
  have ha : roles.any (fun r => decide (l.binding = some r.1)) = true := by
    simpa using ⟨r.1, ⟨r.2, hr⟩, hb⟩
  simp [bindLine, hf, ha]

@[simp] theorem State.bindLines_line (roles : Roles) (s : State) (i : LineIdx) :
    (s.bindLines roles).line i = bindLine roles i (s.line i) := by
  simp [State.bindLines]

/-! ## What a look at the lines, a binding, the judging of ATTN and the end of an event leave -/

@[simp] theorem State.refreshLines_inReset (s : State) :
    (s.refreshLines).inReset = s.inReset := by simp only [State.refreshLines, State.mapLines_inReset]
@[simp] theorem State.refreshLines_station (s : State) :
    (s.refreshLines).station = s.station := by simp only [State.refreshLines, State.mapLines_station]
@[simp] theorem State.refreshLines_passes (s : State) :
    (s.refreshLines).passes = s.passes := by simp only [State.refreshLines, State.mapLines_passes]
@[simp] theorem State.refreshLines_tips (s : State) :
    (s.refreshLines).tips = s.tips := by simp only [State.refreshLines, State.mapLines_tips]
@[simp] theorem State.refreshLines_chutes (s : State) :
    (s.refreshLines).chutes = s.chutes := by simp only [State.refreshLines, State.mapLines_chutes]
@[simp] theorem State.refreshLines_stations (s : State) :
    (s.refreshLines).stations = s.stations := by simp only [State.refreshLines, State.mapLines_stations]
@[simp] theorem State.refreshLines_breaker (s : State) :
    (s.refreshLines).breaker = s.breaker := by simp only [State.refreshLines, State.mapLines_breaker]
@[simp] theorem State.refreshLines_entries (s : State) :
    (s.refreshLines).entries = s.entries := by simp only [State.refreshLines, State.mapLines_entries]
@[simp] theorem State.refreshLines_channels (s : State) :
    (s.refreshLines).channels = s.channels := by simp only [State.refreshLines, State.mapLines_channels]
@[simp] theorem State.refreshLines_scanner (s : State) :
    (s.refreshLines).scanner = s.scanner := by simp only [State.refreshLines, State.mapLines_scanner]
@[simp] theorem State.refreshLines_debounce (s : State) :
    (s.refreshLines).debounce = s.debounce := by simp only [State.refreshLines, State.mapLines_debounce]
@[simp] theorem State.refreshLines_link (s : State) :
    (s.refreshLines).link = s.link := by simp only [State.refreshLines, State.mapLines_link]
@[simp] theorem State.refreshLines_attn (s : State) :
    (s.refreshLines).attn = s.attn := by simp only [State.refreshLines, State.mapLines_attn]
@[simp] theorem State.refreshLines_pending (s : State) :
    (s.refreshLines).pending = s.pending := by simp only [State.refreshLines, State.mapLines_pending]
@[simp] theorem State.refreshLines_pass (s : State) (i : PassIdx) :
    (s.refreshLines).pass i = s.pass i := by simp only [State.pass, State.refreshLines_passes]
@[simp] theorem State.refreshLines_tip (s : State) (i : TipIdx) :
    (s.refreshLines).tip i = s.tip i := by simp only [State.tip, State.refreshLines_tips]
@[simp] theorem State.refreshLines_chute (s : State) (i : ChuteIdx) :
    (s.refreshLines).chute i = s.chute i := by simp only [State.chute, State.refreshLines_chutes]
@[simp] theorem State.refreshLines_bst (s : State) (i : StationIdx) :
    (s.refreshLines).bst i = s.bst i := by simp only [State.bst, State.refreshLines_stations]
@[simp] theorem State.refreshLines_entry (s : State) (i : EntryIdx) :
    (s.refreshLines).entry i = s.entry i := by simp only [State.entry, State.refreshLines_entries]
@[simp] theorem State.refreshLines_channel (s : State) (i : ChannelIdx) :
    (s.refreshLines).channel i = s.channel i := by simp only [State.channel, State.refreshLines_channels]
@[simp] theorem State.refreshLines_bankTime (s : State) (i : BankIdx) :
    (s.refreshLines).bankTime i = s.bankTime i := by simp only [State.bankTime, State.refreshLines_debounce]

@[simp] theorem State.bindLines_inReset (roles : Roles) (s : State) :
    (s.bindLines roles).inReset = s.inReset := by simp only [State.bindLines, State.mapLines_inReset]
@[simp] theorem State.bindLines_station (roles : Roles) (s : State) :
    (s.bindLines roles).station = s.station := by simp only [State.bindLines, State.mapLines_station]
@[simp] theorem State.bindLines_passes (roles : Roles) (s : State) :
    (s.bindLines roles).passes = s.passes := by simp only [State.bindLines, State.mapLines_passes]
@[simp] theorem State.bindLines_tips (roles : Roles) (s : State) :
    (s.bindLines roles).tips = s.tips := by simp only [State.bindLines, State.mapLines_tips]
@[simp] theorem State.bindLines_chutes (roles : Roles) (s : State) :
    (s.bindLines roles).chutes = s.chutes := by simp only [State.bindLines, State.mapLines_chutes]
@[simp] theorem State.bindLines_stations (roles : Roles) (s : State) :
    (s.bindLines roles).stations = s.stations := by simp only [State.bindLines, State.mapLines_stations]
@[simp] theorem State.bindLines_breaker (roles : Roles) (s : State) :
    (s.bindLines roles).breaker = s.breaker := by simp only [State.bindLines, State.mapLines_breaker]
@[simp] theorem State.bindLines_entries (roles : Roles) (s : State) :
    (s.bindLines roles).entries = s.entries := by simp only [State.bindLines, State.mapLines_entries]
@[simp] theorem State.bindLines_channels (roles : Roles) (s : State) :
    (s.bindLines roles).channels = s.channels := by simp only [State.bindLines, State.mapLines_channels]
@[simp] theorem State.bindLines_scanner (roles : Roles) (s : State) :
    (s.bindLines roles).scanner = s.scanner := by simp only [State.bindLines, State.mapLines_scanner]
@[simp] theorem State.bindLines_debounce (roles : Roles) (s : State) :
    (s.bindLines roles).debounce = s.debounce := by simp only [State.bindLines, State.mapLines_debounce]
@[simp] theorem State.bindLines_link (roles : Roles) (s : State) :
    (s.bindLines roles).link = s.link := by simp only [State.bindLines, State.mapLines_link]
@[simp] theorem State.bindLines_attn (roles : Roles) (s : State) :
    (s.bindLines roles).attn = s.attn := by simp only [State.bindLines, State.mapLines_attn]
@[simp] theorem State.bindLines_pending (roles : Roles) (s : State) :
    (s.bindLines roles).pending = s.pending := by simp only [State.bindLines, State.mapLines_pending]
@[simp] theorem State.bindLines_pass (roles : Roles) (s : State) (i : PassIdx) :
    (s.bindLines roles).pass i = s.pass i := by simp only [State.pass, State.bindLines_passes]
@[simp] theorem State.bindLines_tip (roles : Roles) (s : State) (i : TipIdx) :
    (s.bindLines roles).tip i = s.tip i := by simp only [State.tip, State.bindLines_tips]
@[simp] theorem State.bindLines_chute (roles : Roles) (s : State) (i : ChuteIdx) :
    (s.bindLines roles).chute i = s.chute i := by simp only [State.chute, State.bindLines_chutes]
@[simp] theorem State.bindLines_bst (roles : Roles) (s : State) (i : StationIdx) :
    (s.bindLines roles).bst i = s.bst i := by simp only [State.bst, State.bindLines_stations]
@[simp] theorem State.bindLines_entry (roles : Roles) (s : State) (i : EntryIdx) :
    (s.bindLines roles).entry i = s.entry i := by simp only [State.entry, State.bindLines_entries]
@[simp] theorem State.bindLines_channel (roles : Roles) (s : State) (i : ChannelIdx) :
    (s.bindLines roles).channel i = s.channel i := by simp only [State.channel, State.bindLines_channels]
@[simp] theorem State.bindLines_bankTime (roles : Roles) (s : State) (i : BankIdx) :
    (s.bindLines roles).bankTime i = s.bankTime i := by simp only [State.bankTime, State.bindLines_debounce]

@[simp] theorem State.judgeAttn_inReset (s : State) :
    (s.judgeAttn).inReset = s.inReset := by unfold State.judgeAttn; rfl
@[simp] theorem State.judgeAttn_station (s : State) :
    (s.judgeAttn).station = s.station := by unfold State.judgeAttn; rfl
@[simp] theorem State.judgeAttn_passes (s : State) :
    (s.judgeAttn).passes = s.passes := by unfold State.judgeAttn; rfl
@[simp] theorem State.judgeAttn_tips (s : State) :
    (s.judgeAttn).tips = s.tips := by unfold State.judgeAttn; rfl
@[simp] theorem State.judgeAttn_chutes (s : State) :
    (s.judgeAttn).chutes = s.chutes := by unfold State.judgeAttn; rfl
@[simp] theorem State.judgeAttn_stations (s : State) :
    (s.judgeAttn).stations = s.stations := by unfold State.judgeAttn; rfl
@[simp] theorem State.judgeAttn_breaker (s : State) :
    (s.judgeAttn).breaker = s.breaker := by unfold State.judgeAttn; rfl
@[simp] theorem State.judgeAttn_entries (s : State) :
    (s.judgeAttn).entries = s.entries := by unfold State.judgeAttn; rfl
@[simp] theorem State.judgeAttn_channels (s : State) :
    (s.judgeAttn).channels = s.channels := by unfold State.judgeAttn; rfl
@[simp] theorem State.judgeAttn_scanner (s : State) :
    (s.judgeAttn).scanner = s.scanner := by unfold State.judgeAttn; rfl
@[simp] theorem State.judgeAttn_lines (s : State) :
    (s.judgeAttn).lines = s.lines := by unfold State.judgeAttn; rfl
@[simp] theorem State.judgeAttn_debounce (s : State) :
    (s.judgeAttn).debounce = s.debounce := by unfold State.judgeAttn; rfl
@[simp] theorem State.judgeAttn_link (s : State) :
    (s.judgeAttn).link = s.link := by unfold State.judgeAttn; rfl
@[simp] theorem State.judgeAttn_pending (s : State) :
    (s.judgeAttn).pending = s.pending := by unfold State.judgeAttn; rfl
@[simp] theorem State.judgeAttn_pass (s : State) (i : PassIdx) :
    (s.judgeAttn).pass i = s.pass i := by simp only [State.pass, State.judgeAttn_passes]
@[simp] theorem State.judgeAttn_tip (s : State) (i : TipIdx) :
    (s.judgeAttn).tip i = s.tip i := by simp only [State.tip, State.judgeAttn_tips]
@[simp] theorem State.judgeAttn_chute (s : State) (i : ChuteIdx) :
    (s.judgeAttn).chute i = s.chute i := by simp only [State.chute, State.judgeAttn_chutes]
@[simp] theorem State.judgeAttn_bst (s : State) (i : StationIdx) :
    (s.judgeAttn).bst i = s.bst i := by simp only [State.bst, State.judgeAttn_stations]
@[simp] theorem State.judgeAttn_entry (s : State) (i : EntryIdx) :
    (s.judgeAttn).entry i = s.entry i := by simp only [State.entry, State.judgeAttn_entries]
@[simp] theorem State.judgeAttn_channel (s : State) (i : ChannelIdx) :
    (s.judgeAttn).channel i = s.channel i := by simp only [State.channel, State.judgeAttn_channels]
@[simp] theorem State.judgeAttn_line (s : State) (i : LineIdx) :
    (s.judgeAttn).line i = s.line i := by simp only [State.line, State.judgeAttn_lines]
@[simp] theorem State.judgeAttn_bankTime (s : State) (i : BankIdx) :
    (s.judgeAttn).bankTime i = s.bankTime i := by simp only [State.bankTime, State.judgeAttn_debounce]

@[simp] theorem State.endEvent_inReset (s : State) :
    (s.endEvent).inReset = s.inReset := by simp only [State.endEvent, State.judgeAttn_inReset, State.refreshLines_inReset]
@[simp] theorem State.endEvent_station (s : State) :
    (s.endEvent).station = s.station := by simp only [State.endEvent, State.judgeAttn_station, State.refreshLines_station]
@[simp] theorem State.endEvent_passes (s : State) :
    (s.endEvent).passes = s.passes := by simp only [State.endEvent, State.judgeAttn_passes, State.refreshLines_passes]
@[simp] theorem State.endEvent_tips (s : State) :
    (s.endEvent).tips = s.tips := by simp only [State.endEvent, State.judgeAttn_tips, State.refreshLines_tips]
@[simp] theorem State.endEvent_chutes (s : State) :
    (s.endEvent).chutes = s.chutes := by simp only [State.endEvent, State.judgeAttn_chutes, State.refreshLines_chutes]
@[simp] theorem State.endEvent_stations (s : State) :
    (s.endEvent).stations = s.stations := by simp only [State.endEvent, State.judgeAttn_stations, State.refreshLines_stations]
@[simp] theorem State.endEvent_breaker (s : State) :
    (s.endEvent).breaker = s.breaker := by simp only [State.endEvent, State.judgeAttn_breaker, State.refreshLines_breaker]
@[simp] theorem State.endEvent_entries (s : State) :
    (s.endEvent).entries = s.entries := by simp only [State.endEvent, State.judgeAttn_entries, State.refreshLines_entries]
@[simp] theorem State.endEvent_channels (s : State) :
    (s.endEvent).channels = s.channels := by simp only [State.endEvent, State.judgeAttn_channels, State.refreshLines_channels]
@[simp] theorem State.endEvent_scanner (s : State) :
    (s.endEvent).scanner = s.scanner := by simp only [State.endEvent, State.judgeAttn_scanner, State.refreshLines_scanner]
@[simp] theorem State.endEvent_debounce (s : State) :
    (s.endEvent).debounce = s.debounce := by simp only [State.endEvent, State.judgeAttn_debounce, State.refreshLines_debounce]
@[simp] theorem State.endEvent_link (s : State) :
    (s.endEvent).link = s.link := by simp only [State.endEvent, State.judgeAttn_link, State.refreshLines_link]
@[simp] theorem State.endEvent_pending (s : State) :
    (s.endEvent).pending = s.pending := by simp only [State.endEvent, State.judgeAttn_pending, State.refreshLines_pending]
@[simp] theorem State.endEvent_pass (s : State) (i : PassIdx) :
    (s.endEvent).pass i = s.pass i := by simp only [State.pass, State.endEvent_passes]
@[simp] theorem State.endEvent_tip (s : State) (i : TipIdx) :
    (s.endEvent).tip i = s.tip i := by simp only [State.tip, State.endEvent_tips]
@[simp] theorem State.endEvent_chute (s : State) (i : ChuteIdx) :
    (s.endEvent).chute i = s.chute i := by simp only [State.chute, State.endEvent_chutes]
@[simp] theorem State.endEvent_bst (s : State) (i : StationIdx) :
    (s.endEvent).bst i = s.bst i := by simp only [State.bst, State.endEvent_stations]
@[simp] theorem State.endEvent_entry (s : State) (i : EntryIdx) :
    (s.endEvent).entry i = s.entry i := by simp only [State.entry, State.endEvent_entries]
@[simp] theorem State.endEvent_channel (s : State) (i : ChannelIdx) :
    (s.endEvent).channel i = s.channel i := by simp only [State.channel, State.endEvent_channels]
@[simp] theorem State.endEvent_bankTime (s : State) (i : BankIdx) :
    (s.endEvent).bankTime i = s.bankTime i := by simp only [State.bankTime, State.endEvent_debounce]

@[simp] theorem State.endEvent_line (s : State) (i : LineIdx) :
    s.endEvent.line i = s.refreshLine i (s.line i) := by
  simp [State.endEvent]

/-- The levels functions read do not change at the end of an event: an edge follows only at an expiry. -/
@[simp] theorem State.endEvent_level (s : State) (f : LineFn) : s.endEvent.level f = s.level f :=
  State.level_congr (fun i => by simp) (fun i => by simp) f

@[simp] theorem State.endEvent_lineOf (s : State) (f : LineFn) : s.endEvent.lineOf f = s.lineOf f :=
  State.lineOf_congr (fun i => by simp) f

@[simp] theorem State.endEvent_closedHigh (s : State) (c : ChuteIdx) :
    s.endEvent.closedHigh c = s.closedHigh c := s.endEvent_level _

/-- The end of an event leaves what each pin is driven with. -/
theorem State.pinLevel_endEvent (s : State) (i : LineIdx) : s.endEvent.pinLevel i = s.pinLevel i := by
  have hc : ∀ f, s.endEvent.command f = s.command f := fun f =>
    State.command_congr (by simp) (by simp) (by simp) (by simp) (by simp) (fun c => by simp) f
  simp [State.pinLevel, State.drive, hc]

end Sys2Proof.Machine
end

