-- ==== Sys2Proof/Laws/PerInstr.lean ====
section
/-! SUPPORT. Statements about every command as syntax, one lemma per constructor of `Instr`. -/

namespace Sys2Proof.Laws.EncodedFits

/-- What an encoding gives a frame (section 10.3, R175, R178): a code of the request table, one byte, for a
command that carries a reply tag; and a length that fits the length byte, where the length is right. -/
def Statement (i : Instr) : Prop :=
  i.wellFormed = true → ∀ (code : Nat) (body : List Byte), encodeRequest i = some (code, body) →
    code ∈ Config.requestCodes ∧ code < 256
      ∧ ∃ rq, i.request? = some rq ∧ rq.length ≤ Config.bodyMax ∧ rq.tag < 65536

/-- A command whose encoding is a fixed code and some body fits. -/
theorem of_code {i : Instr} {rq : Request} {n : Nat} {b : List Byte}
    (he : encodeRequest i = some (n, b)) (hr : i.request? = some rq) (hn : n ∈ Config.requestCodes)
    (hn' : n < 256) (hw : i.wellFormed = true → rq.wellFormed = true) : Statement i := by
  intro h code body h'
  rw [he] at h'
  obtain ⟨rfl, rfl⟩ := Prod.mk.inj (Option.some.inj h')
  have w := hw h
  simp only [Request.wellFormed, fitsWord, Bool.and_eq_true, decide_eq_true_eq] at w
  exact ⟨hn, hn', rq, hr, w.2, w.1⟩

/-- A command with no encoding fits. -/
theorem of_none {i : Instr} (he : encodeRequest i = none) : Statement i := by
  intro _ code body h'
  rw [he] at h'
  exact absurd h' (by simp)

theorem powerOn :
    Statement .powerOn :=
  of_none rfl

theorem resetLine :
    Statement .resetLine :=
  of_none rfl

theorem resetRelease (address : Nat) (baud : Nat) :
    Statement (.resetRelease address baud) :=
  of_none rfl

theorem definePass (rq : Request) (pass : Nat) (height : Nat) (count : Nat) (segments : List Segment) :
    Statement (.definePass rq pass height count segments) :=
  of_code rfl rfl (by decide) (by decide)
    (by simp only [Instr.wellFormed, Bool.and_eq_true]; tauto)

theorem defineTip (rq : Request) (tip : Nat) (pass : Nat) (elevation : Nat) (load : Nat) (level : Nat) (grizzly : Option Nat) (call : Option Nat) (sensor : Option Nat) (lamp : Option Nat) (oversize : Option Nat) :
    Statement (.defineTip rq tip pass elevation load level grizzly call sensor lamp oversize) :=
  of_code rfl rfl (by decide) (by decide)
    (by simp only [Instr.wellFormed, Bool.and_eq_true]; tauto)

theorem defineChute (rq : Request) (chute : Nat) (pass : Nat) (elevation : Nat) (volume : Nat) (openValve : Option Nat) (closeValve : Option Nat) (openLimit : Option Nat) (closedLimit : Option Nat) (loadCall : Option Nat) :
    Statement (.defineChute rq chute pass elevation volume openValve closeValve openLimit closedLimit loadCall) :=
  of_code rfl rfl (by decide) (by decide)
    (by simp only [Instr.wellFormed, Bool.and_eq_true]; tauto)

theorem defineBreakerStation (rq : Request) (station : Nat) (tip : Nat) (group : Nat) :
    Statement (.defineBreakerStation rq station tip group) :=
  of_code rfl rfl (by decide) (by decide)
    (by simp only [Instr.wellFormed, Bool.and_eq_true]; tauto)

theorem defineBreaker (rq : Request) (go : Option Nat) (code0 : Option Nat) (code1 : Option Nat) (inPosition : Option Nat) (grizzlyClear : Option Nat) (parked : Option Nat) :
    Statement (.defineBreaker rq go code0 code1 inPosition grizzlyClear parked) :=
  of_code rfl rfl (by decide) (by decide)
    (by simp only [Instr.wellFormed, Bool.and_eq_true]; tauto)

theorem defineChannel (rq : Request) (channel : Nat) (assignment : Option Nat) (zeroAt : Nat) (span : Nat) (testLine : Option Nat) :
    Statement (.defineChannel rq channel assignment zeroAt span testLine) :=
  of_code rfl rfl (by decide) (by decide)
    (by simp only [Instr.wellFormed, Bool.and_eq_true]; tauto)

theorem defineStation (rq : Request) (estop : Option Nat) :
    Statement (.defineStation rq estop) :=
  of_code rfl rfl (by decide) (by decide)
    (by simp only [Instr.wellFormed, Bool.and_eq_true]; tauto)

theorem read (rq : Request) (type : Nat) (index : Nat) :
    Statement (.read rq type index) :=
  of_code rfl rfl (by decide) (by decide)
    (by simp only [Instr.wellFormed, Bool.and_eq_true]; tauto)

theorem tunePass (rq : Request) (pass : Nat) (tipLimit : Nat) (cushion : Nat) (hang : Nat) (shift : Nat) (disagreement : Nat) (stale : Nat) :
    Statement (.tunePass rq pass tipLimit cushion hang shift disagreement stale) :=
  of_code rfl rfl (by decide) (by decide)
    (by simp only [Instr.wellFormed, Bool.and_eq_true]; tauto)

theorem tuneTip (rq : Request) (tip : Nat) (timeout : Nat) (level : Nat) :
    Statement (.tuneTip rq tip timeout level) :=
  of_code rfl rfl (by decide) (by decide)
    (by simp only [Instr.wellFormed, Bool.and_eq_true]; tauto)

theorem tuneChute (rq : Request) (chute : Nat) (holdTime : Nat) (strokeTime : Nat) (nudgeTime : Nat) (interval : Nat) :
    Statement (.tuneChute rq chute holdTime strokeTime nudgeTime interval) :=
  of_code rfl rfl (by decide) (by decide)
    (by simp only [Instr.wellFormed, Bool.and_eq_true]; tauto)

theorem tuneStation (rq : Request) (settleTime : Nat) (travelLimit : Nat) (breakLimit : Nat) (proofWindow : Nat) :
    Statement (.tuneStation rq settleTime travelLimit breakLimit proofWindow) :=
  of_code rfl rfl (by decide) (by decide)
    (by simp only [Instr.wellFormed, Bool.and_eq_true]; tauto)

theorem setFill (rq : Request) (pass : Nat) (volume : Nat) :
    Statement (.setFill rq pass volume) :=
  of_code rfl rfl (by decide) (by decide)
    (by simp only [Instr.wellFormed, Bool.and_eq_true]; tauto)

theorem clearHang (rq : Request) (pass : Nat) :
    Statement (.clearHang rq pass) :=
  of_code rfl rfl (by decide) (by decide)
    (by simp only [Instr.wellFormed, Bool.and_eq_true]; tauto)

theorem callTip (rq : Request) (tip : Nat) :
    Statement (.callTip rq tip) :=
  of_code rfl rfl (by decide) (by decide)
    (by simp only [Instr.wellFormed, Bool.and_eq_true]; tauto)

theorem withdraw (rq : Request) (tip : Nat) :
    Statement (.withdraw rq tip) :=
  of_code rfl rfl (by decide) (by decide)
    (by simp only [Instr.wellFormed, Bool.and_eq_true]; tauto)

theorem order (rq : Request) (chute : Nat) (count : Nat) :
    Statement (.order rq chute count) :=
  of_code rfl rfl (by decide) (by decide)
    (by simp only [Instr.wellFormed, Bool.and_eq_true]; tauto)

theorem hold (rq : Request) (chutes : BitVec 8) :
    Statement (.hold rq chutes) :=
  of_code rfl rfl (by decide) (by decide) id

theorem free (rq : Request) (chutes : BitVec 8) :
    Statement (.free rq chutes) :=
  of_code rfl rfl (by decide) (by decide) id

theorem breakJob (rq : Request) (station : Nat) (level : Nat) :
    Statement (.breakJob rq station level) :=
  of_code rfl rfl (by decide) (by decide)
    (by simp only [Instr.wellFormed, Bool.and_eq_true]; tauto)

theorem floor (rq : Request) (level : Nat) :
    Statement (.floor rq level) :=
  of_code rfl rfl (by decide) (by decide)
    (by simp only [Instr.wellFormed, Bool.and_eq_true]; tauto)

theorem postClearance (rq : Request) (kind : Nat) (pass : Nat) (low : Nat) (high : Nat) (tips : BitVec 16) (chutes : BitVec 8) (breaker : Bool) (tag : Nat) :
    Statement (.postClearance rq kind pass low high tips chutes breaker tag) :=
  of_code rfl rfl (by decide) (by decide)
    (by simp only [Instr.wellFormed, Bool.and_eq_true]; tauto)

theorem join (rq : Request) (entry : Nat) (tag : Nat) :
    Statement (.join rq entry tag) :=
  of_code rfl rfl (by decide) (by decide)
    (by simp only [Instr.wellFormed, Bool.and_eq_true]; tauto)

theorem leave (rq : Request) (entry : Nat) (tag : Nat) :
    Statement (.leave rq entry tag) :=
  of_code rfl rfl (by decide) (by decide)
    (by simp only [Instr.wellFormed, Bool.and_eq_true]; tauto)

theorem cancel (rq : Request) (entry : Nat) :
    Statement (.cancel rq entry) :=
  of_code rfl rfl (by decide) (by decide)
    (by simp only [Instr.wellFormed, Bool.and_eq_true]; tauto)

theorem proveChute (rq : Request) (chute : Nat) :
    Statement (.proveChute rq chute) :=
  of_code rfl rfl (by decide) (by decide)
    (by simp only [Instr.wellFormed, Bool.and_eq_true]; tauto)

theorem proveChannel (rq : Request) (channel : Nat) :
    Statement (.proveChannel rq channel) :=
  of_code rfl rfl (by decide) (by decide)
    (by simp only [Instr.wellFormed, Bool.and_eq_true]; tauto)

theorem acceptProof (rq : Request) (type : Nat) (index : Nat) :
    Statement (.acceptProof rq type index) :=
  of_code rfl rfl (by decide) (by decide)
    (by simp only [Instr.wellFormed, Bool.and_eq_true]; tauto)

theorem linesRead (rq : Request) (bank : Nat) :
    Statement (.linesRead rq bank) :=
  of_code rfl rfl (by decide) (by decide)
    (by simp only [Instr.wellFormed, Bool.and_eq_true]; tauto)

theorem linesWrite (rq : Request) (bank : Nat) (directionSet : BitVec 8) (directions : BitVec 8) (latchSet : BitVec 8) (latches : BitVec 8) (debounce : Option Nat) :
    Statement (.linesWrite rq bank directionSet directions latchSet latches debounce) :=
  of_code rfl rfl (by decide) (by decide)
    (by simp only [Instr.wellFormed, Bool.and_eq_true]; tauto)

theorem scanList (rq : Request) (quiet : BitVec 8) (breaking : BitVec 8) :
    Statement (.scanList rq quiet breaking) :=
  of_code rfl rfl (by decide) (by decide) id

theorem start (rq : Request) :
    Statement (.start rq) :=
  of_code rfl rfl (by decide) (by decide) id

theorem stop (rq : Request) :
    Statement (.stop rq) :=
  of_code rfl rfl (by decide) (by decide) id

theorem resume (rq : Request) :
    Statement (.resume rq) :=
  of_code rfl rfl (by decide) (by decide) id

theorem setup (rq : Request) :
    Statement (.setup rq) :=
  of_code rfl rfl (by decide) (by decide) id

theorem acknowledge (rq : Request) (type : Nat) (index : Nat) (conditions : BitVec 32) :
    Statement (.acknowledge rq type index conditions) :=
  of_code rfl rfl (by decide) (by decide)
    (by simp only [Instr.wellFormed, Bool.and_eq_true]; tauto)

theorem summary (rq : Request) :
    Statement (.summary rq) :=
  of_code rfl rfl (by decide) (by decide) id

theorem attentionMask (rq : Request) (kinds : BitVec 32) :
    Statement (.attentionMask rq kinds) :=
  of_code rfl rfl (by decide) (by decide) id

theorem unknownRequest (rq : Request) (code : Nat) :
    Statement (.unknownRequest rq code) :=
  of_none rfl

theorem broadcastStop :
    Statement .broadcastStop :=
  of_none rfl

theorem ignoredFrame :
    Statement .ignoredFrame :=
  of_none rfl

theorem frameGapTimeout :
    Statement .frameGapTimeout :=
  of_none rfl

theorem answerSend :
    Statement .answerSend :=
  of_none rfl

theorem rawLevelChange (line : LineIdx) (level : Bool) :
    Statement (.rawLevelChange line level) :=
  of_none rfl

theorem debounceExpiry (line : LineIdx) :
    Statement (.debounceExpiry line) :=
  of_none rfl

theorem grantTimerExpiry (tip : TipIdx) :
    Statement (.grantTimerExpiry tip) :=
  of_none rfl

theorem holdTimerExpiry (chute : ChuteIdx) :
    Statement (.holdTimerExpiry chute) :=
  of_none rfl

theorem strokeTimerExpiry (chute : ChuteIdx) :
    Statement (.strokeTimerExpiry chute) :=
  of_none rfl

theorem nudgeTimerExpiry (chute : ChuteIdx) :
    Statement (.nudgeTimerExpiry chute) :=
  of_none rfl

theorem conversionCompletion (current : Nat) :
    Statement (.conversionCompletion current) :=
  of_none rfl

theorem stalenessExpiry (channel : ChannelIdx) :
    Statement (.stalenessExpiry channel) :=
  of_none rfl

theorem windowTimerExpiry (channel : ChannelIdx) :
    Statement (.windowTimerExpiry channel) :=
  of_none rfl

theorem settleMarkExpiry (channel : ChannelIdx) :
    Statement (.settleMarkExpiry channel) :=
  of_none rfl

theorem settleTimerExpiry (entry : EntryIdx) :
    Statement (.settleTimerExpiry entry) :=
  of_none rfl

theorem travelTimerExpiry :
    Statement .travelTimerExpiry :=
  of_none rfl

theorem breakTimerExpiry :
    Statement .breakTimerExpiry :=
  of_none rfl

theorem returnTimerExpiry :
    Statement .returnTimerExpiry :=
  of_none rfl

theorem frameStartByte :
    Statement .frameStartByte :=
  of_none rfl

theorem framingError :
    Statement .framingError :=
  of_none rfl

theorem lengthAbove240 :
    Statement .lengthAbove240 :=
  of_none rfl

theorem answerSent :
    Statement .answerSent :=
  of_none rfl

theorem ageTick :
    Statement .ageTick :=
  of_none rfl

end Sys2Proof.Laws.EncodedFits
end

