-- ==== Sys2Proof/Laws/Records.lean ====
section
/-! SUPPORT. The fields each change of a record leaves, and what raising and acknowledging do to one condition. -/

namespace Sys2Proof

/-- A clamp as a minimum and a maximum. -/
theorem clamp_eq {a b : Nat} (h : a ≤ b) (x : Nat) : clamp a b x = min (max x a) b := by
  unfold clamp
  split
  · omega
  · split <;> omega

end Sys2Proof

namespace Sys2Proof.Machine

/-! ## Conditions -/

theorem CondKind.number_lt (k : CondKind) : k.number < 32 := by cases k <;> decide

theorem CondKind.number_injective {a b : CondKind} (h : a.number = b.number) : a = b := by
  revert h
  cases a <;> cases b <;> decide

/-- After a raise, a kind is raised exactly where it is the one raised or was raised before. -/
theorem raised_raise (k k' : CondKind) (c : CondSet) :
    raised k (raise k' c) = (raised k c || decide (k = k')) := by
  unfold raised raise
  rw [BitVec.getLsbD_or, BitVec.getLsbD_twoPow]
  by_cases h : k = k'
  · subst h
    simp [CondKind.number_lt]
  · have hn : ¬ k'.number = k.number := fun he => h (CondKind.number_injective he).symm
    simp [h, hn]

@[simp] theorem raised_raise_self (k : CondKind) (c : CondSet) : raised k (raise k c) = true := by
  simp [raised_raise]

theorem raised_raiseIf (b : Bool) (k k' : CondKind) (c : CondSet) :
    raised k (raiseIf b k' c) = (raised k c || (b && decide (k = k'))) := by
  cases b <;> simp [raiseIf, raised_raise]

/-- After an acknowledgement, a kind is raised exactly where it was and is not in the set. -/
theorem raised_acknowledged (k : CondKind) (set c : CondSet) :
    raised k (acknowledged set c) = (raised k c && !raised k set) := by
  simp [raised, acknowledged, CondKind.number_lt]

/-! ## What each change of a record leaves -/

@[simp] theorem Pass.credit_defined (load : Nat) (q : Pass) : (q.credit load).defined = q.defined := by
  unfold Pass.credit
  split <;> rfl
@[simp] theorem Pass.credit_height (load : Nat) (q : Pass) : (q.credit load).height = q.height := by
  unfold Pass.credit
  split <;> rfl
@[simp] theorem Pass.credit_profile (load : Nat) (q : Pass) : (q.credit load).profile = q.profile := by
  unfold Pass.credit
  split <;> rfl
@[simp] theorem Pass.credit_capacity (load : Nat) (q : Pass) : (q.credit load).capacity = q.capacity := by
  unfold Pass.credit
  split <;> rfl
@[simp] theorem Pass.credit_tipLimit (load : Nat) (q : Pass) : (q.credit load).tipLimit = q.tipLimit := by
  unfold Pass.credit
  split <;> rfl
@[simp] theorem Pass.credit_cushion (load : Nat) (q : Pass) : (q.credit load).cushion = q.cushion := by
  unfold Pass.credit
  split <;> rfl
@[simp] theorem Pass.credit_hangThreshold (load : Nat) (q : Pass) : (q.credit load).hangThreshold = q.hangThreshold := by
  unfold Pass.credit
  split <;> rfl
@[simp] theorem Pass.credit_blendShift (load : Nat) (q : Pass) : (q.credit load).blendShift = q.blendShift := by
  unfold Pass.credit
  split <;> rfl
@[simp] theorem Pass.credit_disagreement (load : Nat) (q : Pass) : (q.credit load).disagreement = q.disagreement := by
  unfold Pass.credit
  split <;> rfl
@[simp] theorem Pass.credit_staleLimit (load : Nat) (q : Pass) : (q.credit load).staleLimit = q.staleLimit := by
  unfold Pass.credit
  split <;> rfl
@[simp] theorem Pass.credit_known (load : Nat) (q : Pass) : (q.credit load).known = q.known := by
  unfold Pass.credit
  split <;> rfl
@[simp] theorem Pass.credit_d (load : Nat) (q : Pass) : (q.credit load).d = q.d := by
  unfold Pass.credit
  split <;> rfl
@[simp] theorem Pass.credit_reserved (load : Nat) (q : Pass) : (q.credit load).reserved = q.reserved := by
  unfold Pass.credit
  split <;> rfl
@[simp] theorem Pass.credit_state (load : Nat) (q : Pass) : (q.credit load).state = q.state := by
  unfold Pass.credit
  split <;> rfl
@[simp] theorem Pass.credit_amended (load : Nat) (q : Pass) : (q.credit load).amended = q.amended := by
  unfold Pass.credit
  split <;> rfl
@[simp] theorem Pass.credit_waiting (load : Nat) (q : Pass) : (q.credit load).waiting = q.waiting := by
  unfold Pass.credit
  split <;> rfl

@[simp] theorem Pass.debit_defined (volume : Nat) (q : Pass) : (q.debit volume).defined = q.defined := by
  unfold Pass.debit
  split <;> rfl
@[simp] theorem Pass.debit_height (volume : Nat) (q : Pass) : (q.debit volume).height = q.height := by
  unfold Pass.debit
  split <;> rfl
@[simp] theorem Pass.debit_profile (volume : Nat) (q : Pass) : (q.debit volume).profile = q.profile := by
  unfold Pass.debit
  split <;> rfl
@[simp] theorem Pass.debit_capacity (volume : Nat) (q : Pass) : (q.debit volume).capacity = q.capacity := by
  unfold Pass.debit
  split <;> rfl
@[simp] theorem Pass.debit_tipLimit (volume : Nat) (q : Pass) : (q.debit volume).tipLimit = q.tipLimit := by
  unfold Pass.debit
  split <;> rfl
@[simp] theorem Pass.debit_cushion (volume : Nat) (q : Pass) : (q.debit volume).cushion = q.cushion := by
  unfold Pass.debit
  split <;> rfl
@[simp] theorem Pass.debit_hangThreshold (volume : Nat) (q : Pass) : (q.debit volume).hangThreshold = q.hangThreshold := by
  unfold Pass.debit
  split <;> rfl
@[simp] theorem Pass.debit_blendShift (volume : Nat) (q : Pass) : (q.debit volume).blendShift = q.blendShift := by
  unfold Pass.debit
  split <;> rfl
@[simp] theorem Pass.debit_disagreement (volume : Nat) (q : Pass) : (q.debit volume).disagreement = q.disagreement := by
  unfold Pass.debit
  split <;> rfl
@[simp] theorem Pass.debit_staleLimit (volume : Nat) (q : Pass) : (q.debit volume).staleLimit = q.staleLimit := by
  unfold Pass.debit
  split <;> rfl
@[simp] theorem Pass.debit_known (volume : Nat) (q : Pass) : (q.debit volume).known = q.known := by
  unfold Pass.debit
  split <;> rfl
@[simp] theorem Pass.debit_r (volume : Nat) (q : Pass) : (q.debit volume).r = q.r := by
  unfold Pass.debit
  split <;> rfl
@[simp] theorem Pass.debit_reserved (volume : Nat) (q : Pass) : (q.debit volume).reserved = q.reserved := by
  unfold Pass.debit
  split <;> rfl
@[simp] theorem Pass.debit_state (volume : Nat) (q : Pass) : (q.debit volume).state = q.state := by
  unfold Pass.debit
  split <;> rfl
@[simp] theorem Pass.debit_amended (volume : Nat) (q : Pass) : (q.debit volume).amended = q.amended := by
  unfold Pass.debit
  split <;> rfl
@[simp] theorem Pass.debit_waiting (volume : Nat) (q : Pass) : (q.debit volume).waiting = q.waiting := by
  unfold Pass.debit
  split <;> rfl

@[simp] theorem Pass.setFill_defined (volume : Nat) (q : Pass) : (q.setFill volume).defined = q.defined := rfl
@[simp] theorem Pass.setFill_height (volume : Nat) (q : Pass) : (q.setFill volume).height = q.height := rfl
@[simp] theorem Pass.setFill_profile (volume : Nat) (q : Pass) : (q.setFill volume).profile = q.profile := rfl
@[simp] theorem Pass.setFill_capacity (volume : Nat) (q : Pass) : (q.setFill volume).capacity = q.capacity := rfl
@[simp] theorem Pass.setFill_tipLimit (volume : Nat) (q : Pass) : (q.setFill volume).tipLimit = q.tipLimit := rfl
@[simp] theorem Pass.setFill_cushion (volume : Nat) (q : Pass) : (q.setFill volume).cushion = q.cushion := rfl
@[simp] theorem Pass.setFill_hangThreshold (volume : Nat) (q : Pass) : (q.setFill volume).hangThreshold = q.hangThreshold := rfl
@[simp] theorem Pass.setFill_blendShift (volume : Nat) (q : Pass) : (q.setFill volume).blendShift = q.blendShift := rfl
@[simp] theorem Pass.setFill_disagreement (volume : Nat) (q : Pass) : (q.setFill volume).disagreement = q.disagreement := rfl
@[simp] theorem Pass.setFill_staleLimit (volume : Nat) (q : Pass) : (q.setFill volume).staleLimit = q.staleLimit := rfl
@[simp] theorem Pass.setFill_reserved (volume : Nat) (q : Pass) : (q.setFill volume).reserved = q.reserved := rfl
@[simp] theorem Pass.setFill_amended (volume : Nat) (q : Pass) : (q.setFill volume).amended = q.amended := rfl
@[simp] theorem Pass.setFill_waiting (volume : Nat) (q : Pass) : (q.setFill volume).waiting = q.waiting := rfl
@[simp] theorem Pass.setFill_conds (volume : Nat) (q : Pass) : (q.setFill volume).conds = q.conds := rfl

@[simp] theorem Pass.enterService_defined (q : Pass) : (q.enterService).defined = q.defined := rfl
@[simp] theorem Pass.enterService_height (q : Pass) : (q.enterService).height = q.height := rfl
@[simp] theorem Pass.enterService_profile (q : Pass) : (q.enterService).profile = q.profile := rfl
@[simp] theorem Pass.enterService_capacity (q : Pass) : (q.enterService).capacity = q.capacity := rfl
@[simp] theorem Pass.enterService_tipLimit (q : Pass) : (q.enterService).tipLimit = q.tipLimit := rfl
@[simp] theorem Pass.enterService_cushion (q : Pass) : (q.enterService).cushion = q.cushion := rfl
@[simp] theorem Pass.enterService_hangThreshold (q : Pass) : (q.enterService).hangThreshold = q.hangThreshold := rfl
@[simp] theorem Pass.enterService_blendShift (q : Pass) : (q.enterService).blendShift = q.blendShift := rfl
@[simp] theorem Pass.enterService_disagreement (q : Pass) : (q.enterService).disagreement = q.disagreement := rfl
@[simp] theorem Pass.enterService_staleLimit (q : Pass) : (q.enterService).staleLimit = q.staleLimit := rfl
@[simp] theorem Pass.enterService_e (q : Pass) : (q.enterService).e = q.e := rfl
@[simp] theorem Pass.enterService_known (q : Pass) : (q.enterService).known = q.known := rfl
@[simp] theorem Pass.enterService_r (q : Pass) : (q.enterService).r = q.r := rfl
@[simp] theorem Pass.enterService_reserved (q : Pass) : (q.enterService).reserved = q.reserved := rfl
@[simp] theorem Pass.enterService_amended (q : Pass) : (q.enterService).amended = q.amended := rfl
@[simp] theorem Pass.enterService_waiting (q : Pass) : (q.enterService).waiting = q.waiting := rfl
@[simp] theorem Pass.enterService_conds (q : Pass) : (q.enterService).conds = q.conds := rfl

@[simp] theorem Pass.leaveService_defined (q : Pass) : (q.leaveService).defined = q.defined := by
  unfold Pass.leaveService
  split
  · rfl
  · split <;> rfl
@[simp] theorem Pass.leaveService_height (q : Pass) : (q.leaveService).height = q.height := by
  unfold Pass.leaveService
  split
  · rfl
  · split <;> rfl
@[simp] theorem Pass.leaveService_profile (q : Pass) : (q.leaveService).profile = q.profile := by
  unfold Pass.leaveService
  split
  · rfl
  · split <;> rfl
@[simp] theorem Pass.leaveService_capacity (q : Pass) : (q.leaveService).capacity = q.capacity := by
  unfold Pass.leaveService
  split
  · rfl
  · split <;> rfl
@[simp] theorem Pass.leaveService_tipLimit (q : Pass) : (q.leaveService).tipLimit = q.tipLimit := by
  unfold Pass.leaveService
  split
  · rfl
  · split <;> rfl
@[simp] theorem Pass.leaveService_cushion (q : Pass) : (q.leaveService).cushion = q.cushion := by
  unfold Pass.leaveService
  split
  · rfl
  · split <;> rfl
@[simp] theorem Pass.leaveService_hangThreshold (q : Pass) : (q.leaveService).hangThreshold = q.hangThreshold := by
  unfold Pass.leaveService
  split
  · rfl
  · split <;> rfl
@[simp] theorem Pass.leaveService_blendShift (q : Pass) : (q.leaveService).blendShift = q.blendShift := by
  unfold Pass.leaveService
  split
  · rfl
  · split <;> rfl
@[simp] theorem Pass.leaveService_disagreement (q : Pass) : (q.leaveService).disagreement = q.disagreement := by
  unfold Pass.leaveService
  split
  · rfl
  · split <;> rfl
@[simp] theorem Pass.leaveService_staleLimit (q : Pass) : (q.leaveService).staleLimit = q.staleLimit := by
  unfold Pass.leaveService
  split
  · rfl
  · split <;> rfl
@[simp] theorem Pass.leaveService_e (q : Pass) : (q.leaveService).e = q.e := by
  unfold Pass.leaveService
  split
  · rfl
  · split <;> rfl
@[simp] theorem Pass.leaveService_reserved (q : Pass) : (q.leaveService).reserved = q.reserved := by
  unfold Pass.leaveService
  split
  · rfl
  · split <;> rfl
@[simp] theorem Pass.leaveService_waiting (q : Pass) : (q.leaveService).waiting = q.waiting := by
  unfold Pass.leaveService
  split
  · rfl
  · split <;> rfl
@[simp] theorem Pass.leaveService_conds (q : Pass) : (q.leaveService).conds = q.conds := by
  unfold Pass.leaveService
  split
  · rfl
  · split <;> rfl

@[simp] theorem Pass.start_defined (q : Pass) : (q.start).defined = q.defined := by
  unfold Pass.start
  split
  · split <;> rfl
  · rfl
@[simp] theorem Pass.start_height (q : Pass) : (q.start).height = q.height := by
  unfold Pass.start
  split
  · split <;> rfl
  · rfl
@[simp] theorem Pass.start_profile (q : Pass) : (q.start).profile = q.profile := by
  unfold Pass.start
  split
  · split <;> rfl
  · rfl
@[simp] theorem Pass.start_capacity (q : Pass) : (q.start).capacity = q.capacity := by
  unfold Pass.start
  split
  · split <;> rfl
  · rfl
@[simp] theorem Pass.start_tipLimit (q : Pass) : (q.start).tipLimit = q.tipLimit := by
  unfold Pass.start
  split
  · split <;> rfl
  · rfl
@[simp] theorem Pass.start_cushion (q : Pass) : (q.start).cushion = q.cushion := by
  unfold Pass.start
  split
  · split <;> rfl
  · rfl
@[simp] theorem Pass.start_hangThreshold (q : Pass) : (q.start).hangThreshold = q.hangThreshold := by
  unfold Pass.start
  split
  · split <;> rfl
  · rfl
@[simp] theorem Pass.start_blendShift (q : Pass) : (q.start).blendShift = q.blendShift := by
  unfold Pass.start
  split
  · split <;> rfl
  · rfl
@[simp] theorem Pass.start_disagreement (q : Pass) : (q.start).disagreement = q.disagreement := by
  unfold Pass.start
  split
  · split <;> rfl
  · rfl
@[simp] theorem Pass.start_staleLimit (q : Pass) : (q.start).staleLimit = q.staleLimit := by
  unfold Pass.start
  split
  · split <;> rfl
  · rfl
@[simp] theorem Pass.start_e (q : Pass) : (q.start).e = q.e := by
  unfold Pass.start
  split
  · split <;> rfl
  · rfl
@[simp] theorem Pass.start_known (q : Pass) : (q.start).known = q.known := by
  unfold Pass.start
  split
  · split <;> rfl
  · rfl
@[simp] theorem Pass.start_reserved (q : Pass) : (q.start).reserved = q.reserved := by
  unfold Pass.start
  split
  · split <;> rfl
  · rfl
@[simp] theorem Pass.start_amended (q : Pass) : (q.start).amended = q.amended := by
  unfold Pass.start
  split
  · split <;> rfl
  · rfl
@[simp] theorem Pass.start_waiting (q : Pass) : (q.start).waiting = q.waiting := by
  unfold Pass.start
  split
  · split <;> rfl
  · rfl
@[simp] theorem Pass.start_conds (q : Pass) : (q.start).conds = q.conds := by
  unfold Pass.start
  split
  · split <;> rfl
  · rfl

@[simp] theorem Pass.measure_defined (m : Nat) (q : Pass) : (q.measure m).defined = q.defined := by
  unfold Pass.measure
  split
  · rfl
  · unfold Pass.measureRunning
    dsimp only
    repeat' split
    all_goals rfl
  · unfold Pass.measureHung
    split <;> rfl
  · unfold Pass.measureService
    split <;> rfl
@[simp] theorem Pass.measure_height (m : Nat) (q : Pass) : (q.measure m).height = q.height := by
  unfold Pass.measure
  split
  · rfl
  · unfold Pass.measureRunning
    dsimp only
    repeat' split
    all_goals rfl
  · unfold Pass.measureHung
    split <;> rfl
  · unfold Pass.measureService
    split <;> rfl
@[simp] theorem Pass.measure_profile (m : Nat) (q : Pass) : (q.measure m).profile = q.profile := by
  unfold Pass.measure
  split
  · rfl
  · unfold Pass.measureRunning
    dsimp only
    repeat' split
    all_goals rfl
  · unfold Pass.measureHung
    split <;> rfl
  · unfold Pass.measureService
    split <;> rfl
@[simp] theorem Pass.measure_capacity (m : Nat) (q : Pass) : (q.measure m).capacity = q.capacity := by
  unfold Pass.measure
  split
  · rfl
  · unfold Pass.measureRunning
    dsimp only
    repeat' split
    all_goals rfl
  · unfold Pass.measureHung
    split <;> rfl
  · unfold Pass.measureService
    split <;> rfl
@[simp] theorem Pass.measure_tipLimit (m : Nat) (q : Pass) : (q.measure m).tipLimit = q.tipLimit := by
  unfold Pass.measure
  split
  · rfl
  · unfold Pass.measureRunning
    dsimp only
    repeat' split
    all_goals rfl
  · unfold Pass.measureHung
    split <;> rfl
  · unfold Pass.measureService
    split <;> rfl
@[simp] theorem Pass.measure_cushion (m : Nat) (q : Pass) : (q.measure m).cushion = q.cushion := by
  unfold Pass.measure
  split
  · rfl
  · unfold Pass.measureRunning
    dsimp only
    repeat' split
    all_goals rfl
  · unfold Pass.measureHung
    split <;> rfl
  · unfold Pass.measureService
    split <;> rfl
@[simp] theorem Pass.measure_hangThreshold (m : Nat) (q : Pass) : (q.measure m).hangThreshold = q.hangThreshold := by
  unfold Pass.measure
  split
  · rfl
  · unfold Pass.measureRunning
    dsimp only
    repeat' split
    all_goals rfl
  · unfold Pass.measureHung
    split <;> rfl
  · unfold Pass.measureService
    split <;> rfl
@[simp] theorem Pass.measure_blendShift (m : Nat) (q : Pass) : (q.measure m).blendShift = q.blendShift := by
  unfold Pass.measure
  split
  · rfl
  · unfold Pass.measureRunning
    dsimp only
    repeat' split
    all_goals rfl
  · unfold Pass.measureHung
    split <;> rfl
  · unfold Pass.measureService
    split <;> rfl
@[simp] theorem Pass.measure_disagreement (m : Nat) (q : Pass) : (q.measure m).disagreement = q.disagreement := by
  unfold Pass.measure
  split
  · rfl
  · unfold Pass.measureRunning
    dsimp only
    repeat' split
    all_goals rfl
  · unfold Pass.measureHung
    split <;> rfl
  · unfold Pass.measureService
    split <;> rfl
@[simp] theorem Pass.measure_staleLimit (m : Nat) (q : Pass) : (q.measure m).staleLimit = q.staleLimit := by
  unfold Pass.measure
  split
  · rfl
  · unfold Pass.measureRunning
    dsimp only
    repeat' split
    all_goals rfl
  · unfold Pass.measureHung
    split <;> rfl
  · unfold Pass.measureService
    split <;> rfl
@[simp] theorem Pass.measure_reserved (m : Nat) (q : Pass) : (q.measure m).reserved = q.reserved := by
  unfold Pass.measure
  split
  · rfl
  · unfold Pass.measureRunning
    dsimp only
    repeat' split
    all_goals rfl
  · unfold Pass.measureHung
    split <;> rfl
  · unfold Pass.measureService
    split <;> rfl
@[simp] theorem Pass.measure_amended (m : Nat) (q : Pass) : (q.measure m).amended = q.amended := by
  unfold Pass.measure
  split
  · rfl
  · unfold Pass.measureRunning
    dsimp only
    repeat' split
    all_goals rfl
  · unfold Pass.measureHung
    split <;> rfl
  · unfold Pass.measureService
    split <;> rfl
@[simp] theorem Pass.measure_waiting (m : Nat) (q : Pass) : (q.measure m).waiting = q.waiting := by
  unfold Pass.measure
  split
  · rfl
  · unfold Pass.measureRunning
    dsimp only
    repeat' split
    all_goals rfl
  · unfold Pass.measureHung
    split <;> rfl
  · unfold Pass.measureService
    split <;> rfl

@[simp] theorem Chute.close_defined (x : Chute) : (x.close).defined = x.defined := rfl
@[simp] theorem Chute.close_pass (x : Chute) : (x.close).pass = x.pass := rfl
@[simp] theorem Chute.close_elevation (x : Chute) : (x.close).elevation = x.elevation := rfl
@[simp] theorem Chute.close_volume (x : Chute) : (x.close).volume = x.volume := rfl
@[simp] theorem Chute.close_holdTime (x : Chute) : (x.close).holdTime = x.holdTime := rfl
@[simp] theorem Chute.close_staleExpiry (x : Chute) : (x.close).staleExpiry = false := rfl
@[simp] theorem Chute.close_strokeTime (x : Chute) : (x.close).strokeTime = x.strokeTime := rfl
@[simp] theorem Chute.close_nudgeTime (x : Chute) : (x.close).nudgeTime = x.nudgeTime := rfl
@[simp] theorem Chute.close_interval (x : Chute) : (x.close).interval = x.interval := rfl
@[simp] theorem Chute.close_count (x : Chute) : (x.close).count = x.count := rfl
@[simp] theorem Chute.close_held (x : Chute) : (x.close).held = x.held := rfl
@[simp] theorem Chute.close_callPending (x : Chute) : (x.close).callPending = x.callPending := rfl
@[simp] theorem Chute.close_emptyReported (x : Chute) : (x.close).emptyReported = x.emptyReported := rfl
@[simp] theorem Chute.close_cushionReported (x : Chute) : (x.close).cushionReported = x.cushionReported := rfl
@[simp] theorem Chute.close_reachedOpen (x : Chute) : (x.close).reachedOpen = x.reachedOpen := rfl
@[simp] theorem Chute.close_nudgeTimer (x : Chute) : (x.close).nudgeTimer = x.nudgeTimer := rfl
@[simp] theorem Chute.close_faultHold (x : Chute) : (x.close).faultHold = x.faultHold := rfl
@[simp] theorem Chute.close_proofHold (x : Chute) : (x.close).proofHold = x.proofHold := rfl
@[simp] theorem Chute.close_lastProof (x : Chute) : (x.close).lastProof = x.lastProof := rfl
@[simp] theorem Chute.close_pendingProof (x : Chute) : (x.close).pendingProof = x.pendingProof := rfl
@[simp] theorem Chute.close_cycles (x : Chute) : (x.close).cycles = x.cycles := rfl
@[simp] theorem Chute.close_conds (x : Chute) : (x.close).conds = x.conds := rfl

@[simp] theorem Chute.countDown_defined (x : Chute) : (x.countDown).defined = x.defined := by
  unfold Chute.countDown
  split <;> rfl
@[simp] theorem Chute.countDown_pass (x : Chute) : (x.countDown).pass = x.pass := by
  unfold Chute.countDown
  split <;> rfl
@[simp] theorem Chute.countDown_elevation (x : Chute) : (x.countDown).elevation = x.elevation := by
  unfold Chute.countDown
  split <;> rfl
@[simp] theorem Chute.countDown_volume (x : Chute) : (x.countDown).volume = x.volume := by
  unfold Chute.countDown
  split <;> rfl
@[simp] theorem Chute.countDown_holdTime (x : Chute) : (x.countDown).holdTime = x.holdTime := by
  unfold Chute.countDown
  split <;> rfl
@[simp] theorem Chute.countDown_staleExpiry (x : Chute) : (x.countDown).staleExpiry = x.staleExpiry := by
  unfold Chute.countDown
  split <;> rfl
@[simp] theorem Chute.countDown_strokeTime (x : Chute) : (x.countDown).strokeTime = x.strokeTime := by
  unfold Chute.countDown
  split <;> rfl
@[simp] theorem Chute.countDown_nudgeTime (x : Chute) : (x.countDown).nudgeTime = x.nudgeTime := by
  unfold Chute.countDown
  split <;> rfl
@[simp] theorem Chute.countDown_interval (x : Chute) : (x.countDown).interval = x.interval := by
  unfold Chute.countDown
  split <;> rfl
@[simp] theorem Chute.countDown_held (x : Chute) : (x.countDown).held = x.held := by
  unfold Chute.countDown
  split <;> rfl
@[simp] theorem Chute.countDown_callPending (x : Chute) : (x.countDown).callPending = x.callPending := by
  unfold Chute.countDown
  split <;> rfl
@[simp] theorem Chute.countDown_emptyReported (x : Chute) : (x.countDown).emptyReported = x.emptyReported := by
  unfold Chute.countDown
  split <;> rfl
@[simp] theorem Chute.countDown_cushionReported (x : Chute) : (x.countDown).cushionReported = x.cushionReported := by
  unfold Chute.countDown
  split <;> rfl
@[simp] theorem Chute.countDown_state (x : Chute) : (x.countDown).state = x.state := by
  unfold Chute.countDown
  split <;> rfl
@[simp] theorem Chute.countDown_reachedOpen (x : Chute) : (x.countDown).reachedOpen = x.reachedOpen := by
  unfold Chute.countDown
  split <;> rfl
@[simp] theorem Chute.countDown_strokeTimer (x : Chute) : (x.countDown).strokeTimer = x.strokeTimer := by
  unfold Chute.countDown
  split <;> rfl
@[simp] theorem Chute.countDown_holdTimer (x : Chute) : (x.countDown).holdTimer = x.holdTimer := by
  unfold Chute.countDown
  split <;> rfl
@[simp] theorem Chute.countDown_nudgeTimer (x : Chute) : (x.countDown).nudgeTimer = x.nudgeTimer := by
  unfold Chute.countDown
  split <;> rfl
@[simp] theorem Chute.countDown_faultHold (x : Chute) : (x.countDown).faultHold = x.faultHold := by
  unfold Chute.countDown
  split <;> rfl
@[simp] theorem Chute.countDown_proofHold (x : Chute) : (x.countDown).proofHold = x.proofHold := by
  unfold Chute.countDown
  split <;> rfl
@[simp] theorem Chute.countDown_lastProof (x : Chute) : (x.countDown).lastProof = x.lastProof := by
  unfold Chute.countDown
  split <;> rfl
@[simp] theorem Chute.countDown_pendingProof (x : Chute) : (x.countDown).pendingProof = x.pendingProof := by
  unfold Chute.countDown
  split <;> rfl
@[simp] theorem Chute.countDown_cycles (x : Chute) : (x.countDown).cycles = x.cycles := by
  unfold Chute.countDown
  split <;> rfl

@[simp] theorem Chute.cycleDone_defined (x : Chute) : (x.cycleDone).defined = x.defined := rfl
@[simp] theorem Chute.cycleDone_pass (x : Chute) : (x.cycleDone).pass = x.pass := rfl
@[simp] theorem Chute.cycleDone_elevation (x : Chute) : (x.cycleDone).elevation = x.elevation := rfl
@[simp] theorem Chute.cycleDone_volume (x : Chute) : (x.cycleDone).volume = x.volume := rfl
@[simp] theorem Chute.cycleDone_holdTime (x : Chute) : (x.cycleDone).holdTime = x.holdTime := rfl
@[simp] theorem Chute.cycleDone_staleExpiry (x : Chute) : (x.cycleDone).staleExpiry = x.staleExpiry := rfl
@[simp] theorem Chute.cycleDone_strokeTime (x : Chute) : (x.cycleDone).strokeTime = x.strokeTime := rfl
@[simp] theorem Chute.cycleDone_nudgeTime (x : Chute) : (x.cycleDone).nudgeTime = x.nudgeTime := rfl
@[simp] theorem Chute.cycleDone_interval (x : Chute) : (x.cycleDone).interval = x.interval := rfl
@[simp] theorem Chute.cycleDone_count (x : Chute) : (x.cycleDone).count = x.count := rfl
@[simp] theorem Chute.cycleDone_held (x : Chute) : (x.cycleDone).held = x.held := rfl
@[simp] theorem Chute.cycleDone_callPending (x : Chute) : (x.cycleDone).callPending = x.callPending := rfl
@[simp] theorem Chute.cycleDone_emptyReported (x : Chute) : (x.cycleDone).emptyReported = x.emptyReported := rfl
@[simp] theorem Chute.cycleDone_cushionReported (x : Chute) : (x.cycleDone).cushionReported = x.cushionReported := rfl
@[simp] theorem Chute.cycleDone_state (x : Chute) : (x.cycleDone).state = x.state := rfl
@[simp] theorem Chute.cycleDone_reachedOpen (x : Chute) : (x.cycleDone).reachedOpen = x.reachedOpen := rfl
@[simp] theorem Chute.cycleDone_strokeTimer (x : Chute) : (x.cycleDone).strokeTimer = x.strokeTimer := rfl
@[simp] theorem Chute.cycleDone_holdTimer (x : Chute) : (x.cycleDone).holdTimer = x.holdTimer := rfl
@[simp] theorem Chute.cycleDone_nudgeTimer (x : Chute) : (x.cycleDone).nudgeTimer = x.nudgeTimer := rfl
@[simp] theorem Chute.cycleDone_faultHold (x : Chute) : (x.cycleDone).faultHold = x.faultHold := rfl
@[simp] theorem Chute.cycleDone_proofHold (x : Chute) : (x.cycleDone).proofHold = x.proofHold := rfl
@[simp] theorem Chute.cycleDone_lastProof (x : Chute) : (x.cycleDone).lastProof = x.lastProof := rfl
@[simp] theorem Chute.cycleDone_pendingProof (x : Chute) : (x.cycleDone).pendingProof = x.pendingProof := rfl

@[simp] theorem Chute.finalise_defined (result : NudgeResult) (x : Chute) : (x.finalise result).defined = x.defined := rfl
@[simp] theorem Chute.finalise_pass (result : NudgeResult) (x : Chute) : (x.finalise result).pass = x.pass := rfl
@[simp] theorem Chute.finalise_elevation (result : NudgeResult) (x : Chute) : (x.finalise result).elevation = x.elevation := rfl
@[simp] theorem Chute.finalise_volume (result : NudgeResult) (x : Chute) : (x.finalise result).volume = x.volume := rfl
@[simp] theorem Chute.finalise_holdTime (result : NudgeResult) (x : Chute) : (x.finalise result).holdTime = x.holdTime := rfl
@[simp] theorem Chute.finalise_staleExpiry (result : NudgeResult) (x : Chute) : (x.finalise result).staleExpiry = x.staleExpiry := rfl
@[simp] theorem Chute.finalise_strokeTime (result : NudgeResult) (x : Chute) : (x.finalise result).strokeTime = x.strokeTime := rfl
@[simp] theorem Chute.finalise_nudgeTime (result : NudgeResult) (x : Chute) : (x.finalise result).nudgeTime = x.nudgeTime := rfl
@[simp] theorem Chute.finalise_interval (result : NudgeResult) (x : Chute) : (x.finalise result).interval = x.interval := rfl
@[simp] theorem Chute.finalise_count (result : NudgeResult) (x : Chute) : (x.finalise result).count = x.count := rfl
@[simp] theorem Chute.finalise_held (result : NudgeResult) (x : Chute) : (x.finalise result).held = x.held := rfl
@[simp] theorem Chute.finalise_callPending (result : NudgeResult) (x : Chute) : (x.finalise result).callPending = x.callPending := rfl
@[simp] theorem Chute.finalise_emptyReported (result : NudgeResult) (x : Chute) : (x.finalise result).emptyReported = x.emptyReported := rfl
@[simp] theorem Chute.finalise_cushionReported (result : NudgeResult) (x : Chute) : (x.finalise result).cushionReported = x.cushionReported := rfl
@[simp] theorem Chute.finalise_reachedOpen (result : NudgeResult) (x : Chute) : (x.finalise result).reachedOpen = x.reachedOpen := rfl
@[simp] theorem Chute.finalise_holdTimer (result : NudgeResult) (x : Chute) : (x.finalise result).holdTimer = x.holdTimer := rfl
@[simp] theorem Chute.finalise_faultHold (result : NudgeResult) (x : Chute) : (x.finalise result).faultHold = x.faultHold := rfl
@[simp] theorem Chute.finalise_cycles (result : NudgeResult) (x : Chute) : (x.finalise result).cycles = x.cycles := rfl

@[simp] theorem Chute.startCycle_defined (x : Chute) : (x.startCycle).defined = x.defined := rfl
@[simp] theorem Chute.startCycle_pass (x : Chute) : (x.startCycle).pass = x.pass := rfl
@[simp] theorem Chute.startCycle_elevation (x : Chute) : (x.startCycle).elevation = x.elevation := rfl
@[simp] theorem Chute.startCycle_volume (x : Chute) : (x.startCycle).volume = x.volume := rfl
@[simp] theorem Chute.startCycle_holdTime (x : Chute) : (x.startCycle).holdTime = x.holdTime := rfl
@[simp] theorem Chute.startCycle_staleExpiry (x : Chute) : (x.startCycle).staleExpiry = x.staleExpiry := rfl
@[simp] theorem Chute.startCycle_strokeTime (x : Chute) : (x.startCycle).strokeTime = x.strokeTime := rfl
@[simp] theorem Chute.startCycle_nudgeTime (x : Chute) : (x.startCycle).nudgeTime = x.nudgeTime := rfl
@[simp] theorem Chute.startCycle_interval (x : Chute) : (x.startCycle).interval = x.interval := rfl
@[simp] theorem Chute.startCycle_count (x : Chute) : (x.startCycle).count = x.count := rfl
@[simp] theorem Chute.startCycle_held (x : Chute) : (x.startCycle).held = x.held := rfl
@[simp] theorem Chute.startCycle_holdTimer (x : Chute) : (x.startCycle).holdTimer = x.holdTimer := rfl
@[simp] theorem Chute.startCycle_nudgeTimer (x : Chute) : (x.startCycle).nudgeTimer = x.nudgeTimer := rfl
@[simp] theorem Chute.startCycle_faultHold (x : Chute) : (x.startCycle).faultHold = x.faultHold := rfl
@[simp] theorem Chute.startCycle_proofHold (x : Chute) : (x.startCycle).proofHold = x.proofHold := rfl
@[simp] theorem Chute.startCycle_lastProof (x : Chute) : (x.startCycle).lastProof = x.lastProof := rfl
@[simp] theorem Chute.startCycle_pendingProof (x : Chute) : (x.startCycle).pendingProof = x.pendingProof := rfl
@[simp] theorem Chute.startCycle_cycles (x : Chute) : (x.startCycle).cycles = x.cycles := rfl
@[simp] theorem Chute.startCycle_conds (x : Chute) : (x.startCycle).conds = x.conds := rfl

@[simp] theorem Chute.reportEmpty_defined (x : Chute) : (x.reportEmpty).defined = x.defined := rfl
@[simp] theorem Chute.reportEmpty_pass (x : Chute) : (x.reportEmpty).pass = x.pass := rfl
@[simp] theorem Chute.reportEmpty_elevation (x : Chute) : (x.reportEmpty).elevation = x.elevation := rfl
@[simp] theorem Chute.reportEmpty_volume (x : Chute) : (x.reportEmpty).volume = x.volume := rfl
@[simp] theorem Chute.reportEmpty_holdTime (x : Chute) : (x.reportEmpty).holdTime = x.holdTime := rfl
@[simp] theorem Chute.reportEmpty_staleExpiry (x : Chute) : (x.reportEmpty).staleExpiry = x.staleExpiry := rfl
@[simp] theorem Chute.reportEmpty_strokeTime (x : Chute) : (x.reportEmpty).strokeTime = x.strokeTime := rfl
@[simp] theorem Chute.reportEmpty_nudgeTime (x : Chute) : (x.reportEmpty).nudgeTime = x.nudgeTime := rfl
@[simp] theorem Chute.reportEmpty_interval (x : Chute) : (x.reportEmpty).interval = x.interval := rfl
@[simp] theorem Chute.reportEmpty_count (x : Chute) : (x.reportEmpty).count = x.count := rfl
@[simp] theorem Chute.reportEmpty_held (x : Chute) : (x.reportEmpty).held = x.held := rfl
@[simp] theorem Chute.reportEmpty_callPending (x : Chute) : (x.reportEmpty).callPending = x.callPending := rfl
@[simp] theorem Chute.reportEmpty_cushionReported (x : Chute) : (x.reportEmpty).cushionReported = x.cushionReported := rfl
@[simp] theorem Chute.reportEmpty_state (x : Chute) : (x.reportEmpty).state = x.state := rfl
@[simp] theorem Chute.reportEmpty_reachedOpen (x : Chute) : (x.reportEmpty).reachedOpen = x.reachedOpen := rfl
@[simp] theorem Chute.reportEmpty_strokeTimer (x : Chute) : (x.reportEmpty).strokeTimer = x.strokeTimer := rfl
@[simp] theorem Chute.reportEmpty_holdTimer (x : Chute) : (x.reportEmpty).holdTimer = x.holdTimer := rfl
@[simp] theorem Chute.reportEmpty_nudgeTimer (x : Chute) : (x.reportEmpty).nudgeTimer = x.nudgeTimer := rfl
@[simp] theorem Chute.reportEmpty_faultHold (x : Chute) : (x.reportEmpty).faultHold = x.faultHold := rfl
@[simp] theorem Chute.reportEmpty_proofHold (x : Chute) : (x.reportEmpty).proofHold = x.proofHold := rfl
@[simp] theorem Chute.reportEmpty_lastProof (x : Chute) : (x.reportEmpty).lastProof = x.lastProof := rfl
@[simp] theorem Chute.reportEmpty_pendingProof (x : Chute) : (x.reportEmpty).pendingProof = x.pendingProof := rfl
@[simp] theorem Chute.reportEmpty_cycles (x : Chute) : (x.reportEmpty).cycles = x.cycles := rfl

@[simp] theorem Chute.reportCushion_defined (x : Chute) : (x.reportCushion).defined = x.defined := rfl
@[simp] theorem Chute.reportCushion_pass (x : Chute) : (x.reportCushion).pass = x.pass := rfl
@[simp] theorem Chute.reportCushion_elevation (x : Chute) : (x.reportCushion).elevation = x.elevation := rfl
@[simp] theorem Chute.reportCushion_volume (x : Chute) : (x.reportCushion).volume = x.volume := rfl
@[simp] theorem Chute.reportCushion_holdTime (x : Chute) : (x.reportCushion).holdTime = x.holdTime := rfl
@[simp] theorem Chute.reportCushion_staleExpiry (x : Chute) : (x.reportCushion).staleExpiry = x.staleExpiry := rfl
@[simp] theorem Chute.reportCushion_strokeTime (x : Chute) : (x.reportCushion).strokeTime = x.strokeTime := rfl
@[simp] theorem Chute.reportCushion_nudgeTime (x : Chute) : (x.reportCushion).nudgeTime = x.nudgeTime := rfl
@[simp] theorem Chute.reportCushion_interval (x : Chute) : (x.reportCushion).interval = x.interval := rfl
@[simp] theorem Chute.reportCushion_count (x : Chute) : (x.reportCushion).count = x.count := rfl
@[simp] theorem Chute.reportCushion_held (x : Chute) : (x.reportCushion).held = x.held := rfl
@[simp] theorem Chute.reportCushion_callPending (x : Chute) : (x.reportCushion).callPending = x.callPending := rfl
@[simp] theorem Chute.reportCushion_emptyReported (x : Chute) : (x.reportCushion).emptyReported = x.emptyReported := rfl
@[simp] theorem Chute.reportCushion_state (x : Chute) : (x.reportCushion).state = x.state := rfl
@[simp] theorem Chute.reportCushion_reachedOpen (x : Chute) : (x.reportCushion).reachedOpen = x.reachedOpen := rfl
@[simp] theorem Chute.reportCushion_strokeTimer (x : Chute) : (x.reportCushion).strokeTimer = x.strokeTimer := rfl
@[simp] theorem Chute.reportCushion_holdTimer (x : Chute) : (x.reportCushion).holdTimer = x.holdTimer := rfl
@[simp] theorem Chute.reportCushion_nudgeTimer (x : Chute) : (x.reportCushion).nudgeTimer = x.nudgeTimer := rfl
@[simp] theorem Chute.reportCushion_faultHold (x : Chute) : (x.reportCushion).faultHold = x.faultHold := rfl
@[simp] theorem Chute.reportCushion_proofHold (x : Chute) : (x.reportCushion).proofHold = x.proofHold := rfl
@[simp] theorem Chute.reportCushion_lastProof (x : Chute) : (x.reportCushion).lastProof = x.lastProof := rfl
@[simp] theorem Chute.reportCushion_pendingProof (x : Chute) : (x.reportCushion).pendingProof = x.pendingProof := rfl
@[simp] theorem Chute.reportCushion_cycles (x : Chute) : (x.reportCushion).cycles = x.cycles := rfl

@[simp] theorem Chute.strokeFault_defined (x : Chute) : (x.strokeFault).defined = x.defined := rfl
@[simp] theorem Chute.strokeFault_pass (x : Chute) : (x.strokeFault).pass = x.pass := rfl
@[simp] theorem Chute.strokeFault_elevation (x : Chute) : (x.strokeFault).elevation = x.elevation := rfl
@[simp] theorem Chute.strokeFault_volume (x : Chute) : (x.strokeFault).volume = x.volume := rfl
@[simp] theorem Chute.strokeFault_holdTime (x : Chute) : (x.strokeFault).holdTime = x.holdTime := rfl
@[simp] theorem Chute.strokeFault_staleExpiry (x : Chute) : (x.strokeFault).staleExpiry = x.staleExpiry := rfl
@[simp] theorem Chute.strokeFault_strokeTime (x : Chute) : (x.strokeFault).strokeTime = x.strokeTime := rfl
@[simp] theorem Chute.strokeFault_nudgeTime (x : Chute) : (x.strokeFault).nudgeTime = x.nudgeTime := rfl
@[simp] theorem Chute.strokeFault_interval (x : Chute) : (x.strokeFault).interval = x.interval := rfl
@[simp] theorem Chute.strokeFault_count (x : Chute) : (x.strokeFault).count = x.count := rfl
@[simp] theorem Chute.strokeFault_held (x : Chute) : (x.strokeFault).held = x.held := rfl
@[simp] theorem Chute.strokeFault_callPending (x : Chute) : (x.strokeFault).callPending = x.callPending := rfl
@[simp] theorem Chute.strokeFault_emptyReported (x : Chute) : (x.strokeFault).emptyReported = x.emptyReported := rfl
@[simp] theorem Chute.strokeFault_cushionReported (x : Chute) : (x.strokeFault).cushionReported = x.cushionReported := rfl
@[simp] theorem Chute.strokeFault_state (x : Chute) : (x.strokeFault).state = x.state := rfl
@[simp] theorem Chute.strokeFault_reachedOpen (x : Chute) : (x.strokeFault).reachedOpen = x.reachedOpen := rfl
@[simp] theorem Chute.strokeFault_strokeTimer (x : Chute) : (x.strokeFault).strokeTimer = x.strokeTimer := rfl
@[simp] theorem Chute.strokeFault_holdTimer (x : Chute) : (x.strokeFault).holdTimer = x.holdTimer := rfl
@[simp] theorem Chute.strokeFault_nudgeTimer (x : Chute) : (x.strokeFault).nudgeTimer = x.nudgeTimer := rfl
@[simp] theorem Chute.strokeFault_proofHold (x : Chute) : (x.strokeFault).proofHold = x.proofHold := rfl
@[simp] theorem Chute.strokeFault_lastProof (x : Chute) : (x.strokeFault).lastProof = x.lastProof := rfl
@[simp] theorem Chute.strokeFault_pendingProof (x : Chute) : (x.strokeFault).pendingProof = x.pendingProof := rfl
@[simp] theorem Chute.strokeFault_cycles (x : Chute) : (x.strokeFault).cycles = x.cycles := rfl

@[simp] theorem Chute.nudge_defined (x : Chute) : (x.nudge).defined = x.defined := rfl
@[simp] theorem Chute.nudge_pass (x : Chute) : (x.nudge).pass = x.pass := rfl
@[simp] theorem Chute.nudge_elevation (x : Chute) : (x.nudge).elevation = x.elevation := rfl
@[simp] theorem Chute.nudge_volume (x : Chute) : (x.nudge).volume = x.volume := rfl
@[simp] theorem Chute.nudge_holdTime (x : Chute) : (x.nudge).holdTime = x.holdTime := rfl
@[simp] theorem Chute.nudge_staleExpiry (x : Chute) : (x.nudge).staleExpiry = x.staleExpiry := rfl
@[simp] theorem Chute.nudge_strokeTime (x : Chute) : (x.nudge).strokeTime = x.strokeTime := rfl
@[simp] theorem Chute.nudge_nudgeTime (x : Chute) : (x.nudge).nudgeTime = x.nudgeTime := rfl
@[simp] theorem Chute.nudge_interval (x : Chute) : (x.nudge).interval = x.interval := rfl
@[simp] theorem Chute.nudge_count (x : Chute) : (x.nudge).count = x.count := rfl
@[simp] theorem Chute.nudge_held (x : Chute) : (x.nudge).held = x.held := rfl
@[simp] theorem Chute.nudge_callPending (x : Chute) : (x.nudge).callPending = x.callPending := rfl
@[simp] theorem Chute.nudge_emptyReported (x : Chute) : (x.nudge).emptyReported = x.emptyReported := rfl
@[simp] theorem Chute.nudge_cushionReported (x : Chute) : (x.nudge).cushionReported = x.cushionReported := rfl
@[simp] theorem Chute.nudge_reachedOpen (x : Chute) : (x.nudge).reachedOpen = x.reachedOpen := rfl
@[simp] theorem Chute.nudge_strokeTimer (x : Chute) : (x.nudge).strokeTimer = x.strokeTimer := rfl
@[simp] theorem Chute.nudge_holdTimer (x : Chute) : (x.nudge).holdTimer = x.holdTimer := rfl
@[simp] theorem Chute.nudge_faultHold (x : Chute) : (x.nudge).faultHold = x.faultHold := rfl
@[simp] theorem Chute.nudge_proofHold (x : Chute) : (x.nudge).proofHold = x.proofHold := rfl
@[simp] theorem Chute.nudge_lastProof (x : Chute) : (x.nudge).lastProof = x.lastProof := rfl
@[simp] theorem Chute.nudge_cycles (x : Chute) : (x.nudge).cycles = x.cycles := rfl
@[simp] theorem Chute.nudge_conds (x : Chute) : (x.nudge).conds = x.conds := rfl

@[simp] theorem Chute.accept_defined (x : Chute) : (x.accept).defined = x.defined := rfl
@[simp] theorem Chute.accept_pass (x : Chute) : (x.accept).pass = x.pass := rfl
@[simp] theorem Chute.accept_elevation (x : Chute) : (x.accept).elevation = x.elevation := rfl
@[simp] theorem Chute.accept_volume (x : Chute) : (x.accept).volume = x.volume := rfl
@[simp] theorem Chute.accept_holdTime (x : Chute) : (x.accept).holdTime = x.holdTime := rfl
@[simp] theorem Chute.accept_staleExpiry (x : Chute) : (x.accept).staleExpiry = x.staleExpiry := rfl
@[simp] theorem Chute.accept_strokeTime (x : Chute) : (x.accept).strokeTime = x.strokeTime := rfl
@[simp] theorem Chute.accept_nudgeTime (x : Chute) : (x.accept).nudgeTime = x.nudgeTime := rfl
@[simp] theorem Chute.accept_interval (x : Chute) : (x.accept).interval = x.interval := rfl
@[simp] theorem Chute.accept_count (x : Chute) : (x.accept).count = x.count := rfl
@[simp] theorem Chute.accept_held (x : Chute) : (x.accept).held = x.held := rfl
@[simp] theorem Chute.accept_callPending (x : Chute) : (x.accept).callPending = x.callPending := rfl
@[simp] theorem Chute.accept_emptyReported (x : Chute) : (x.accept).emptyReported = x.emptyReported := rfl
@[simp] theorem Chute.accept_cushionReported (x : Chute) : (x.accept).cushionReported = x.cushionReported := rfl
@[simp] theorem Chute.accept_state (x : Chute) : (x.accept).state = x.state := rfl
@[simp] theorem Chute.accept_reachedOpen (x : Chute) : (x.accept).reachedOpen = x.reachedOpen := rfl
@[simp] theorem Chute.accept_strokeTimer (x : Chute) : (x.accept).strokeTimer = x.strokeTimer := rfl
@[simp] theorem Chute.accept_holdTimer (x : Chute) : (x.accept).holdTimer = x.holdTimer := rfl
@[simp] theorem Chute.accept_nudgeTimer (x : Chute) : (x.accept).nudgeTimer = x.nudgeTimer := rfl
@[simp] theorem Chute.accept_faultHold (x : Chute) : (x.accept).faultHold = x.faultHold := rfl
@[simp] theorem Chute.accept_lastProof (x : Chute) : (x.accept).lastProof = x.lastProof := rfl
@[simp] theorem Chute.accept_pendingProof (x : Chute) : (x.accept).pendingProof = x.pendingProof := rfl
@[simp] theorem Chute.accept_conds (x : Chute) : (x.accept).conds = x.conds := rfl

@[simp] theorem Breaker.take_counter (j : Job) (b : Breaker) : (b.take j).counter = b.counter := rfl
@[simp] theorem Breaker.take_floor (j : Job) (b : Breaker) : (b.take j).floor = b.floor := rfl
@[simp] theorem Breaker.take_travelLimit (j : Job) (b : Breaker) : (b.take j).travelLimit = b.travelLimit := rfl
@[simp] theorem Breaker.take_breakLimit (j : Job) (b : Breaker) : (b.take j).breakLimit = b.breakLimit := rfl
@[simp] theorem Breaker.take_returnTimer (j : Job) (b : Breaker) : (b.take j).returnTimer = b.returnTimer := rfl
@[simp] theorem Breaker.take_returnOverdue (j : Job) (b : Breaker) : (b.take j).returnOverdue = b.returnOverdue := rfl
@[simp] theorem Breaker.take_conds (j : Job) (b : Breaker) : (b.take j).conds = b.conds := rfl

@[simp] theorem Breaker.sendHome_jobs (b : Breaker) : (b.sendHome).jobs = b.jobs := rfl
@[simp] theorem Breaker.sendHome_counter (b : Breaker) : (b.sendHome).counter = b.counter := rfl
@[simp] theorem Breaker.sendHome_floor (b : Breaker) : (b.sendHome).floor = b.floor := rfl
@[simp] theorem Breaker.sendHome_travelLimit (b : Breaker) : (b.sendHome).travelLimit = b.travelLimit := rfl
@[simp] theorem Breaker.sendHome_breakLimit (b : Breaker) : (b.sendHome).breakLimit = b.breakLimit := rfl
@[simp] theorem Breaker.sendHome_returnOverdue (b : Breaker) : (b.sendHome).returnOverdue = b.returnOverdue := rfl
@[simp] theorem Breaker.sendHome_lastCode (b : Breaker) : (b.sendHome).lastCode = b.lastCode := rfl
@[simp] theorem Breaker.sendHome_conds (b : Breaker) : (b.sendHome).conds = b.conds := rfl

@[simp] theorem Breaker.list_state (k : StationIdx) (level : Nat) (origin : Origin) (b : Breaker) : (b.list k level origin).state = b.state := rfl
@[simp] theorem Breaker.list_current (k : StationIdx) (level : Nat) (origin : Origin) (b : Breaker) : (b.list k level origin).current = b.current := rfl
@[simp] theorem Breaker.list_floor (k : StationIdx) (level : Nat) (origin : Origin) (b : Breaker) : (b.list k level origin).floor = b.floor := rfl
@[simp] theorem Breaker.list_travelLimit (k : StationIdx) (level : Nat) (origin : Origin) (b : Breaker) : (b.list k level origin).travelLimit = b.travelLimit := rfl
@[simp] theorem Breaker.list_breakLimit (k : StationIdx) (level : Nat) (origin : Origin) (b : Breaker) : (b.list k level origin).breakLimit = b.breakLimit := rfl
@[simp] theorem Breaker.list_travelTimer (k : StationIdx) (level : Nat) (origin : Origin) (b : Breaker) : (b.list k level origin).travelTimer = b.travelTimer := rfl
@[simp] theorem Breaker.list_breakTimer (k : StationIdx) (level : Nat) (origin : Origin) (b : Breaker) : (b.list k level origin).breakTimer = b.breakTimer := rfl
@[simp] theorem Breaker.list_returnTimer (k : StationIdx) (level : Nat) (origin : Origin) (b : Breaker) : (b.list k level origin).returnTimer = b.returnTimer := rfl
@[simp] theorem Breaker.list_returnOverdue (k : StationIdx) (level : Nat) (origin : Origin) (b : Breaker) : (b.list k level origin).returnOverdue = b.returnOverdue := rfl
@[simp] theorem Breaker.list_lastCode (k : StationIdx) (level : Nat) (origin : Origin) (b : Breaker) : (b.list k level origin).lastCode = b.lastCode := rfl
@[simp] theorem Breaker.list_conds (k : StationIdx) (level : Nat) (origin : Origin) (b : Breaker) : (b.list k level origin).conds = b.conds := rfl

@[simp] theorem Breaker.merge_state (k : StationIdx) (level : Nat) (b : Breaker) : (b.merge k level).state = b.state := rfl
@[simp] theorem Breaker.merge_current (k : StationIdx) (level : Nat) (b : Breaker) : (b.merge k level).current = b.current := rfl
@[simp] theorem Breaker.merge_counter (k : StationIdx) (level : Nat) (b : Breaker) : (b.merge k level).counter = b.counter := rfl
@[simp] theorem Breaker.merge_floor (k : StationIdx) (level : Nat) (b : Breaker) : (b.merge k level).floor = b.floor := rfl
@[simp] theorem Breaker.merge_travelLimit (k : StationIdx) (level : Nat) (b : Breaker) : (b.merge k level).travelLimit = b.travelLimit := rfl
@[simp] theorem Breaker.merge_breakLimit (k : StationIdx) (level : Nat) (b : Breaker) : (b.merge k level).breakLimit = b.breakLimit := rfl
@[simp] theorem Breaker.merge_travelTimer (k : StationIdx) (level : Nat) (b : Breaker) : (b.merge k level).travelTimer = b.travelTimer := rfl
@[simp] theorem Breaker.merge_breakTimer (k : StationIdx) (level : Nat) (b : Breaker) : (b.merge k level).breakTimer = b.breakTimer := rfl
@[simp] theorem Breaker.merge_returnTimer (k : StationIdx) (level : Nat) (b : Breaker) : (b.merge k level).returnTimer = b.returnTimer := rfl
@[simp] theorem Breaker.merge_returnOverdue (k : StationIdx) (level : Nat) (b : Breaker) : (b.merge k level).returnOverdue = b.returnOverdue := rfl
@[simp] theorem Breaker.merge_lastCode (k : StationIdx) (level : Nat) (b : Breaker) : (b.merge k level).lastCode = b.lastCode := rfl
@[simp] theorem Breaker.merge_conds (k : StationIdx) (level : Nat) (b : Breaker) : (b.merge k level).conds = b.conds := rfl

@[simp] theorem Channel.keep_defined (r : Nat) (x : Channel) : (x.keep r).defined = x.defined := rfl
@[simp] theorem Channel.keep_assignment (r : Nat) (x : Channel) : (x.keep r).assignment = x.assignment := rfl
@[simp] theorem Channel.keep_zeroAt (r : Nat) (x : Channel) : (x.keep r).zeroAt = x.zeroAt := rfl
@[simp] theorem Channel.keep_span (r : Nat) (x : Channel) : (x.keep r).span = x.span := rfl
@[simp] theorem Channel.keep_inQuiet (r : Nat) (x : Channel) : (x.keep r).inQuiet = x.inQuiet := rfl
@[simp] theorem Channel.keep_inBreaking (r : Nat) (x : Channel) : (x.keep r).inBreaking = x.inBreaking := rfl
@[simp] theorem Channel.keep_proof (r : Nat) (x : Channel) : (x.keep r).proof = x.proof := rfl
@[simp] theorem Channel.keep_lastProof (r : Nat) (x : Channel) : (x.keep r).lastProof = x.lastProof := rfl
@[simp] theorem Channel.keep_windowTimer (r : Nat) (x : Channel) : (x.keep r).windowTimer = x.windowTimer := rfl
@[simp] theorem Channel.keep_settleMark (r : Nat) (x : Channel) : (x.keep r).settleMark = x.settleMark := rfl

@[simp] theorem Channel.proofResult_defined (result : ChannelResult) (x : Channel) : (x.proofResult result).defined = x.defined := rfl
@[simp] theorem Channel.proofResult_assignment (result : ChannelResult) (x : Channel) : (x.proofResult result).assignment = x.assignment := rfl
@[simp] theorem Channel.proofResult_zeroAt (result : ChannelResult) (x : Channel) : (x.proofResult result).zeroAt = x.zeroAt := rfl
@[simp] theorem Channel.proofResult_span (result : ChannelResult) (x : Channel) : (x.proofResult result).span = x.span := rfl
@[simp] theorem Channel.proofResult_reading (result : ChannelResult) (x : Channel) : (x.proofResult result).reading = x.reading := rfl
@[simp] theorem Channel.proofResult_state (result : ChannelResult) (x : Channel) : (x.proofResult result).state = x.state := rfl
@[simp] theorem Channel.proofResult_age (result : ChannelResult) (x : Channel) : (x.proofResult result).age = x.age := rfl
@[simp] theorem Channel.proofResult_inQuiet (result : ChannelResult) (x : Channel) : (x.proofResult result).inQuiet = x.inQuiet := rfl
@[simp] theorem Channel.proofResult_inBreaking (result : ChannelResult) (x : Channel) : (x.proofResult result).inBreaking = x.inBreaking := rfl

@[simp] theorem Channel.prove_defined (window : Nat) (x : Channel) : (x.prove window).defined = x.defined := rfl
@[simp] theorem Channel.prove_assignment (window : Nat) (x : Channel) : (x.prove window).assignment = x.assignment := rfl
@[simp] theorem Channel.prove_zeroAt (window : Nat) (x : Channel) : (x.prove window).zeroAt = x.zeroAt := rfl
@[simp] theorem Channel.prove_span (window : Nat) (x : Channel) : (x.prove window).span = x.span := rfl
@[simp] theorem Channel.prove_reading (window : Nat) (x : Channel) : (x.prove window).reading = x.reading := rfl
@[simp] theorem Channel.prove_state (window : Nat) (x : Channel) : (x.prove window).state = x.state := rfl
@[simp] theorem Channel.prove_age (window : Nat) (x : Channel) : (x.prove window).age = x.age := rfl
@[simp] theorem Channel.prove_inQuiet (window : Nat) (x : Channel) : (x.prove window).inQuiet = x.inQuiet := rfl
@[simp] theorem Channel.prove_inBreaking (window : Nat) (x : Channel) : (x.prove window).inBreaking = x.inBreaking := rfl
@[simp] theorem Channel.prove_lastProof (window : Nat) (x : Channel) : (x.prove window).lastProof = x.lastProof := rfl
@[simp] theorem Channel.prove_conds (window : Nat) (x : Channel) : (x.prove window).conds = x.conds := rfl

@[simp] theorem Entry.breach_inUse (cause : BreachCause) (actuator : Nat) (x : Entry) : (x.breach cause actuator).inUse = x.inUse := rfl
@[simp] theorem Entry.breach_kind (cause : BreachCause) (actuator : Nat) (x : Entry) : (x.breach cause actuator).kind = x.kind := rfl
@[simp] theorem Entry.breach_pass (cause : BreachCause) (actuator : Nat) (x : Entry) : (x.breach cause actuator).pass = x.pass := rfl
@[simp] theorem Entry.breach_low (cause : BreachCause) (actuator : Nat) (x : Entry) : (x.breach cause actuator).low = x.low := rfl
@[simp] theorem Entry.breach_high (cause : BreachCause) (actuator : Nat) (x : Entry) : (x.breach cause actuator).high = x.high := rfl
@[simp] theorem Entry.breach_maskTips (cause : BreachCause) (actuator : Nat) (x : Entry) : (x.breach cause actuator).maskTips = x.maskTips := rfl
@[simp] theorem Entry.breach_maskChutes (cause : BreachCause) (actuator : Nat) (x : Entry) : (x.breach cause actuator).maskChutes = x.maskChutes := rfl
@[simp] theorem Entry.breach_maskBreaker (cause : BreachCause) (actuator : Nat) (x : Entry) : (x.breach cause actuator).maskBreaker = x.maskBreaker := rfl
@[simp] theorem Entry.breach_holders (cause : BreachCause) (actuator : Nat) (x : Entry) : (x.breach cause actuator).holders = x.holders := rfl
@[simp] theorem Entry.breach_state (cause : BreachCause) (actuator : Nat) (x : Entry) : (x.breach cause actuator).state = x.state := rfl
@[simp] theorem Entry.breach_timer (cause : BreachCause) (actuator : Nat) (x : Entry) : (x.breach cause actuator).timer = x.timer := rfl

end Sys2Proof.Machine
end

