-- ==== Sys2Proof/Laws/Requests.lean ====
section
/-! SUPPORT. What the common checks make of a request, what an answer changes, and what the operands that name a
record or a line stand for. -/

namespace Sys2Proof

theorem index?_val {n : Nat} (i : Fin n) : index? n i.val = some i := by simp [index?]

theorem index?_eq_some {n i : Nat} {j : Fin n} (h : index? n i = some j) : j.val = i := by
  unfold index? at h
  split at h
  · injection h with h; rw [← h]
  · cases h

theorem index?_ge {n i : Nat} (h : n ≤ i) : index? n i = none := by
  simp [index?, Nat.not_lt.mpr h]

end Sys2Proof

namespace Sys2Proof.Machine

/-! ## Operands -/

theorem withIndex_val {n : Nat} (i : Fin n) (act : Fin n → Reply) : withIndex n i.val act = act i := by
  simp [withIndex, index?_val]

theorem withIndex_ge {n i : Nat} (h : n ≤ i) (act : Fin n → Reply) :
    withIndex n i act = .no .noRecord := by
  simp [withIndex, index?_ge h]

theorem optionIndex?_map_val {n : Nat} (o : Option (Fin n)) :
    optionIndex? n (o.map Fin.val) = some o := by
  cases o <;> simp [optionIndex?, index?_val]

theorem lines?_map_val (ls : List (Option LineIdx)) : lines? (ls.map (Option.map Fin.val)) = some ls := by
  induction ls with
  | nil => rfl
  | cons l ls ih => simp [lines?, ih, optionIndex?_map_val]

/-! ## Taking and answering a request -/

/-- A request that is taken is answered as its owner's rule says. -/
theorem request_of_takes {rq : Request} {n : Nat} {s : State} (h : s.takes rq n = true)
    (owner : State → Reply) : request rq n owner s = s.replied rq (owner s) := by
  simp only [State.takes, Bool.and_eq_true, beq_iff_eq, Option.isSome_iff_exists] at h
  obtain ⟨⟨hl, a, ha⟩, hn⟩ := h
  simp [request, hl, ha, hn]

/-- A request of another length is refused BAD_LENGTH. -/
theorem request_of_badLength {rq : Request} {n : Nat} {s : State} (hl : s.listening = true)
    (ha : (ownAddress s.link.address).isSome = true) (hn : rq.length ≠ n) (owner : State → Reply) :
    request rq n owner s = s.answered rq .badLength [] := by
  obtain ⟨a, ha⟩ := Option.isSome_iff_exists.mp ha
  simp [request, hl, ha, hn, State.replied, Reply.no]

/-- A station with no address of its own only sees the frame end. -/
theorem request_of_noAddress {rq : Request} {n : Nat} {s : State} (hl : s.listening = true)
    (ha : ownAddress s.link.address = none) (owner : State → Reply) :
    request rq n owner s = s.frameOver := by
  simp [request, hl, ha]

/-- A part that does not receive takes no request. -/
theorem request_of_not_listening {rq : Request} {n : Nat} {s : State} (hl : s.listening = false)
    (owner : State → Reply) : request rq n owner s = s := by
  simp [request, hl]

@[simp] theorem replied_no (rq : Request) (status : Status) (s : State) :
    s.replied rq (.no status) = s.answered rq status [] := rfl
@[simp] theorem replied_refuse (rq : Request) (status : Status) (body : List Byte) (s : State) :
    s.replied rq (.refuse status body) = s.answered rq status body := rfl
@[simp] theorem replied_report (rq : Request) (body : List Byte) (s : State) :
    s.replied rq (.report body) = s.answered rq .accepted body := rfl
@[simp] theorem replied_take (rq : Request) (ev : Event) (body : State → List Byte) (s : State) :
    s.replied rq (.take ev body) = ev.finish.answered rq .accepted (body ev.finish) := rfl
@[simp] theorem replied_done (rq : Request) (ev : Event) (s : State) :
    s.replied rq (.done ev) = ev.finish.answered rq .accepted [] := rfl

/-- The whole of what a request can do: nothing, the end of a frame, a refusal, a report, or its event with its
answer. Every case but the last changes nothing outside the link. -/
theorem request_cases (rq : Request) (n : Nat) (owner : State → Reply) (s : State) :
    request rq n owner s = s ∨ request rq n owner s = s.frameOver
      ∨ (∃ status body, request rq n owner s = s.answered rq status body)
      ∨ ∃ ev body, owner s = .take ev body
        ∧ request rq n owner s = ev.finish.answered rq .accepted (body ev.finish) := by
  unfold request
  split
  · split
    · split
      · cases h : owner s with
        | refuse status body => exact .inr (.inr (.inl ⟨status, body, rfl⟩))
        | report body => exact .inr (.inr (.inl ⟨_, body, rfl⟩))
        | take ev body => exact .inr (.inr (.inr ⟨ev, body, rfl, rfl⟩))
      · exact .inr (.inr (.inl ⟨.badLength, [], rfl⟩))
    · exact .inr (.inl rfl)
  · exact .inl rfl

/-- An answer changes the link alone. -/
theorem answered_eq (rq : Request) (status : Status) (body : List Byte) (s : State) :
    s.answered rq status body = { s with link := s.linkAnswered rq status body } := rfl

theorem frameOver_eq (s : State) :
    s.frameOver = { s with link := { s.link with receiver := .hunting, answer := none } } := rfl

@[simp] theorem State.answered_inReset (rq : Request) (status : Status) (body : List Byte) (s : State) :
    (s.answered rq status body).inReset = s.inReset := by simp only [State.answered, State.modLink_inReset]
@[simp] theorem State.answered_station (rq : Request) (status : Status) (body : List Byte) (s : State) :
    (s.answered rq status body).station = s.station := by simp only [State.answered, State.modLink_station]
@[simp] theorem State.answered_passes (rq : Request) (status : Status) (body : List Byte) (s : State) :
    (s.answered rq status body).passes = s.passes := by simp only [State.answered, State.modLink_passes]
@[simp] theorem State.answered_tips (rq : Request) (status : Status) (body : List Byte) (s : State) :
    (s.answered rq status body).tips = s.tips := by simp only [State.answered, State.modLink_tips]
@[simp] theorem State.answered_chutes (rq : Request) (status : Status) (body : List Byte) (s : State) :
    (s.answered rq status body).chutes = s.chutes := by simp only [State.answered, State.modLink_chutes]
@[simp] theorem State.answered_stations (rq : Request) (status : Status) (body : List Byte) (s : State) :
    (s.answered rq status body).stations = s.stations := by simp only [State.answered, State.modLink_stations]
@[simp] theorem State.answered_breaker (rq : Request) (status : Status) (body : List Byte) (s : State) :
    (s.answered rq status body).breaker = s.breaker := by simp only [State.answered, State.modLink_breaker]
@[simp] theorem State.answered_entries (rq : Request) (status : Status) (body : List Byte) (s : State) :
    (s.answered rq status body).entries = s.entries := by simp only [State.answered, State.modLink_entries]
@[simp] theorem State.answered_channels (rq : Request) (status : Status) (body : List Byte) (s : State) :
    (s.answered rq status body).channels = s.channels := by simp only [State.answered, State.modLink_channels]
@[simp] theorem State.answered_scanner (rq : Request) (status : Status) (body : List Byte) (s : State) :
    (s.answered rq status body).scanner = s.scanner := by simp only [State.answered, State.modLink_scanner]
@[simp] theorem State.answered_lines (rq : Request) (status : Status) (body : List Byte) (s : State) :
    (s.answered rq status body).lines = s.lines := by simp only [State.answered, State.modLink_lines]
@[simp] theorem State.answered_debounce (rq : Request) (status : Status) (body : List Byte) (s : State) :
    (s.answered rq status body).debounce = s.debounce := by simp only [State.answered, State.modLink_debounce]
@[simp] theorem State.answered_attn (rq : Request) (status : Status) (body : List Byte) (s : State) :
    (s.answered rq status body).attn = s.attn := by simp only [State.answered, State.modLink_attn]
@[simp] theorem State.answered_pending (rq : Request) (status : Status) (body : List Byte) (s : State) :
    (s.answered rq status body).pending = s.pending := by simp only [State.answered, State.modLink_pending]
@[simp] theorem State.answered_pass (rq : Request) (status : Status) (body : List Byte) (s : State) (i : PassIdx) :
    (s.answered rq status body).pass i = s.pass i := by simp only [State.answered, State.modLink_pass]
@[simp] theorem State.answered_tip (rq : Request) (status : Status) (body : List Byte) (s : State) (i : TipIdx) :
    (s.answered rq status body).tip i = s.tip i := by simp only [State.answered, State.modLink_tip]
@[simp] theorem State.answered_chute (rq : Request) (status : Status) (body : List Byte) (s : State) (i : ChuteIdx) :
    (s.answered rq status body).chute i = s.chute i := by simp only [State.answered, State.modLink_chute]
@[simp] theorem State.answered_bst (rq : Request) (status : Status) (body : List Byte) (s : State) (i : StationIdx) :
    (s.answered rq status body).bst i = s.bst i := by simp only [State.answered, State.modLink_bst]
@[simp] theorem State.answered_entry (rq : Request) (status : Status) (body : List Byte) (s : State) (i : EntryIdx) :
    (s.answered rq status body).entry i = s.entry i := by simp only [State.answered, State.modLink_entry]
@[simp] theorem State.answered_channel (rq : Request) (status : Status) (body : List Byte) (s : State) (i : ChannelIdx) :
    (s.answered rq status body).channel i = s.channel i := by simp only [State.answered, State.modLink_channel]
@[simp] theorem State.answered_line (rq : Request) (status : Status) (body : List Byte) (s : State) (i : LineIdx) :
    (s.answered rq status body).line i = s.line i := by simp only [State.answered, State.modLink_line]
@[simp] theorem State.answered_bankTime (rq : Request) (status : Status) (body : List Byte) (s : State) (i : BankIdx) :
    (s.answered rq status body).bankTime i = s.bankTime i := by simp only [State.answered, State.modLink_bankTime]

@[simp] theorem State.frameOver_inReset (s : State) :
    (s.frameOver).inReset = s.inReset := by simp only [State.frameOver, State.modLink_inReset]
@[simp] theorem State.frameOver_station (s : State) :
    (s.frameOver).station = s.station := by simp only [State.frameOver, State.modLink_station]
@[simp] theorem State.frameOver_passes (s : State) :
    (s.frameOver).passes = s.passes := by simp only [State.frameOver, State.modLink_passes]
@[simp] theorem State.frameOver_tips (s : State) :
    (s.frameOver).tips = s.tips := by simp only [State.frameOver, State.modLink_tips]
@[simp] theorem State.frameOver_chutes (s : State) :
    (s.frameOver).chutes = s.chutes := by simp only [State.frameOver, State.modLink_chutes]
@[simp] theorem State.frameOver_stations (s : State) :
    (s.frameOver).stations = s.stations := by simp only [State.frameOver, State.modLink_stations]
@[simp] theorem State.frameOver_breaker (s : State) :
    (s.frameOver).breaker = s.breaker := by simp only [State.frameOver, State.modLink_breaker]
@[simp] theorem State.frameOver_entries (s : State) :
    (s.frameOver).entries = s.entries := by simp only [State.frameOver, State.modLink_entries]
@[simp] theorem State.frameOver_channels (s : State) :
    (s.frameOver).channels = s.channels := by simp only [State.frameOver, State.modLink_channels]
@[simp] theorem State.frameOver_scanner (s : State) :
    (s.frameOver).scanner = s.scanner := by simp only [State.frameOver, State.modLink_scanner]
@[simp] theorem State.frameOver_lines (s : State) :
    (s.frameOver).lines = s.lines := by simp only [State.frameOver, State.modLink_lines]
@[simp] theorem State.frameOver_debounce (s : State) :
    (s.frameOver).debounce = s.debounce := by simp only [State.frameOver, State.modLink_debounce]
@[simp] theorem State.frameOver_attn (s : State) :
    (s.frameOver).attn = s.attn := by simp only [State.frameOver, State.modLink_attn]
@[simp] theorem State.frameOver_pending (s : State) :
    (s.frameOver).pending = s.pending := by simp only [State.frameOver, State.modLink_pending]
@[simp] theorem State.frameOver_pass (s : State) (i : PassIdx) :
    (s.frameOver).pass i = s.pass i := by simp only [State.frameOver, State.modLink_pass]
@[simp] theorem State.frameOver_tip (s : State) (i : TipIdx) :
    (s.frameOver).tip i = s.tip i := by simp only [State.frameOver, State.modLink_tip]
@[simp] theorem State.frameOver_chute (s : State) (i : ChuteIdx) :
    (s.frameOver).chute i = s.chute i := by simp only [State.frameOver, State.modLink_chute]
@[simp] theorem State.frameOver_bst (s : State) (i : StationIdx) :
    (s.frameOver).bst i = s.bst i := by simp only [State.frameOver, State.modLink_bst]
@[simp] theorem State.frameOver_entry (s : State) (i : EntryIdx) :
    (s.frameOver).entry i = s.entry i := by simp only [State.frameOver, State.modLink_entry]
@[simp] theorem State.frameOver_channel (s : State) (i : ChannelIdx) :
    (s.frameOver).channel i = s.channel i := by simp only [State.frameOver, State.modLink_channel]
@[simp] theorem State.frameOver_line (s : State) (i : LineIdx) :
    (s.frameOver).line i = s.line i := by simp only [State.frameOver, State.modLink_line]
@[simp] theorem State.frameOver_bankTime (s : State) (i : BankIdx) :
    (s.frameOver).bankTime i = s.bankTime i := by simp only [State.frameOver, State.modLink_bankTime]

end Sys2Proof.Machine
end

