-- ==== Sys2Proof/Tests/Slice0.lean ====
section
/-! SUPPORT. Tests of one step each, with their expected results from the specification's worked sequences
(sections 1.9, 2.3, 3.9, 4.11, 5.7, 6.11, 7.4, 8.8, 9.5, 10.6) or computed by hand from its rules; and for
every statement with hypotheses, states and operands that meet those of each of its clauses. -/

open Sys2Proof Sys2Proof.Machine

namespace Sys2Proof.Tests

/-! ## Helpers -/

/-- The command ends in a next state of which `P` holds. -/
def after (c : Instr) (s : State) (P : State → Bool) : Bool :=
  match exec c s with
  | .next t => P t
  | _ => false

/-- A request with reply tag 0102h whose body has `n` bytes. -/
def req (n : Nat) : Request := ⟨0x0102, n⟩

/-- The answer that waits to request `req`. -/
def answers (status : Status) (body : List Byte) (s : State) : Bool :=
  decide (s.link.answer = some ⟨0x0102, status, body⟩)

/-- A condition set with these kinds raised. -/
def conds (kinds : List CondKind) : CondSet := kinds.foldl (fun c k => raise k c) 0

/-- Binds lines to functions, an output's line driven out. -/
def wire (pairs : List (LineIdx × LineFn)) (s : State) : State :=
  pairs.foldl (fun u r => u.modLine r.1 fun l =>
    { l with binding := some r.2, direction := if r.2.isOutput then .output else .input }) s

/-- The line stands at high. -/
def high (i : LineIdx) (s : State) : State :=
  s.modLine i fun l => { l with plant := true, raw := true, debounced := true }

/-- The line's level has changed and its debounce time is over. -/
def due (i : LineIdx) (level : Bool) (s : State) : State :=
  s.modLine i fun l => { l with plant := level, raw := level, debounced := !level, timer := some 0 }

def inMode (m : Mode) (s : State) : State := s.modStation fun x => { x with mode := m }

/-- The profile of pass 2 (section 1.9). -/
def profile2 : List Segment := [⟨1500, 95⟩, ⟨6000, 154⟩, ⟨1500, 120⟩]

/-- Pass 2 of section 1.9. -/
def pass2 : Pass :=
  { Pass.reset with
    defined := true, height := 9000, profile := profile2, capacity := 12465, tipLimit := 10000
    cushion := 1000, staleLimit := 600, e := 6210, known := true, r := 6240, state := .running }

def tipOn (p : PassIdx) (load level : Nat) : Tip :=
  { Tip.reset with defined := true, pass := p, elevation := 8200, load := load, level := level }

/-- A pass, a tip point over a grizzly, a chute, a station, the breaker and a channel, all wired, in RUN. -/
def plant : State :=
  high 7 <| high 14 <| wire [(0, .call 5), (1, .tipSensor 5), (2, .lamp 5), (3, .oversize 5),
      (4, .openValve 3), (5, .closeValve 3), (6, .openLimit 3), (7, .closedLimit 3), (8, .loadCall 3),
      (9, .go), (10, .code0), (11, .code1), (12, .inPosition), (13, .grizzlyClear), (14, .parked),
      (15, .test 6), (40, .estop)] <|
    ((((inMode .run State.reset).modPass 2 fun _ => pass2).modTip 5 fun _ =>
        { tipOn 2 180 5 with grizzly := some 1 }).modChute 3 fun c =>
          { c with defined := true, pass := 2, volume := 60, interval := 100, cycles := 98 }).modBst 1
      (fun k => { k with defined := true, tip := 5 }) |>.modChannel 6 fun x =>
        { x with defined := true, assignment := some 2, span := 9000, inQuiet := true, state := .valid
                 reading := 1162 }

def withTip (f : Tip → Tip) : State := plant.modTip 5 f
def withPass (f : Pass → Pass) : State := plant.modPass 2 f
def withChute (f : Chute → Chute) : State := plant.modChute 3 f
def withBreaker (f : Breaker → Breaker) : State := plant.modBreaker f
def withChannel (f : Channel → Channel) : State := plant.modChannel 6 f
def withEntry (f : Entry → Entry) : State := plant.modEntry 1 f
def withStation (f : StationControl → StationControl) : State := plant.modStation f

def scanning : State := { plant with scanner := ⟨6, true⟩ }
def granted : State :=
  (withTip fun x => { x with state := .granted, timer := some 900 }).modPass 2 fun q =>
    { q with reserved := 180 }
def waiting : State :=
  (withTip fun x => { x with state := .waiting, source := .link }).modPass 2 fun q =>
    { q with waiting := [5] }
def holding : State := withChute fun c =>
  { c with state := .holding, holdTimer := some 30, reachedOpen := true, count := 3 }
/-- A gate whose stroke timer runs, with a call pending. -/
def stroking (state : CycleState) : State :=
  withChute fun c => { c with state := state, strokeTimer := some 3, callPending := true, count := 3 }
/-- A nudged gate that has just left its seat: its closed limit's fall is being debounced. -/
def lifting : State :=
  (withChute fun c => { c with state := .nudging, nudgeTimer := some 3 }).modLine 7 fun l =>
    { l with plant := false, raw := false, timer := some 20 }
def hung : State := withPass fun q => { q with state := .hung, e := 6420, r := 6420 }
def travelling : State := withBreaker fun b =>
  { b with state := .travelling, current := some ⟨1, 5, .oversize, 1⟩, travelTimer := some 600, counter := 2 }
def breaking : State := withBreaker fun b =>
  { b with state := .breaking, current := some ⟨1, 5, .oversize, 1⟩, breakTimer := some 3000, counter := 2 }
def returning : State := withBreaker fun b => { b with state := .returning, returnTimer := some 600 }

/-- An entry in use with one holder. -/
def someEntry (kind : ClearanceKind) (state : ClearanceState) : Entry :=
  { Entry.reset with
    inUse := true, kind := kind, state := state, holders := [101]
    pass := if kind = .equipment then none else some 2
    timer := if state = .pending then some 600 else none }
def serviced (state : ClearanceState) : State := withEntry fun _ => someEntry .service state
def halted : State := inMode .halted plant
def inSetup : State := inMode .setup plant

/-! ## Ill-formed terms -/

theorem test_wellFormed_refuses_1 : ([
    .resetRelease 64 3, .resetRelease 63 4, .definePass ⟨65536, 0⟩ 255 65535 1 [⟨65535, 65535⟩],
    .definePass ⟨1, 241⟩ 255 65535 1 [⟨65535, 65535⟩],
    .definePass ⟨65535, 240⟩ 256 65535 1 [⟨65535, 65535⟩],
    .definePass ⟨65535, 240⟩ 255 65536 1 [⟨65535, 65535⟩],
    .definePass ⟨65535, 240⟩ 255 65535 256 [⟨65535, 65535⟩],
    .definePass ⟨65535, 240⟩ 255 65535 1 [⟨65536, 1⟩],
    .definePass ⟨65535, 240⟩ 255 65535 1 [⟨1, 65536⟩],
    .definePass ⟨65535, 240⟩ 255 65535 2 [⟨65535, 65535⟩],
    .defineTip ⟨65536, 0⟩ 255 255 65535 65535 255 (some 254) (some 254) (some 254) (some 254) (some 254),
    .defineTip ⟨1, 241⟩ 255 255 65535 65535 255 (some 254) (some 254) (some 254) (some 254) (some 254),
    .defineTip ⟨65535, 240⟩ 256 255 65535 65535 255 (some 254) (some 254) (some 254) (some 254) (some 254),
    .defineTip ⟨65535, 240⟩ 255 256 65535 65535 255 (some 254) (some 254) (some 254) (some 254) (some 254),
    .defineTip ⟨65535, 240⟩ 255 255 65536 65535 255 (some 254) (some 254) (some 254) (some 254) (some 254),
    .defineTip ⟨65535, 240⟩ 255 255 65535 65536 255 (some 254) (some 254) (some 254) (some 254) (some 254),
    .defineTip ⟨65535, 240⟩ 255 255 65535 65535 256 (some 254) (some 254) (some 254) (some 254) (some 254),
    .defineTip ⟨65535, 240⟩ 255 255 65535 65535 255 (some 255) (some 254) (some 254) (some 254) (some 254),
    .defineTip ⟨65535, 240⟩ 255 255 65535 65535 255 (some 254) (some 255) (some 254) (some 254) (some 254),
    .defineTip ⟨65535, 240⟩ 255 255 65535 65535 255 (some 254) (some 254) (some 255) (some 254) (some 254),
    .defineTip ⟨65535, 240⟩ 255 255 65535 65535 255 (some 254) (some 254) (some 254) (some 255) (some 254),
    .defineTip ⟨65535, 240⟩ 255 255 65535 65535 255 (some 254) (some 254) (some 254) (some 254) (some 255),
    .defineChute ⟨65536, 0⟩ 255 255 65535 65535 (some 254) (some 254) (some 254) (some 254) (some 254),
    .defineChute ⟨1, 241⟩ 255 255 65535 65535 (some 254) (some 254) (some 254) (some 254) (some 254),
    .defineChute ⟨65535, 240⟩ 256 255 65535 65535 (some 254) (some 254) (some 254) (some 254) (some 254),
    .defineChute ⟨65535, 240⟩ 255 256 65535 65535 (some 254) (some 254) (some 254) (some 254) (some 254),
    .defineChute ⟨65535, 240⟩ 255 255 65536 65535 (some 254) (some 254) (some 254) (some 254) (some 254),
    .defineChute ⟨65535, 240⟩ 255 255 65535 65536 (some 254) (some 254) (some 254) (some 254) (some 254),
    .defineChute ⟨65535, 240⟩ 255 255 65535 65535 (some 255) (some 254) (some 254) (some 254) (some 254),
    .defineChute ⟨65535, 240⟩ 255 255 65535 65535 (some 254) (some 255) (some 254) (some 254) (some 254),
    .defineChute ⟨65535, 240⟩ 255 255 65535 65535 (some 254) (some 254) (some 255) (some 254) (some 254),
    .defineChute ⟨65535, 240⟩ 255 255 65535 65535 (some 254) (some 254) (some 254) (some 255) (some 254),
    .defineChute ⟨65535, 240⟩ 255 255 65535 65535 (some 254) (some 254) (some 254) (some 254) (some 255),
    .defineBreakerStation ⟨65536, 0⟩ 255 255 255, .defineBreakerStation ⟨1, 241⟩ 255 255 255,
    .defineBreakerStation ⟨65535, 240⟩ 256 255 255, .defineBreakerStation ⟨65535, 240⟩ 255 256 255,
    .defineBreakerStation ⟨65535, 240⟩ 255 255 256,
    .defineBreaker ⟨65536, 0⟩ (some 254) (some 254) (some 254) (some 254) (some 254) (some 254),
    .defineBreaker ⟨1, 241⟩ (some 254) (some 254) (some 254) (some 254) (some 254) (some 254),
    .defineBreaker ⟨65535, 240⟩ (some 255) (some 254) (some 254) (some 254) (some 254) (some 254),
    .defineBreaker ⟨65535, 240⟩ (some 254) (some 255) (some 254) (some 254) (some 254) (some 254),
    .defineBreaker ⟨65535, 240⟩ (some 254) (some 254) (some 255) (some 254) (some 254) (some 254),
    .defineBreaker ⟨65535, 240⟩ (some 254) (some 254) (some 254) (some 255) (some 254) (some 254),
    .defineBreaker ⟨65535, 240⟩ (some 254) (some 254) (some 254) (some 254) (some 255) (some 254)] : List Instr).all (fun i => !i.wellFormed) = true := by decide

theorem test_wellFormed_refuses_2 : ([
    .defineBreaker ⟨65535, 240⟩ (some 254) (some 254) (some 254) (some 254) (some 254) (some 255),
    .defineChannel ⟨65536, 0⟩ 255 (some 254) 65535 65535 (some 254),
    .defineChannel ⟨1, 241⟩ 255 (some 254) 65535 65535 (some 254),
    .defineChannel ⟨65535, 240⟩ 256 (some 254) 65535 65535 (some 254),
    .defineChannel ⟨65535, 240⟩ 255 (some 255) 65535 65535 (some 254),
    .defineChannel ⟨65535, 240⟩ 255 (some 254) 65536 65535 (some 254),
    .defineChannel ⟨65535, 240⟩ 255 (some 254) 65535 65536 (some 254),
    .defineChannel ⟨65535, 240⟩ 255 (some 254) 65535 65535 (some 255),
    .defineStation ⟨65536, 0⟩ (some 254), .defineStation ⟨1, 241⟩ (some 254),
    .defineStation ⟨65535, 240⟩ (some 255), .read ⟨65536, 0⟩ 255 255, .read ⟨1, 241⟩ 255 255,
    .read ⟨65535, 240⟩ 256 255, .read ⟨65535, 240⟩ 255 256,
    .tunePass ⟨65536, 0⟩ 255 16777215 16777215 65535 255 65535 65535,
    .tunePass ⟨1, 241⟩ 255 16777215 16777215 65535 255 65535 65535,
    .tunePass ⟨65535, 240⟩ 256 16777215 16777215 65535 255 65535 65535,
    .tunePass ⟨65535, 240⟩ 255 16777216 16777215 65535 255 65535 65535,
    .tunePass ⟨65535, 240⟩ 255 16777215 16777216 65535 255 65535 65535,
    .tunePass ⟨65535, 240⟩ 255 16777215 16777215 65536 255 65535 65535,
    .tunePass ⟨65535, 240⟩ 255 16777215 16777215 65535 256 65535 65535,
    .tunePass ⟨65535, 240⟩ 255 16777215 16777215 65535 255 65536 65535,
    .tunePass ⟨65535, 240⟩ 255 16777215 16777215 65535 255 65535 65536,
    .tuneTip ⟨65536, 0⟩ 255 65535 255, .tuneTip ⟨1, 241⟩ 255 65535 255,
    .tuneTip ⟨65535, 240⟩ 256 65535 255, .tuneTip ⟨65535, 240⟩ 255 65536 255,
    .tuneTip ⟨65535, 240⟩ 255 65535 256, .tuneChute ⟨65536, 0⟩ 255 65535 65535 255 65535,
    .tuneChute ⟨1, 241⟩ 255 65535 65535 255 65535, .tuneChute ⟨65535, 240⟩ 256 65535 65535 255 65535,
    .tuneChute ⟨65535, 240⟩ 255 65536 65535 255 65535,
    .tuneChute ⟨65535, 240⟩ 255 65535 65536 255 65535,
    .tuneChute ⟨65535, 240⟩ 255 65535 65535 256 65535,
    .tuneChute ⟨65535, 240⟩ 255 65535 65535 255 65536, .tuneStation ⟨65536, 0⟩ 65535 65535 65535 65535,
    .tuneStation ⟨1, 241⟩ 65535 65535 65535 65535, .tuneStation ⟨65535, 240⟩ 65536 65535 65535 65535,
    .tuneStation ⟨65535, 240⟩ 65535 65536 65535 65535,
    .tuneStation ⟨65535, 240⟩ 65535 65535 65536 65535,
    .tuneStation ⟨65535, 240⟩ 65535 65535 65535 65536, .setFill ⟨65536, 0⟩ 255 16777215,
    .setFill ⟨1, 241⟩ 255 16777215, .setFill ⟨65535, 240⟩ 256 16777215] : List Instr).all (fun i => !i.wellFormed) = true := by decide

theorem test_wellFormed_refuses_3 : ([
    .setFill ⟨65535, 240⟩ 255 16777216, .clearHang ⟨65536, 0⟩ 255, .clearHang ⟨1, 241⟩ 255,
    .clearHang ⟨65535, 240⟩ 256, .callTip ⟨65536, 0⟩ 255, .callTip ⟨1, 241⟩ 255,
    .callTip ⟨65535, 240⟩ 256, .withdraw ⟨65536, 0⟩ 255, .withdraw ⟨1, 241⟩ 255,
    .withdraw ⟨65535, 240⟩ 256, .order ⟨65536, 0⟩ 255 255, .order ⟨1, 241⟩ 255 255,
    .order ⟨65535, 240⟩ 256 255, .order ⟨65535, 240⟩ 255 256, .hold ⟨65536, 0⟩ 0, .hold ⟨1, 241⟩ 0,
    .free ⟨65536, 0⟩ 0, .free ⟨1, 241⟩ 0, .breakJob ⟨65536, 0⟩ 255 255, .breakJob ⟨1, 241⟩ 255 255,
    .breakJob ⟨65535, 240⟩ 256 255, .breakJob ⟨65535, 240⟩ 255 256, .floor ⟨65536, 0⟩ 255,
    .floor ⟨1, 241⟩ 255, .floor ⟨65535, 240⟩ 256,
    .postClearance ⟨65536, 0⟩ 255 255 65535 65535 0 0 false 65535,
    .postClearance ⟨1, 241⟩ 255 255 65535 65535 0 0 false 65535,
    .postClearance ⟨65535, 240⟩ 256 255 65535 65535 0 0 false 65535,
    .postClearance ⟨65535, 240⟩ 255 256 65535 65535 0 0 false 65535,
    .postClearance ⟨65535, 240⟩ 255 255 65536 65535 0 0 false 65535,
    .postClearance ⟨65535, 240⟩ 255 255 65535 65536 0 0 false 65535,
    .postClearance ⟨65535, 240⟩ 255 255 65535 65535 0 0 false 65536, .join ⟨65536, 0⟩ 255 65535,
    .join ⟨1, 241⟩ 255 65535, .join ⟨65535, 240⟩ 256 65535, .join ⟨65535, 240⟩ 255 65536,
    .leave ⟨65536, 0⟩ 255 65535, .leave ⟨1, 241⟩ 255 65535, .leave ⟨65535, 240⟩ 256 65535,
    .leave ⟨65535, 240⟩ 255 65536, .cancel ⟨65536, 0⟩ 255, .cancel ⟨1, 241⟩ 255,
    .cancel ⟨65535, 240⟩ 256, .proveChute ⟨65536, 0⟩ 255, .proveChute ⟨1, 241⟩ 255] : List Instr).all (fun i => !i.wellFormed) = true := by decide

theorem test_wellFormed_refuses_4 : ([
    .proveChute ⟨65535, 240⟩ 256, .proveChannel ⟨65536, 0⟩ 255, .proveChannel ⟨1, 241⟩ 255,
    .proveChannel ⟨65535, 240⟩ 256, .acceptProof ⟨65536, 0⟩ 255 255, .acceptProof ⟨1, 241⟩ 255 255,
    .acceptProof ⟨65535, 240⟩ 256 255, .acceptProof ⟨65535, 240⟩ 255 256, .linesRead ⟨65536, 0⟩ 255,
    .linesRead ⟨1, 241⟩ 255, .linesRead ⟨65535, 240⟩ 256,
    .linesWrite ⟨65536, 0⟩ 255 0 0 0 0 (some 254), .linesWrite ⟨1, 241⟩ 255 0 0 0 0 (some 254),
    .linesWrite ⟨65535, 240⟩ 256 0 0 0 0 (some 254), .linesWrite ⟨65535, 240⟩ 255 0 0 0 0 (some 255),
    .scanList ⟨65536, 0⟩ 0 0, .scanList ⟨1, 241⟩ 0 0, .start ⟨65536, 0⟩, .start ⟨1, 241⟩,
    .stop ⟨65536, 0⟩, .stop ⟨1, 241⟩, .resume ⟨65536, 0⟩, .resume ⟨1, 241⟩, .setup ⟨65536, 0⟩,
    .setup ⟨1, 241⟩, .acknowledge ⟨65536, 0⟩ 255 255 0, .acknowledge ⟨1, 241⟩ 255 255 0,
    .acknowledge ⟨65535, 240⟩ 256 255 0, .acknowledge ⟨65535, 240⟩ 255 256 0, .summary ⟨65536, 0⟩,
    .summary ⟨1, 241⟩, .attentionMask ⟨65536, 0⟩ 0, .attentionMask ⟨1, 241⟩ 0,
    .unknownRequest ⟨65536, 0⟩ 255, .unknownRequest ⟨1, 241⟩ 255, .unknownRequest ⟨65535, 240⟩ 256,
    .unknownRequest ⟨65535, 240⟩ 0x59] : List Instr).all (fun i => !i.wellFormed) = true := by decide

theorem test_wellFormed_accepts_the_greatest_fields : ([
    .resetRelease 63 3, .definePass ⟨65535, 240⟩ 255 65535 1 [⟨65535, 65535⟩],
    .defineTip ⟨65535, 240⟩ 255 255 65535 65535 255 (some 254) (some 254) (some 254) (some 254) (some 254),
    .defineChute ⟨65535, 240⟩ 255 255 65535 65535 (some 254) (some 254) (some 254) (some 254) (some 254),
    .defineBreakerStation ⟨65535, 240⟩ 255 255 255,
    .defineBreaker ⟨65535, 240⟩ (some 254) (some 254) (some 254) (some 254) (some 254) (some 254),
    .defineChannel ⟨65535, 240⟩ 255 (some 254) 65535 65535 (some 254),
    .defineStation ⟨65535, 240⟩ (some 254), .read ⟨65535, 240⟩ 255 255,
    .tunePass ⟨65535, 240⟩ 255 16777215 16777215 65535 255 65535 65535,
    .tuneTip ⟨65535, 240⟩ 255 65535 255, .tuneChute ⟨65535, 240⟩ 255 65535 65535 255 65535,
    .tuneStation ⟨65535, 240⟩ 65535 65535 65535 65535, .setFill ⟨65535, 240⟩ 255 16777215,
    .clearHang ⟨65535, 240⟩ 255, .callTip ⟨65535, 240⟩ 255, .withdraw ⟨65535, 240⟩ 255,
    .order ⟨65535, 240⟩ 255 255, .hold ⟨65535, 240⟩ 0, .free ⟨65535, 240⟩ 0,
    .breakJob ⟨65535, 240⟩ 255 255, .floor ⟨65535, 240⟩ 255,
    .postClearance ⟨65535, 240⟩ 255 255 65535 65535 0 0 false 65535, .join ⟨65535, 240⟩ 255 65535,
    .leave ⟨65535, 240⟩ 255 65535, .cancel ⟨65535, 240⟩ 255, .proveChute ⟨65535, 240⟩ 255,
    .proveChannel ⟨65535, 240⟩ 255, .acceptProof ⟨65535, 240⟩ 255 255, .linesRead ⟨65535, 240⟩ 255,
    .linesWrite ⟨65535, 240⟩ 255 0 0 0 0 (some 254), .scanList ⟨65535, 240⟩ 0 0, .start ⟨65535, 240⟩,
    .stop ⟨65535, 240⟩, .resume ⟨65535, 240⟩, .setup ⟨65535, 240⟩, .acknowledge ⟨65535, 240⟩ 255 255 0,
    .summary ⟨65535, 240⟩, .attentionMask ⟨65535, 240⟩ 0, .unknownRequest ⟨65535, 240⟩ 255] : List Instr).all Instr.wellFormed = true := by decide

/-! ## Frames and answers -/

/-- CALL of tip point 7 to station 62, its check 2316h computed outside the model (R175). -/
theorem test_frame_call :
    decodeFrame 62 [0xA5, 0x3E, 0x01, 0x02, 0x20, 0x01, 0x07, 0x23, 0x16]
      = some (.callTip (req 1) 7) := by decide +kernel
/-- The broadcast STOP (R177), its check computed outside the model. -/
theorem test_frame_broadcastStop :
    decodeFrame 1 [0xA5, 0x00, 0x00, 0x07, 0x51, 0x00, 0xA9, 0x12] = some .broadcastStop := by decide +kernel
/-- SET FILL of pass 2 to 6210 (1842h). -/
theorem test_frame_setFill :
    decodeFrame 1 [0xA5, 0x01, 0x03, 0x04, 0x15, 0x04, 0x02, 0x00, 0x18, 0x42, 0x25, 0x55]
      = some (.setFill ⟨0x0304, 4⟩ 2 6210) := by decide +kernel
/-- A check that fails, and a station that is not addressed: nothing is taken (R176, R177). -/
theorem test_frame_ignored :
    decodeFrame 1 [0xA5, 0x01, 0x03, 0x04, 0x15, 0x04, 0x02, 0x00, 0x18, 0x42, 0x25, 0x54]
        = some .ignoredFrame
      ∧ decodeFrame 61 [0xA5, 0x3E, 0x01, 0x02, 0x20, 0x01, 0x07, 0x23, 0x16] = some .ignoredFrame := by
  decide +kernel
/-- The answer to DEFINE PASS of section 1.9: the capacity 12465 is 0030B1h; its check computed outside. -/
theorem test_frame_answer : Answer.frame 1 ⟨0x0102, .accepted, [0x00, 0x30, 0xB1]⟩
    = [0x5A, 0x01, 0x01, 0x02, 0x00, 0x03, 0x00, 0x30, 0xB1, 0x6C, 0x7F] := by decide +kernel

/-- The body lengths of section 10.4. -/
theorem test_read_lengths :
    (plant.passBody 2).length = 37 + 4 * 3 ∧ (plant.tipBody 5).length = 22
      ∧ (plant.chuteBody 3).length = 30 ∧ (plant.bstBody 1).length = 11
      ∧ (travelling.breakerBody).length = 29 ∧ ((serviced .late).entryBody 1).length = 30 + 2
      ∧ plant.summaryBody.length = 11 := by decide
theorem test_read_pass : after (.read (req 2) 0 2) plant (answers .accepted
    [3, 1, 0x23, 0x28, 0, 0x30, 0xB1, 0, 0x27, 0x10, 0, 0x03, 0xE8, 0, 250, 2, 0, 250, 0x02, 0x58,
      0, 0x18, 0x42, 0, 0x18, 0x60, 0, 0, 0, 0, 0, 0, 0, 0, 0, 3, 0,
      0x05, 0xDC, 0, 95, 0x17, 0x70, 0, 154, 0x05, 0xDC, 0, 120]) = true := by decide
theorem test_read_type_above_seven : after (.read (req 2) 8 0) plant (answers .outOfRange []) = true := by
  decide
theorem test_unknownRequest : after (.unknownRequest (req 0) 0x60) plant (answers .unknownRequest []) = true := by
  decide
theorem test_badLength : after (.callTip (req 2) 5) plant (answers .badLength []) = true := by decide
/-- SUMMARY after a lapse at tip point 8 (section 10.6, event 2). -/
theorem test_summary : after (.summary (req 0)) ((inMode .run State.reset).modTip 8 fun x =>
    { x with conds := conds [.lapsed] }).endEvent
      (answers .accepted [1, 1, 0, 1, 0, 0, 0, 0, 0, 0, 0]) = true := by decide
theorem test_linesRead : after (.linesRead (req 1) 5) plant (answers .accepted
    ([20, 0, 0, 0, 16, 0] ++ ((List.replicate 7 [0, 0, 0, 255, 255]).flatten))) = true := by decide

/-! ## The link and the resets -/

theorem test_frameStartByte : after .frameStartByte plant
    (fun t => decide (t.link.receiver = .receiving [0xA5])) = true := by decide
theorem test_framingError : after .framingError
    (plant.modLink fun l => { l with receiver := .receiving [0xA5] })
    (fun t => decide (t.link.receiver = .hunting)) = true := by decide
theorem test_frameGapTimeout : after .frameGapTimeout
    (plant.modLink fun l => { l with receiver := .receiving [0xA5] })
    (fun t => decide (t.link.receiver = .hunting)) = true := by decide
theorem test_lengthAbove240 : after .lengthAbove240
    (plant.modLink fun l => { l with receiver := .receiving [0xA5] })
    (fun t => decide (t.link.receiver = .hunting)) = true := by decide
theorem test_ignoredFrame : after .ignoredFrame
    (plant.modLink fun l => { l with answer := some ⟨7, .accepted, []⟩ })
    (fun t => decide (t.link.answer = none)) = true := by decide
theorem test_answerSend : after .answerSend
    (plant.modLink fun l => { l with answer := some ⟨0x0102, .accepted, [0x00, 0x30, 0xB1]⟩ })
    (fun t => decide (t.link.sending
      = some [0x5A, 0x01, 0x01, 0x02, 0x00, 0x03, 0x00, 0x30, 0xB1, 0x6C, 0x7F])) = true := by decide +kernel
theorem test_answerSent : after .answerSent (plant.modLink fun l => { l with sending := some [0x5A] })
    (fun t => t.listening) = true := by decide
theorem test_powerOn : after .powerOn plant
    (fun t => decide (t.inReset = true ∧ t.pass 2 = Pass.reset ∧ (t.line 4).direction = .input)) = true := by
  decide
theorem test_resetLine_keeps_direction : after .resetLine plant
    (fun t => decide (t.tip 5 = Tip.reset ∧ (t.line 4).direction = .output)) = true := by decide
theorem test_resetRelease : after (.resetRelease 17 2) { plant with inReset := true }
    (fun t => decide (t.inReset = false ∧ t.link.address = 17 ∧ t.link.baud = 2)) = true := by decide

/-! ## Definitions and tuning -/

theorem test_definePass : after (.definePass (req 16) 2 9000 3 profile2) State.reset
    (fun t => answers .accepted [0x00, 0x30, 0xB1] t && decide ((t.pass 2).state = .unknown)) = true := by
  decide +kernel
theorem test_definePass_in_run_is_refused :
    after (.definePass (req 16) 2 9000 3 profile2) plant (answers .wrongMode []) = true := by decide
/-- Section 9.5, step 6: the lamp's line is released. -/
theorem test_defineTip : after
    (.defineTip (req 12) 5 2 8200 180 5 (some 1) (some 0) (some 1) none (some 3)) inSetup
    (fun t => answers .accepted [] t && decide ((t.line 2).binding = none)) = true := by decide +kernel
theorem test_defineTip_line_conflict : after
    (.defineTip (req 12) 6 2 8200 180 5 none (some 0) (some 16) none none) inSetup
    (answers .lineConflict []) = true := by decide
theorem test_defineChute : after
    (.defineChute (req 11) 0 2 0 60 (some 16) (some 17) (some 18) (some 19) (some 20)) inSetup
    (fun t => decide ((t.chute 0).defined = true ∧ (t.line 16).binding = some (.openValve 0)
      ∧ (t.line 16).direction = .output)) = true := by decide +kernel
theorem test_defineBreakerStation : after (.defineBreakerStation (req 3) 2 5 3) inSetup
    (answers .duplicate []) = true := by decide
theorem test_defineBreaker : after
    (.defineBreaker (req 6) (some 40) none none none none none) inSetup (answers .outOfRange []) = true := by
  decide
theorem test_defineChannel : after (.defineChannel (req 7) 6 (some 2) 300 9000 none) inSetup
    (fun t => decide ((t.channel 6).zeroAt = 300 ∧ (t.channel 6).state = .none
      ∧ (t.line 15).binding = none)) = true := by decide
theorem test_defineStation : after (.defineStation (req 1) (some 39)) inSetup
    (answers .outOfRange []) = true := by decide
theorem test_tunePass : after (.tunePass (req 14) 2 20000 20000 5 9 70000 700) plant
    (answers .accepted [0x00, 0x30, 0xB1, 0x00, 0x30, 0xB1, 0, 10, 4, 0xEA, 0x60, 0x02, 0x58]) = true := by
  decide
theorem test_tuneTip : after (.tuneTip (req 4) 5 99 8) plant (answers .accepted [0, 100, 7]) = true := by
  decide
theorem test_tuneChute : after (.tuneChute (req 8) 3 4 9 1 98) plant
    (fun t => answers .accepted [0, 5, 0, 10, 2, 0, 98] t
      && raised .proofDue (t.chute 3).conds) = true := by decide
theorem test_tuneStation : after (.tuneStation (req 8) 49 49 99 29) plant
    (answers .accepted [0, 50, 0, 50, 0, 100, 0, 30]) = true := by decide
theorem test_attentionMask : after (.attentionMask (req 4) 0xFFFFFEFF) plant
    (answers .accepted [0x00, 0x7F, 0xFE, 0xFF]) = true := by decide

/-! ## Passes and channels -/

theorem test_setFill : after (.setFill (req 4) 2 12466) plant
    (fun t => decide ((t.pass 2).e = 12465 ∧ (t.pass 2).r = 12465 ∧ (t.pass 2).d = 0)) = true := by decide
theorem test_clearHang : after (.clearHang (req 1) 2) hung
    (fun t => decide ((t.pass 2).state = .running ∧ (t.pass 2).r = 6420)) = true := by decide
/-- Section 1.9, event 1, with channel 2 converting and channel 6 at 1162: M = 6426, and E becomes 6264. -/
theorem test_conversionCompletion : after (.conversionCompletion 1150)
    { (plant.modChannel 2 fun x => { x with
        defined := true, assignment := some 2, span := 9000, inQuiet := true }) with scanner := ⟨2, true⟩ }
    (fun t => decide ((t.pass 2).e = 6264 ∧ (t.pass 2).r = 6426 ∧ (t.channel 2).state = .valid
      ∧ t.scanner = ⟨6, true⟩)) = true := by decide
/-- The readings of the table of R38. -/
theorem test_heights : ({ plant.channel 6 with reading := 1150 }).heightIn 9000 = 4782
    ∧ ({ plant.channel 6 with reading := 380 }).heightIn 9000 = 9000
    ∧ ({ plant.channel 6 with reading := 400, zeroAt := 300 }).heightIn 9000 = 8700
    ∧ ({ plant.channel 6 with reading := 2050, zeroAt := 300 }).heightIn 9000 = 0
    ∧ volumeAt profile2 4782 = 6479 ∧ volumeAt profile2 4714 = 6374 := by decide
/-- Section 1.9: the blends of events 1 and 7, and of the estimate at 6600. -/
theorem test_blend : blend 2 12465 6210 6426 = 6264 ∧ blend 2 12465 6600 6426 = 6557
    ∧ blend 2 12465 5964 6420 = 6078 := by decide
/-- Section 1.9, events 7 to 9. -/
theorem test_measure :
    ({ pass2 with e := 5964, r := 6426, d := 300 }).measure 6420
        = { pass2 with e := 6420, r := 6420, d := 0, state := .hung, conds := conds [.hang] }
      ∧ ({ pass2 with e := 6300, r := 6420, state := .hung }).measure 6160
        = { pass2 with e := 6160, r := 6160, conds := conds [.released] } := by decide
theorem test_stalenessExpiry : after (.stalenessExpiry 6) (withChannel fun x => { x with age := 600 })
    (fun t => decide ((t.channel 6).state = .stale) && raised .blind (t.pass 2).conds) = true := by decide
theorem test_scanList : after (.scanList (req 2) 0x55 0x11) plant
    (fun t => answers .accepted [0x55, 0x11] t
      && decide ((t.channel 4).inBreaking = true ∧ (t.channel 4).inQuiet = true)) = true := by decide
theorem test_ageTick : after .ageTick granted
    (fun t => decide ((t.tip 5).timer = some 899 ∧ (t.channel 6).age = 1)) = true := by decide
/-- Section 7.4, events 5 and 9. -/
theorem test_proveChannel : after (.proveChannel (req 1) 6) plant
    (fun t => answers .accepted [1, 0, 100] t && decide ((t.channel 6).settleMark = some 20)
      && (t.line 15).raw) = true := by decide
theorem test_windowTimerExpiry : after (.windowTimerExpiry 6)
    (withChannel fun x => { x with proof := .proving, windowTimer := some 0 })
    (fun t => decide ((t.channel 6).proof = .held ∧ (t.channel 6).lastProof = .fail)) = true := by decide
theorem test_settleMarkExpiry : after (.settleMarkExpiry 6)
    (withChannel fun x => { x with proof := .proving, settleMark := some 0 })
    (fun t => decide ((t.channel 6).settleMark = none ∧ (t.channel 6).proof = .proving)) = true := by decide

/-! ## Tip points -/

/-- Section 3.9, event 1, with the numbers of section 1.9's tip point 5. -/
theorem test_callTip : after (.callTip (req 1) 5) plant
    (fun t => answers .accepted [2] t && decide ((t.tip 5).timer = some 900 ∧ (t.pass 2).reserved = 180)
      && (t.line 2).raw) = true := by decide
theorem test_withdraw : after (.withdraw (req 1) 5) waiting
    (fun t => answers .accepted [0] t && decide ((t.pass 2).waiting = [])) = true := by decide
theorem test_debounceExpiry_call : after (.debounceExpiry 0) (due 0 true plant)
    (fun t => decide ((t.tip 5).state = .granted ∧ (t.tip 5).source = .field)) = true := by decide
theorem test_debounceExpiry_tip : after (.debounceExpiry 1) (due 1 true granted)
    (fun t => decide ((t.pass 2).e = 6390 ∧ (t.pass 2).reserved = 0 ∧ (t.tip 5).state = .idle)) = true := by
  decide
theorem test_grantTimerExpiry : after (.grantTimerExpiry 5) granted
    (fun t => decide ((t.pass 2).reserved = 0) && raised .lapsed (t.tip 5).conds && t.attn) = true := by
  decide

/-! ## Chutes -/

/-- Section 4.11, event 1. -/
theorem test_order : after (.order (req 2) 3 3) plant
    (fun t => answers .accepted [3] t && decide ((t.chute 3).state = .closed)) = true := by decide
/-- Section 4.11, events 7 and 10. -/
theorem test_hold : after (.hold (req 1) 0x08) holding
    (fun t => answers .accepted [8] t && decide ((t.chute 3).state = .holding)) = true := by decide
theorem test_free : after (.free (req 1) 0x08)
    (withChute fun c => { c with held := true, callPending := true, count := 1 })
    (fun t => answers .accepted [0] t && decide ((t.chute 3).strokeTimer = some 80) && (t.line 4).raw)
      = true := by decide
/-- Section 4.11, event 4. -/
theorem test_holdTimerExpiry : after (.holdTimerExpiry 3) holding
    (fun t => decide ((t.chute 3).count = 2 ∧ (t.chute 3).cycles = 99 ∧ (t.chute 3).state = .closing
      ∧ (t.pass 2).e = 6150 ∧ (t.pass 2).d = 60) && (t.line 5).raw) = true := by decide
theorem test_strokeTimerExpiry : after (.strokeTimerExpiry 3)
    (withChute fun c => { c with state := .opening, strokeTimer := some 0 })
    (fun t => decide ((t.chute 3).state = .closing ∧ (t.chute 3).faultHold = true)
      && raised .strokeFault (t.chute 3).conds) = true := by decide
theorem test_nudgeTimerExpiry : after (.nudgeTimerExpiry 3)
    (withChute fun c => { c with state := .nudging, nudgeTimer := some 0 })
    (fun t => decide ((t.chute 3).lastProof = .fail ∧ (t.chute 3).proofHold = true)) = true := by decide
/-- R92, third row: the closed limit is taken first and a new cycle starts; the expiry behind it makes no fault. -/
theorem test_r92_closed_limit_first : after (.debounceExpiry 7)
    { due 7 true (stroking .closing) with pending := [.strokeTimerExpiry 3] }
    (fun t => decide ((t.chute 3).state = .opening)
      && after (.strokeTimerExpiry 3) { t with pending := [] } fun u =>
        decide (u = { t with chutes := u.chutes, pending := [] } ∧ u.chute 3 = { t.chute 3 with staleExpiry := false }
          ∧ (u.chute 3).strokeTimer = some 80)) = true := by decide +kernel
/-- R94, third row: the abort is taken first; the expiry behind it makes no fault. The next one does (R91). -/
theorem test_r94_abort_first : after (.stop (req 0))
    { stroking .opening with pending := [.strokeTimerExpiry 3] }
    (fun t => decide ((t.chute 3).state = .closing ∧ (t.chute 3).strokeTimer = some 80)
      && after (.strokeTimerExpiry 3) t fun u => decide ((u.chute 3).faultHold = false
        ∧ (u.chute 3).strokeTimer = some 80) && !raised .strokeFault (u.chute 3).conds
        && after (.strokeTimerExpiry 3) u fun v => decide ((v.chute 3).faultHold = true)) = true := by decide +kernel
/-- R91: the open limit, the hold expiry and a stroke expiry in one queue: the closing stroke's own expiry. -/
theorem test_r91_after_a_hold : after (.debounceExpiry 6)
    { due 6 true (stroking .opening) with pending := [.holdTimerExpiry 3, .strokeTimerExpiry 3] }
    (fun t => after (.holdTimerExpiry 3) { t with pending := [.strokeTimerExpiry 3] } fun u =>
      after (.strokeTimerExpiry 3) { u with pending := [] } fun v => decide ((v.chute 3).state = .closing
        ∧ (v.chute 3).faultHold = true ∧ (v.chute 3).strokeTimer = none)
          && raised .strokeFault (v.chute 3).conds) = true := by decide +kernel
/-- R150: an abort on the seat is final (step 3), a fall of the raw level that is still debounced included. -/
theorem test_abort_of_a_seated_nudge : after (.stop (req 0))
    (withChute fun c => { c with state := .nudging, nudgeTimer := some 3 })
    (fun t => decide ((t.chute 3).state = .closed ∧ (t.chute 3).lastProof = .aborted)) = true := by decide +kernel
theorem test_abort_while_the_fall_is_debounced : after (.stop (req 0)) lifting
    (fun t => decide ((t.chute 3).state = .closed ∧ (t.chute 3).lastProof = .aborted)) = true := by decide +kernel
/-- R150, first row of its table: the abort is taken first, the fall waits behind it and changes nothing. -/
theorem test_abort_together_with_the_fall : after (.stop (req 0)) { lifting with pending := [.debounceExpiry 7] }
    (fun t => decide ((t.chute 3).state = .reclosing ∧ (t.chute 3).pendingProof = some .aborted)
      && after (.debounceExpiry 7) t fun u => decide ((u.chute 3).state = .reclosing
        ∧ (u.chute 3).pendingProof = some .aborted) && !raised .drift (u.chute 3).conds
        && !u.level (.closedLimit 3)) = true := by decide +kernel
/-- R128 step 7: the debit of an aborted draw runs its pass's arbiter, though E stays 0. -/
theorem test_post_runs_the_arbiter_of_an_aborted_draw : after (.postClearance (req 12) 2 0 0 0 0 0x08 false 101)
    ((holding.modTip 5 fun x => { x with state := .waiting, source := .link }).modPass 2 fun q =>
      { q with e := 0, waiting := [5] })
    (fun t => decide ((t.pass 2).e = 0 ∧ (t.pass 2).d = 60 ∧ (t.tip 5).state = .granted)) = true := by
  decide +kernel
/-- Section 7.4, events 1 and 4. -/
theorem test_proveChute : after (.proveChute (req 1) 3) plant
    (fun t => answers .accepted [4, 5] t && (t.line 4).raw) = true := by decide
theorem test_acceptProof : after (.acceptProof (req 2) 2 3)
    (withChute fun c => { c with proofHold := true, lastProof := .pass, cycles := 101 })
    (answers .accepted [1, 0, 0, 0]) = true := by decide

/-! ## The breaker -/

/-- Section 5.7, events 2 to 5, 7 and 9. -/
theorem test_breakJob : after (.breakJob (req 2) 1 6) plant
    (fun t => answers .accepted [6, 0] t && decide (t.breaker.current = some ⟨1, 6, .link, 0⟩)
      && (t.line 9).raw && (t.line 10).raw && !(t.line 11).raw) = true := by decide
theorem test_floor : after (.floor (req 1) 2) travelling
    (fun t => decide (t.breaker = { travelling.breaker with floor := 2 })) = true := by decide
theorem test_travelTimerExpiry : after .travelTimerExpiry travelling
    (fun t => decide (t.breaker.state = .returning) && raised .travelTimeout (t.bst 1).conds) = true := by
  decide +kernel
theorem test_breakTimerExpiry : after .breakTimerExpiry breaking
    (fun t => decide (t.breaker.state = .returning ∧ t.breaker.returnTimer = some 600
      ∧ (t.bst 1).retryHeld = true) && raised .unfinished (t.bst 1).conds) = true := by decide +kernel
theorem test_returnTimerExpiry : after .returnTimerExpiry returning
    (fun t => decide (t.breaker.returnOverdue = true ∧ t.breaker.state = .returning)) = true := by decide

/-! ## Clearances -/

/-- Section 6.11, events 1 and 2, and 5.7, event 12. -/
theorem test_postClearance : after (.postClearance (req 12) 1 2 0 0 0 0 false 101) travelling
    (fun t => decide ((t.entry 0).inUse = true ∧ t.breaker.jobs = [⟨1, 5, .oversize, 1⟩]
      ∧ t.breaker.state = .returning) && !(t.line 9).raw) = true := by decide +kernel
theorem test_join : after (.join (req 3) 1 2207) (serviced .late)
    (answers .accepted [0x00, 101, 0x08, 0x9F, 2]) = true := by decide
theorem test_leave : after (.leave (req 3) 1 101) (serviced .inForce)
    (fun t => decide (t.entry 1 = Entry.reset)) = true := by decide
theorem test_cancel : after (.cancel (req 1) 1) (serviced .inForce) (answers .inForce []) = true := by decide
theorem test_settleTimerExpiry : after (.settleTimerExpiry 1) (serviced .pending)
    (fun t => decide ((t.entry 1).state = .late) && raised .late (t.entry 1).conds) = true := by decide

/-! ## The station and the lines -/

theorem test_start : after (.start (req 0)) inSetup
    (fun t => answers .accepted [1] t && decide (t.station.mode = .run ∧ (t.pass 2).r = 6240)) = true := by
  decide
/-- Section 8.8, events 1, 2 and 4. -/
theorem test_stop : after (.stop (req 0)) granted
    (fun t => answers .accepted [2, 2] t && decide ((t.tip 5).state = .idle ∧ (t.pass 2).reserved = 0)
      && raised .halted t.station.conds) = true := by decide
theorem test_broadcastStop : after .broadcastStop plant
    (fun t => decide (t.station.causes = ⟨false, false, true⟩ ∧ t.link.answer = none)) = true := by decide
theorem test_resume : after (.resume (req 0)) (high 40 halted) (answers .stopActive []) = true := by decide
theorem test_setup : after (.setup (req 0)) halted
    (fun t => answers .accepted [0] t && decide (t.station.mode = .setup)) = true := by decide
/-- Section 10.6, event 5. -/
theorem test_acknowledge : after (.acknowledge (req 6) 2 3 0x2000)
    (withChute fun c => { c with faultHold := true, conds := conds [.strokeFault] })
    (fun t => decide ((t.chute 3).faultHold = false) && !t.attn) = true := by decide
/-- Section 9.5, steps 2 and 3. -/
theorem test_linesWrite_bound_output_stays_driven : after (.linesWrite (req 6) 0 0x04 0 0x04 0x04 none) plant
    (fun t => decide ((t.line 2).direction = .input) && !(t.line 2).raw && !t.readValue 2) = true := by decide
theorem test_linesWrite_drives_an_input : after (.linesWrite (req 6) 0 0x01 0x01 0x01 0x01 (some 22)) plant
    (fun t => (t.line 0).raw && decide ((t.line 0).timer = some 20)) = true := by decide
theorem test_rawLevelChange : after (.rawLevelChange 0 true) plant
    (fun t => (t.line 0).raw && !(t.line 0).debounced && decide ((t.line 0).timer = some 20)) = true := by
  decide
theorem test_step_takes_the_front : step { plant with pending := [.callTip (req 1) 5, .ageTick] }
    = exec (.callTip (req 1) 5) { plant with pending := [.ageTick] } := by rfl

/-! ## States and operands that meet the hypotheses of the statements, clause by clause -/

theorem witness_RequestBodiesRoundTrip :
    let i := Instr.acknowledge ⟨0xFFFF, 6⟩ 255 255 0xFFFFFFFF
    i.wellFormed = true ∧ i.request? = some ⟨0xFFFF, 6⟩
      ∧ encodeRequest i = some (0x58, [255, 255, 255, 255, 255, 255]) := by decide

theorem witness_RequestFramesRoundTrip :
    let i := Instr.callTip (req 1) 7
    i.wellFormed = true ∧ i.request? = some (req 1) ∧ encodeRequest i = some (0x20, [7])
      ∧ (req 1).length = [(7 : Byte)].length ∧ 1 ≤ 62 ∧ 62 ≤ 62
      ∧ encodeFrame 62 i = some [0xA5, 0x3E, 0x01, 0x02, 0x20, 0x01, 0x07, 0x23, 0x16] ∧ 61 ≠ 62 := by
  decide +kernel

theorem witness_CommonChecksRefuse :
    let i := Instr.callTip (req 2) 7
    let unaddressed (n : Nat) : State := plant.modLink fun l => { l with address := n }
    i.wellFormed = true ∧ i.request? = some (req 2) ∧ plant.listening = true
      ∧ (ownAddress plant.link.address).isSome = true ∧ encodeRequest i = some (0x20, [7])
      ∧ (req 2).length ≠ [(7 : Byte)].length
      ∧ (unaddressed 0).listening = true ∧ ownAddress (unaddressed 0).link.address = none
      ∧ ownAddress (unaddressed 63).link.address = none
      ∧ (ownAddress (unaddressed 62).link.address).isSome = true
      ∧ (∀ n ∈ [1, 2, 3, 4, 6, 7, 8, 11, 12, 14, 4 + 4 * 0, 4 + 4 * 8], plant.takes (req n) n = true)
      ∧ 6 ≤ 6 ∧ 16 ≤ 16 ∧ 8 ≤ 8 ∧ 4 ≤ 4 ∧ 24 ≤ 24 ∧ 1 ≤ 1 ∧ 1 ≤ 255 := by decide

theorem witness_TagFFFFActsInFullWithoutAnswer :
    (Instr.callTip (req 1) 5).request?.isSome = true ∧ plant.listening = true := by decide

theorem witness_ReceiverDiscardsAndHunts :
    plant.listening = true ∧ plant.link.receiver = .hunting := by decide

theorem witness_AnswersAreSentAndNothingIsReceivedMeanwhile :
    let a : Answer := ⟨1, .accepted, [7]⟩
    let s := plant.modLink fun l => { l with answer := some a }
    let t := plant.modLink fun l => { l with sending := some [0x5A] }
    s.listening = true ∧ s.link.answer = some a ∧ s.inReset = false ∧ t.link.sending.isSome = true
      ∧ (Instr.callTip (req 1) 5).request?.isSome = true := by decide

theorem witness_HeldInResetNothingActs :
    { plant with inReset := true }.inReset = true ∧ Instr.ageTick.takenInReset = false := by decide

theorem witness_ResetsClearTheRecords :
    (Instr.resetLine = .powerOn ∨ Instr.resetLine = .resetLine)
      ∧ (Instr.powerOn = .powerOn ∨ Instr.powerOn = .resetLine) := by decide

theorem witness_ResetsAndReleaseTreatLines :
    { plant with inReset := true }.inReset = true ∧ plant.inReset = false := by decide

theorem witness_ReadsReportAndChangeNothing :
    plant.takes (req 2) 2 = true ∧ 7 < 8 ∧ plant.takes (req 1) 1 = true := by decide

theorem witness_SummaryShowsEveryRaisedRecord :
    plant.takes (req 0) 0 = true ∧ plant.entriesLawful = true ∧ (plant.entry 23).inUse = false := by decide

theorem witness_EventsEndWithinTheirTriggers :
    let ev := Event.of State.reset
    (ev.choice = false ∨ ev.st.breaker.state ≠ .parked) ∧ (0 : ChuteIdx) ∉ ev.tries
      ∧ (0 : EntryIdx) ∉ ev.touched ∧ ev.touched = [] ∧ (0 : PassIdx) ∉ ev.arb ∧ ev.arb = [] ∧ ev.tries = []
      ∧ ev.choice = false ∧ ev.st.linesSettled = true ∧ ev.st.attnJudged = true
      ∧ ((⟨travelling, [], [], true, []⟩ : Event).choice = false ∨ travelling.breaker.state ≠ .parked) := by
  decide

theorem witness_VolumeAtHeightWalksTheProfile :
    let below : List Segment := [⟨1500, 95⟩]
    let g : Segment := ⟨6000, 154⟩
    profileHeight below ≤ 1500 ∧ 1500 ≤ profileHeight below + g.height
      ∧ profileHeight below ≤ 7500 ∧ 7500 ≤ profileHeight below + g.height ∧ 1500 ≤ 7500 := by decide

theorem witness_DefinePassTreatsTheWorkingState :
    let g : List Segment := [⟨8200, 2000⟩]
    let n := 4 + 4 * g.length
    let undefinedPass := inSetup.modPass 2 fun _ => Pass.reset
    let serving := withPass fun q => { q with state := .outOfService }
    let above (s : State) (height : Nat) : Bool :=
      (List.finRange 16).any (fun t => (s.tip t).defined && decide ((s.tip t).pass = 2 ∧ height < (s.tip t).elevation))
        || (List.finRange 8).any (fun c => (s.chute c).defined
          && decide ((s.chute c).pass = 2 ∧ height < (s.chute c).elevation))
    let sound (g : List Segment) (height : Nat) : Bool := decide (100 ≤ height ∧ height ≤ 30000 ∧ 1 ≤ g.length
      ∧ g.length ≤ 8 ∧ (g.map Segment.height).sum ≤ 30000)
      && g.all fun x => decide (10 ≤ x.height ∧ x.height ≤ 30000 ∧ 10 ≤ x.area ∧ x.area ≤ 2000)
    (∀ s ∈ [plant, inSetup, undefinedPass, serving], s.takes (req n) n = true)
      ∧ (plant.station.mode = .run ∧ (plant.pass 2).state ≠ .outOfService)
      ∧ (inSetup.station.mode = .setup ∧ sound g 99 = false ∧ sound [] 9000 = false
        ∧ sound [⟨9, 10⟩] 9000 = false ∧ sound [⟨30000, 10⟩, ⟨10, 10⟩] 9000 = false)
      ∧ (sound g 100 = true ∧ sound g 30000 = true ∧ sound [⟨10, 10⟩, ⟨29990, 2000⟩] 9000 = true)
      ∧ ((inSetup.pass 2).state ≠ .outOfService ∧ (inSetup.pass 2).defined = true)
      ∧ (undefinedPass.station.mode = .setup ∧ (undefinedPass.pass 2).state ≠ .outOfService
        ∧ (undefinedPass.pass 2).defined = false)
      ∧ (serving.station.mode = .run ∧ (serving.pass 2).state = .outOfService ∧ (serving.pass 2).defined = true
        ∧ sound g 8199 = true ∧ (g.map Segment.height).sum ≠ 8199 ∧ above serving 8199 = true
        ∧ (g.map Segment.height).sum = 8200 ∧ sound g 8200 = true ∧ above serving 8200 = false) := by decide

theorem witness_TunePassClampsAndHandsOn :
    plant.takes (req 14) 14 = true ∧ (plant.pass 2).defined = true ∧ (plant.pass 3).defined = false := by decide

theorem witness_SetFillAndClearHang :
    (plant.pass 2).defined = true ∧ plant.takes (req 4) 4 = true ∧ plant.takes (req 1) 1 = true
      ∧ (plant.pass 2).state ≠ .hung ∧ (hung.pass 2).defined = true ∧ hung.takes (req 1) 1 = true
      ∧ (hung.pass 2).state = .hung ∧ (plant.pass 3).defined = false := by decide

/-- The boundaries of R13 to R15 (twice the drop equal to D, D at the threshold, M at the release level) and of
R37 (360, 400, 2000 and 2100). -/
theorem witness_MeasurementsFollowThePassState :
    let q (state : PassState) (r d : Nat) (known : Bool) : Pass :=
      { pass2 with state := state, r := r, d := d, known := known }
    (q .unknown 0 0 false).state = .unknown
      ∧ ((q .running 6426 0 true).state = .running ∧ (q .running 6426 0 true).d = 0)
      ∧ (0 < 300 ∧ (300 : Int) ≤ 2 * ((6426 : Int) - 6276))
      ∧ (0 < 249 ∧ 2 * ((6426 : Int) - 6302) < 249 ∧ 249 < (q .running 6426 249 true).hangThreshold)
      ∧ (0 < 250 ∧ 2 * ((6426 : Int) - 6302) < 250 ∧ (q .running 6426 250 true).hangThreshold ≤ 250)
      ∧ (6170 : Int) ≤ (6420 : Int) - (q .hung 6420 0 true).hangThreshold
      ∧ (6420 : Int) - (q .hung 6420 0 true).hangThreshold < 6171
      ∧ ((q .outOfService 0 0 true).state = .outOfService ∧ (q .outOfService 0 0 true).known = true)
      ∧ ((q .outOfService 0 0 false).state = .outOfService ∧ (q .outOfService 0 0 false).known = false)
      ∧ ¬ ((plant.pass 2).state = .running ∧ ((plant.pass 2).measure 6180).state = .hung)
      ∧ scanning.inReset = false ∧ scanning.scanner = ⟨6, true⟩ ∧ scanning.enabled 6 = true
      ∧ (scanning.channel 6).assignment = some 2 ∧ (scanning.channel 6).proof = .idle
      ∧ (scanning.pass 2).defined = true ∧ 360 ≤ 360 ∧ 2100 ≤ 2100 := by decide

theorem witness_HangRevokesGrantsAndAbortsCycles :
    let s := withPass fun q => { q with r := 6426, d := 250 }
    (s.pass 2).state = .running ∧ 0 < (s.pass 2).d
      ∧ 2 * (((s.pass 2).r : Int) - (6302 : Nat)) < (s.pass 2).d
      ∧ (s.pass 2).hangThreshold ≤ (s.pass 2).d ∧ (s.chute 3).pass = 2 ∧ (s.chute 3).state ≠ .holding
      ∧ (s.chute 3).defined = true := by
  decide

theorem witness_ScanTakesTheNextEnabledChannel :
    let t := plant.chooseConversion
    let u := breaking.chooseConversion
    t.scanner.converting = true ∧ u.scanner.converting = false := by decide

theorem witness_ConversionsAreKeptAndJudged :
    let heldOne := { (withChannel fun x => { x with proof := .held }) with scanner := ⟨6, true⟩ }
    let free := { (withChannel fun x => { x with assignment := none }) with scanner := ⟨6, true⟩ }
    let bare := { (withPass fun _ => Pass.reset) with scanner := ⟨6, true⟩ }
    let unlisted := { (withChannel fun x => { x with inQuiet := false }) with scanner := ⟨6, true⟩ }
    plant.inReset = false ∧ plant.scanner.converting = false
      ∧ (unlisted.inReset = false ∧ unlisted.scanner = ⟨6, true⟩ ∧ unlisted.enabled 6 = false)
      ∧ (heldOne.inReset = false ∧ heldOne.scanner = ⟨6, true⟩ ∧ heldOne.enabled 6 = true
        ∧ (heldOne.channel 6).proof = .held)
      ∧ (free.inReset = false ∧ free.scanner = ⟨6, true⟩ ∧ free.enabled 6 = true
        ∧ (free.channel 6).proof = .idle ∧ (free.channel 6).assignment = none)
      ∧ (bare.inReset = false ∧ bare.scanner = ⟨6, true⟩ ∧ bare.enabled 6 = true
        ∧ (bare.channel 6).proof = .idle ∧ (bare.channel 6).assignment = some 2
        ∧ (bare.pass 2).defined = false ∧ 360 ≤ 2100 ∧ 2100 ≤ 2100)
      ∧ (scanning.inReset = false ∧ scanning.scanner = ⟨6, true⟩ ∧ scanning.enabled 6 = true
        ∧ (scanning.channel 6).proof = .idle ∧ (scanning.channel 6).assignment = some 2
        ∧ (359 < 360 ∨ 2100 < 359) ∧ (2101 < 360 ∨ 2100 < 2101)) := by decide

theorem witness_ChannelProofsRunTheirCourse :
    let proving := { (withChannel fun x =>
      { x with proof := .proving, windowTimer := some 0, settleMark := some 0 }) with scanner := ⟨6, true⟩ }
    let heldOne := withChannel fun x => { x with proof := .held }
    plant.takes (req 1) 1 = true ∧ (plant.channel 6).defined = true
      ∧ (plant.channel 6).assignment = some 2 ∧ plant.bound (.test 6) = true ∧ (plant.channel 6).proof = .idle
      ∧ (heldOne.takes (req 1) 1 = true ∧ (heldOne.channel 6).defined = true
        ∧ (heldOne.channel 6).assignment = some 2 ∧ heldOne.bound (.test 6) = true
        ∧ (heldOne.channel 6).proof ≠ .idle)
      ∧ ((plant.channel 7).defined = false)
      ∧ (proving.inReset = false ∧ (proving.channel 6).proof = .proving
        ∧ (proving.channel 6).windowTimer.isSome = true ∧ (proving.channel 6).settleMark.isSome = true
        ∧ proving.scanner = ⟨6, true⟩ ∧ proving.enabled 6 = true ∧ 360 ≤ 1160 ∧ 1240 ≤ 2100
        ∧ (359 < 360 ∨ 2100 < 359) ∧ (2101 < 360 ∨ 2100 < 2101))
      ∧ plant.takes (req 2) 2 = true ∧ heldOne.takes (req 2) 2 = true
      ∧ (heldOne.channel 6).proof = .held ∧ proving.takes (req 2) 2 = true
      ∧ (proving.channel 6).defined = true := by decide

theorem witness_AgesGrowAndReadingsGoStale :
    let old := withChannel fun x => { x with age := 600 }
    let young := withChannel fun x => { x with age := 599 }
    let faulty := withChannel fun x => { x with age := 600, state := .fault }
    plant.inReset = false
      ∧ (old.inReset = false ∧ (old.channel 6).assignment = some 2 ∧ (old.channel 6).state = .valid
        ∧ (old.pass 2).staleLimit ≤ (old.channel 6).age)
      ∧ (young.inReset = false ∧ (young.channel 6).assignment = some 2
        ∧ (young.channel 6).age < (young.pass 2).staleLimit)
      ∧ (faulty.inReset = false ∧ (faulty.channel 6).state ≠ .valid ∧ (faulty.channel 6).state ≠ .clamped)
      ∧ (plant.channel 7).assignment = none := by decide

theorem witness_DefineChannelAndScanListSetTheChannels :
    let serving := withPass fun q => { q with state := .outOfService }
    let a : Option PassIdx := some 2
    let l : Option LineIdx := some 39
    let full (s : State) (q : PassIdx) : Prop := ∃ o1 o2 : ChannelIdx, o1 < o2 ∧ o1 ≠ 6 ∧ o2 ≠ 6
      ∧ (s.channel o1).assignment = some q ∧ (s.channel o2).assignment = some q
    (inSetup.takes (req 7) 7 = true ∧ serving.takes (req 7) 7 = true)
      ∧ 30000 ≤ 30000 ∧ 100 ≤ 100 ∧ (∀ i, l = some i → i.val < 40)
      ∧ (inSetup.station.mode = .setup ∧ (inSetup.channel 6).proof = .idle
        ∧ (∀ q, a = some q → (inSetup.pass q).defined = true) ∧ ¬ full inSetup 2
        ∧ inSetup.lineConflict [(.test 6, l)] = false)
      ∧ (serving.station.mode = .run
        ∧ (∀ q, (serving.channel 6).assignment = some q ∨ a = some q → (serving.pass q).state = .outOfService)
        ∧ (serving.channel 6).proof = .idle ∧ (∀ q, a = some q → (serving.pass q).defined = true)
        ∧ ¬ full serving 2 ∧ serving.lineConflict [(.test 6, l)] = false)
      ∧ plant.takes (req 2) 2 = true := by
  decide

theorem witness_DefineChannelAndScanListSetTheChannels_refusals :
    let proving := inSetup.modChannel 6 fun x => { x with proof := .proving }
    let crowded := (inSetup.modChannel 0 fun x => { x with assignment := some 2 }).modChannel 7 fun x =>
      { x with assignment := some 2 }
    (∀ s ∈ [plant, halted, inSetup, proving, crowded], s.takes (req 7) 7 = true)
      ∧ (halted.station.mode = .halted ∧ plant.station.mode = .run
        ∧ (plant.channel 6).assignment = some 2 ∧ (plant.pass 2).state ≠ .outOfService)
      ∧ (proving.station.mode = .setup ∧ (proving.channel 6).proof ≠ .idle)
      ∧ (inSetup.station.mode = .setup ∧ (inSetup.channel 6).proof = .idle ∧ 30000 < 30001 ∧ 99 < 100
        ∧ (some 6 : Option Nat).any (fun n => decide (5 < n)) = true
        ∧ (some 40 : Option Nat).any (fun n => decide (39 < n)) = true)
      ∧ (inSetup.pass 3).defined = false ∧ (inSetup.pass 2).defined = true
      ∧ (crowded.station.mode = .setup ∧ (crowded.channel 6).proof = .idle
        ∧ ∃ o1 o2 : ChannelIdx, o1 < o2 ∧ o1 ≠ 6 ∧ o2 ≠ 6
          ∧ (crowded.channel o1).assignment = some 2 ∧ (crowded.channel o2).assignment = some 2)
      ∧ inSetup.lineConflict [(.test 6, some 0)] = true := by
  decide

theorem witness_DefineTipTreatsTheWorkingState :
    let g : Option StationIdx := some 1
    let roles : Roles :=
      [(.call 5, some 16), (.tipSensor 5, some 17), (.lamp 5, some 39), (.oversize 5, some 18)]
    halted.takes (req 12) 12 = true ∧ halted.station.mode = .halted
      ∧ inSetup.takes (req 12) 12 = true ∧ inSetup.station.mode = .setup ∧ (inSetup.pass 2).defined = true
      ∧ 30000 ≤ 30000 ∧ 5 ≤ 5 ∧ 600 ≤ 600 ∧ 1 ≤ 1 ∧ 7 ≤ 7
      ∧ (∀ i : LineIdx, (some 39 : Option LineIdx) = some i → i.val < 40)
      ∧ (∃ o : TipIdx, o ≠ 6 ∧ (inSetup.tip o).defined = true ∧ g.isSome = true
        ∧ (inSetup.tip o).grizzly = g)
      ∧ (∀ o : TipIdx, o ≠ 5 → (inSetup.tip o).defined = true → g.isSome = true → (inSetup.tip o).grizzly ≠ g)
      ∧ (inSetup.pass 3).defined = false
      ∧ inSetup.lineConflict roles = false ∧ inSetup.lineConflict [(.call 5, some 1)] = true
      ∧ inSetup.lineConflict [(.call 5, some 16), (.tipSensor 5, some 16)] = true
      ∧ (plant.takes (req 12) 12 = true ∧ plant.station.mode = .run ∧ (plant.pass 2).state ≠ .outOfService)
      ∧ 5 < 6 ∧ 30000 < 30001 ∧ 4 < 5 ∧ 600 < 601 ∧ 0 < 1 ∧ 7 < 8
      ∧ (some 4 : Option Nat).any (fun i => decide (3 < i)) = true
      ∧ (some 48 : Option Nat).any (fun i => decide (47 < i)) = true := by decide

theorem witness_DefineTipTreatsTheWorkingState_in_run :
    let serving := withPass fun q => { q with state := .outOfService }
    let g : Option StationIdx := some 1
    let roles : Roles :=
      [(.call 5, some 16), (.tipSensor 5, some 17), (.lamp 5, some 39), (.oversize 5, some 18)]
    serving.takes (req 12) 12 = true ∧ serving.station.mode = .run
      ∧ (serving.pass 2).state = .outOfService ∧ (serving.pass (serving.tip 5).pass).state = .outOfService
      ∧ (serving.pass 2).defined = true ∧ 9000 ≤ (serving.pass 2).height
      ∧ (∀ o : TipIdx, o ≠ 5 → (serving.tip o).defined = true → g.isSome = true → (serving.tip o).grizzly ≠ g)
      ∧ (∀ k, (serving.bst k).defined = true → (serving.bst k).tip = 5 → g = some k)
      ∧ (∀ k, g = some k → (serving.bst k).defined = true → (serving.bst k).tip = 5)
      ∧ (serving.pass 2).height < 9001
      ∧ serving.lineConflict roles = false ∧ serving.lineConflict [(.call 5, some 1)] = true := by decide

theorem witness_CallsJoinAndLeaveTheList :
    plant.takes (req 1) 1 = true ∧ (plant.tip 5).defined = true ∧ (plant.tip 5).state = .idle
      ∧ (waiting.takes (req 1) 1 = true ∧ (waiting.tip 5).defined = true ∧ (waiting.tip 5).state = .waiting)
      ∧ (granted.takes (req 1) 1 = true ∧ (granted.tip 5).defined = true ∧ (granted.tip 5).state = .granted)
      ∧ (plant.tip 15).defined = false ∧ (due 0 true plant).edgeDue 0 (.call 5) true = true
      ∧ (due 0 false waiting).edgeDue 0 (.call 5) false = true := by decide

/-- Two calls, of which the second does not fit: 6210 + 180 + 3610 is the limit, and 1 more is above it. -/
theorem witness_ArbiterGrantsTheBestEligibleCalls :
    let s := (waiting.modTip 6 fun _ => { tipOn 2 3611 2 with state := .waiting }).modPass 2 fun q =>
      { q with waiting := [5, 6] }
    let t := s.runArbiter 2
    (s.pass 2).waiting.Nodup ∧ (t.pass 2).waiting ≠ (s.pass 2).waiting ∧ t.chooseCall 2 = some 6
      ∧ s.chooseCall 2 = some 5 ∧ (0 : PassIdx) ≠ 2 ∧ s.eligible 6 = true
      ∧ (s.pass 2).e + (s.pass 2).reserved + (s.tip 5).load ≤ (s.pass 2).tipLimit
      ∧ (t.pass 2).tipLimit < (t.pass 2).e + (t.pass 2).reserved + (t.tip 6).load
      ∧ plant.chooseCall 2 = none := by decide

theorem witness_GrantsLapseAndTipsCredit :
    (granted.inReset = false ∧ (granted.tip 5).state = .granted ∧ (granted.tip 5).timer.isSome = true)
      ∧ (plant.inReset = false ∧ (plant.tip 5).state ≠ .granted)
      ∧ ((due 1 true granted).edgeDue 1 (.tipSensor 5) true = true
        ∧ ((due 1 true granted).tip 5).defined = true ∧ ((due 1 true granted).tip 5).state = .granted)
      ∧ ((due 1 true plant).edgeDue 1 (.tipSensor 5) true = true
        ∧ ((due 1 true plant).tip 5).defined = true ∧ ((due 1 true plant).tip 5).state ≠ .granted)
      ∧ (due 1 false plant).edgeDue 1 (.tipSensor 5) false = true := by decide

theorem witness_DefineChuteTreatsTheWorkingState :
    let serving := withPass fun q => { q with state := .outOfService }
    let roles : Roles := [(.openValve 3, some 16), (.closeValve 3, some 39), (.openLimit 3, some 17),
      (.closedLimit 3, some 47), (.loadCall 3, some 18)]
    halted.takes (req 11) 11 = true ∧ halted.station.mode = .halted
      ∧ ((inMode .setup holding).takes (req 11) 11 = true ∧ ((inMode .setup holding).chute 3).defined = true
        ∧ ((inMode .setup holding).chute 3).state ≠ .closed ∧ (inMode .setup holding).station.mode = .setup)
      ∧ (inSetup.takes (req 11) 11 = true ∧ inSetup.station.mode = .setup
        ∧ (inSetup.chute 3).state = .closed ∧ 30000 ≤ 30000 ∧ 5 ≤ 5 ∧ 600 ≤ 600
        ∧ (∀ j : LineIdx, (some 16 : Option LineIdx) = some j ∨ (some 39 : Option LineIdx) = some j → j.val < 40)
        ∧ (inSetup.pass 2).defined = true ∧ inSetup.lineConflict roles = false)
      ∧ (serving.takes (req 11) 11 = true ∧ serving.station.mode = .run
        ∧ (serving.pass 2).state = .outOfService
        ∧ (serving.pass (serving.chute 3).pass).state = .outOfService ∧ 9000 ≤ (serving.pass 2).height
        ∧ (serving.chute 3).state = .closed ∧ (serving.pass 2).defined = true
        ∧ (serving.pass 2).height < 9001
        ∧ serving.lineConflict roles = false ∧ serving.lineConflict [(.openValve 3, some 0)] = true)
      ∧ (plant.takes (req 11) 11 = true ∧ plant.station.mode = .run ∧ (plant.pass 2).state ≠ .outOfService)
      ∧ (inSetup.pass 3).defined = false ∧ inSetup.lineConflict [(.openValve 3, some 0)] = true
      ∧ 5 < 6 ∧ 30000 < 30001 ∧ 4 < 5 ∧ 600 < 601
      ∧ (some 40 : Option Nat).any (fun i => decide (39 < i)) = true := by decide

/-- E is at the cushion and the volume, and 1 below them. -/
theorem witness_StartTryMakesItsEightTests :
    let called (n e : Nat) : State := (withChute fun c => { c with callPending := true, count := n }).modPass 2
      fun q => { q with e := e }
    let ready (s : State) : Prop := (s.chute 3).callPending = true ∧ (s.chute 3).defined = true
      ∧ (s.chute 3).state = .closed ∧ s.level (.closedLimit 3) = true ∧ (s.chute 3).held = false
      ∧ (s.chute 3).faultHold = false ∧ (s.chute 3).proofHold = false ∧ s.station.mode = .run
      ∧ (s.pass 2).state = .running ∧ ∀ e, s.coversChute e 3 = false
    (plant.chute 3).callPending = false
      ∧ (ready (called 0 1060) ∧ ((called 0 1060).chute 3).count = 0)
      ∧ (ready (called 1 1059) ∧ ((called 1 1059).pass 2).e < 1000 + ((called 1 1059).chute 3).volume)
      ∧ (ready (called 1 1060) ∧ 1000 + ((called 1 1060).chute 3).volume ≤ ((called 1 1060).pass 2).e) := by
  decide

theorem witness_OrderHoldAndFreeSetTheChutes :
    let dueOne := withChute fun c => { c with cycles := 100 }
    let near := withChute fun c => { c with cycles := 99 }
    plant.takes (req 2) 2 = true ∧ (plant.chute 0).defined = false
      ∧ (dueOne.takes (req 2) 2 = true ∧ (dueOne.chute 3).defined = true ∧ (dueOne.chute 3).interval ≠ 0
        ∧ (dueOne.chute 3).interval ≤ (dueOne.chute 3).cycles)
      ∧ (near.takes (req 2) 2 = true ∧ (near.chute 3).defined = true
        ∧ (near.chute 3).cycles < (near.chute 3).interval)
      ∧ plant.takes (req 1) 1 = true := by decide

theorem witness_ChuteTimersEndDrawsStrokesAndNudges :
    let stroke (state : CycleState) : State := withChute fun c =>
      { c with state := state, strokeTimer := some 0 }
    let nudging := withChute fun c => { c with state := .nudging, nudgeTimer := some 0 }
    let unseated := nudging.modLine 7 fun l => { l with debounced := false }
    let stale := withChute fun c => { c with staleExpiry := true }
    (holding.inReset = false ∧ (holding.chute 3).state = .holding ∧ (holding.chute 3).holdTimer.isSome = true)
      ∧ (plant.inReset = false ∧ (plant.chute 3).state ≠ .holding ∧ (plant.chute 3).strokeTimer = none
        ∧ (plant.chute 3).state ≠ .nudging)
      ∧ (((stroke .opening).chute 3).strokeTimer.isSome = true ∧ ((stroke .opening).chute 3).state = .opening)
      ∧ (((stroke .closing).chute 3).strokeTimer.isSome = true ∧ ((stroke .closing).chute 3).state = .closing)
      ∧ (((stroke .reclosing).chute 3).strokeTimer.isSome = true
        ∧ ((stroke .reclosing).chute 3).state = .reclosing)
      ∧ ((nudging.chute 3).state = .nudging ∧ (nudging.chute 3).nudgeTimer.isSome = true
        ∧ nudging.level (.closedLimit 3) = true)
      ∧ unseated.level (.closedLimit 3) = false
      ∧ (stale.inReset = false ∧ (stale.chute 3).staleExpiry = true ∧ (plant.chute 3).staleExpiry = false) := by
  decide

theorem witness_ChuteProofsStartAndAreAccepted :
    let nudging := withChute fun c => { c with state := .nudging, nudgeTimer := some 5 }
    let proved := withChute fun c => { c with proofHold := true, lastProof := .pass }
    let covered := withEntry fun _ => { someEntry .equipment .pending with maskChutes := 0x08 }
    plant.takes (req 1) 1 = true ∧ (plant.chute 0).defined = false
      ∧ (halted.takes (req 1) 1 = true ∧ (halted.chute 3).defined = true ∧ halted.station.mode ≠ .run)
      ∧ (nudging.takes (req 1) 1 = true ∧ (nudging.chute 3).defined = true ∧ nudging.station.mode = .run
        ∧ ¬ ((nudging.chute 3).state = .closed))
      ∧ (covered.takes (req 1) 1 = true ∧ (covered.chute 3).state = .closed
        ∧ covered.level (.closedLimit 3) = true ∧ (covered.chute 3).proofHold = false
        ∧ ∃ e, covered.coversChute e 3 = true)
      ∧ (hung.takes (req 1) 1 = true ∧ (hung.chute 3).state = .closed ∧ hung.level (.closedLimit 3) = true
        ∧ (∀ e, hung.coversChute e 3 = false)
        ∧ ¬ ((hung.pass 2).state = .running ∨ (hung.pass 2).state = .unknown))
      ∧ ((plant.chute 3).defined = true ∧ plant.station.mode = .run ∧ (plant.chute 3).state = .closed
        ∧ plant.level (.closedLimit 3) = true ∧ (plant.chute 3).proofHold = false
        ∧ (∀ e, plant.coversChute e 3 = false) ∧ (plant.pass 2).state = .running)
      ∧ plant.takes (req 2) 2 = true ∧ nudging.takes (req 2) 2 = true
      ∧ (proved.takes (req 2) 2 = true ∧ (proved.chute 3).state ≠ .nudging
        ∧ (proved.chute 3).state ≠ .reclosing ∧ (proved.chute 3).proofHold = true)
      ∧ (3 ≠ 2 ∧ 3 ≠ 6) := by decide

theorem witness_ChuteEdgesActByTheCycleState :
    let at' (state : CycleState) (i : LineIdx) (level : Bool) : State :=
      due i level (withChute fun c =>
        { c with state := state, pendingProof := if state = .reclosing then some .pass else none })
    (∀ state ∈ [CycleState.closed, .opening, .holding, .closing, .nudging, .reclosing],
        ((at' state 6 true).chute 3).defined = true ∧ ((at' state 6 true).chute 3).state = state
          ∧ (at' state 6 true).edgeDue 6 (.openLimit 3) true = true
          ∧ (at' state 6 false).edgeDue 6 (.openLimit 3) false = true
          ∧ (at' state 7 true).edgeDue 7 (.closedLimit 3) true = true
          ∧ (at' state 7 false).edgeDue 7 (.closedLimit 3) false = true)
      ∧ ((at' .reclosing 7 true).chute 3).pendingProof = some .pass
      ∧ (due 8 true plant).edgeDue 8 (.loadCall 3) true = true ∧ ((due 8 true plant).chute 3).callPending = false
      ∧ (due 8 false plant).edgeDue 8 (.loadCall 3) false = true
      ∧ ((due 8 true (withChute fun c => { c with callPending := true })).chute 3).callPending = true
      ∧ { stroking .closing with pending := [.strokeTimerExpiry 3] }.waitsNext (.strokeTimerExpiry 3) = true := by
  decide

theorem witness_AbortsCloseGatesAndDebitOnce :
    let which : BitVec 8 := 0x08
    let of' (state : CycleState) : State := withChute fun c => { c with state := state }
    let comes (s : State) : Bool := (s.lineOf (.closedLimit 3)).any fun i =>
      !(s.line i).raw && (s.line i).timer.isSome && s.waitsNext (.debounceExpiry i)
    (lifting.level (.closedLimit 3) = true ∧ comes { lifting with pending := [.debounceExpiry 0, .debounceExpiry 7] }
        ∧ comes { lifting with pending := [.ageTick, .debounceExpiry 7] } = false ∧ comes lifting = false)
      ∧ which.getLsbD 3 = true ∧ which.getLsbD 0 = false ∧ ((of' .opening).chute 3).state = .opening
      ∧ ((of' .holding).chute 3).state = .holding ∧ ((of' .nudging).chute 3).state = .nudging
      ∧ (of' .nudging).level (.closedLimit 3) = true
      ∧ ((of' .nudging).modLine 7 fun l => { l with debounced := false }).level (.closedLimit 3) = false
      ∧ (hung.pass 2).state ≠ .running
      ∧ ((of' .holding).pass 2).state = .running ∧ ((of' .holding).pass 2).defined = true
      ∧ ((of' .holding).pass 2).known = true ∧ ((of' .holding).pass 2).d ≤ 16777215 := by decide

theorem witness_TheChoiceTakesTheHighestStartableJob :
    let j : Job := ⟨1, 1, .link, 0⟩
    let listed := withBreaker fun b => { b with jobs := [j, ⟨2, 1, .link, 1⟩] }
    listed.pickJob = some j ∧ listed.breaker.state = .parked ∧ listed.startable j = true
      ∧ travelling.breaker.state ≠ .parked ∧ plant.pickJob = none := by decide

theorem witness_JobsArriveMergeAndWait :
    plant.takes (req 2) 2 = true ∧ (plant.bst 1).defined = true ∧ 1 ≠ 0 ∧ (plant.bst 3).defined = false
      ∧ plant.takes (req 1) 1 = true
      ∧ ((due 3 true plant).edgeDue 3 (.oversize 5) true = true ∧ ((due 3 true plant).tip 5).defined = true
        ∧ ((due 3 true plant).tip 5).grizzly = some 1)
      ∧ ((due 3 false plant).edgeDue 3 (.oversize 5) false = true ∧ ((due 3 false plant).tip 5).defined = true
        ∧ ((due 3 false plant).tip 5).grizzly = some 1) := by decide

theorem witness_BreakerEdgesFollowTheHandshake :
    (due 12 true travelling).edgeDue 12 .inPosition true = true
      ∧ ((due 13 true breaking).edgeDue 13 .grizzlyClear true = true
        ∧ (due 13 true breaking).breaker.state = .breaking
        ∧ (due 13 true breaking).breaker.current = some ⟨1, 5, .oversize, 1⟩)
      ∧ ((due 13 true travelling).edgeDue 13 .grizzlyClear true = true
        ∧ (due 13 true travelling).breaker.state ≠ .breaking)
      ∧ (due 14 true returning).edgeDue 14 .parked true = true
      ∧ (due 14 false plant).edgeDue 14 .parked false = true
      ∧ (due 12 false travelling).edgeDue 12 .inPosition false = true
      ∧ (due 13 false travelling).edgeDue 13 .grizzlyClear false = true := by decide

theorem witness_BreakerTimersAbandonTheirJob :
    (travelling.inReset = false ∧ travelling.breaker.state = .travelling
        ∧ travelling.breaker.travelTimer.isSome = true
        ∧ travelling.breaker.current = some ⟨1, 5, .oversize, 1⟩)
      ∧ (breaking.inReset = false ∧ breaking.breaker.state = .breaking
        ∧ breaking.breaker.breakTimer.isSome = true ∧ breaking.breaker.current = some ⟨1, 5, .oversize, 1⟩)
      ∧ (returning.inReset = false ∧ returning.breaker.state = .returning
        ∧ returning.breaker.returnTimer.isSome = true)
      ∧ (plant.inReset = false ∧ plant.breaker.state ≠ .travelling ∧ plant.breaker.state ≠ .breaking
        ∧ plant.breaker.state ≠ .returning) := by decide

theorem witness_DefineBreakerAndStationStoreAndBind :
    let barred := withEntry fun _ => { someEntry .equipment .inForce with maskBreaker := true }
    let roles : Roles := [(.go, some 39), (.code0, some 16), (.code1, some 17), (.inPosition, some 47),
      (.grizzlyClear, some 18), (.parked, some 19)]
    (inSetup.takes (req 3) 3 = true ∧ inSetup.station.mode = .setup
        ∧ (∀ j ∈ inSetup.breaker.jobs, j.station ≠ 1) ∧ 3 ≤ 3 ∧ (inSetup.tip 5).defined = true
        ∧ (∀ o, o ≠ 1 → (inSetup.bst o).defined = true → (inSetup.bst o).tip ≠ 5))
      ∧ (barred.takes (req 3) 3 = true ∧ barred.station.mode = .run
        ∧ (∃ e, barred.carriesBreaker e = true ∧ (barred.entry e).state = .inForce)
        ∧ (∀ j ∈ barred.breaker.jobs, j.station ≠ 1) ∧ (barred.tip 5).defined = true
        ∧ (∀ o, o ≠ 1 → (barred.bst o).defined = true → (barred.bst o).tip ≠ 5)
        ∧ (barred.tip 5).grizzly = some 1)
      ∧ (barred.takes (req 6) 6 = true
        ∧ (∀ i : LineIdx, (some 39 : Option LineIdx) = some i ∨ (some 16 : Option LineIdx) = some i
          ∨ (some 17 : Option LineIdx) = some i → i.val < 40)
        ∧ (∀ r ∈ roles, r.2.isSome = true) ∧ barred.lineConflict roles = false)
      ∧ (inSetup.takes (req 1) 1 = true ∧ inSetup.station.mode = .setup
        ∧ (∀ i : LineIdx, (some 40 : Option LineIdx) = some i → 40 ≤ i.val)
        ∧ inSetup.lineConflict [(.estop, some 40)] = false) := by decide

theorem witness_DefineBreakerAndStationStoreAndBind_refusals :
    let listed := inSetup.modBreaker fun b => { b with jobs := [⟨1, 5, .link, 0⟩] }
    (plant.takes (req 3) 3 = true ∧ plant.takes (req 6) 6 = true
        ∧ ¬ (plant.station.mode = .setup ∨ (plant.station.mode = .run
          ∧ ∃ e, plant.carriesBreaker e = true ∧ (plant.entry e).state = .inForce)))
      ∧ (listed.takes (req 3) 3 = true ∧ listed.station.mode = .setup
        ∧ ∃ j ∈ listed.breaker.jobs, j.station = 1)
      ∧ (plant.takes (req 1) 1 = true ∧ plant.station.mode ≠ .setup)
      ∧ (inSetup.takes (req 1) 1 = true ∧ inSetup.station.mode = .setup
        ∧ (inSetup.modLine 41 fun l => { l with binding := some .parked }).lineConflict [(.estop, some 41)] = true
        ∧ (some 39 : Option Nat).any (fun i => decide (i < 40 ∨ 47 < i)) = true
        ∧ (some 48 : Option Nat).any (fun i => decide (i < 40 ∨ 47 < i)) = true)
      ∧ (15 < 16 ∧ 3 < 4 ∧ (inSetup.tip 6).defined = false
        ∧ (∃ o, o ≠ 2 ∧ (inSetup.bst o).defined = true ∧ (inSetup.bst o).tip = 5))
      ∧ (inSetup.takes (req 6) 6 = true ∧ (some 40 : Option Nat).any (fun i => decide (39 < i)) = true
        ∧ (some 48 : Option Nat).any (fun i => decide (47 < i)) = true
        ∧ inSetup.lineConflict [(.go, some 0)] = true) := by decide

theorem witness_DefineBreakerAndStationStoreAndBind_inRun :
    let away := (withEntry fun _ => { someEntry .equipment .inForce with maskBreaker := true }).modTip 5
      fun x => { x with grizzly := none }
    (away.takes (req 3) 3 = true ∧ away.takes (req 6) 6 = true ∧ away.station.mode = .run)
      ∧ (∃ e, away.carriesBreaker e = true ∧ (away.entry e).state = .inForce)
      ∧ (∀ j ∈ away.breaker.jobs, j.station ≠ 1) ∧ (away.tip 5).defined = true
      ∧ (∀ o, o ≠ 1 → (away.bst o).defined = true → (away.bst o).tip ≠ 5) ∧ (away.tip 5).grizzly ≠ some 1
      ∧ (∃ r ∈ [(LineFn.go, (none : Option LineIdx))], r.2 = none) := by decide

theorem witness_PostClearanceStillsTheCoveredPlant :
    plant.takes (req 12) 12 = true ∧ (plant.entry 0).inUse = false
      ∧ (∀ o : EntryIdx, o < 0 → (plant.entry o).inUse = true) ∧ 1 ≤ 1 ∧ 65534 ≤ 65534
      ∧ (ClearanceKind.entry ≠ .equipment → 2 = (2 : PassIdx).val ∧ (plant.pass 2).defined = true)
      ∧ (ClearanceKind.entry = .entry → 0 ≤ 9000 ∧ 9000 ≤ (plant.pass 2).height)
      ∧ (ClearanceKind.equipment ≠ .equipment → 255 = (0 : PassIdx).val ∧ (plant.pass 0).defined = true)
      ∧ (ClearanceKind.equipment = .entry → 1 ≤ 0)
      ∧ (let full := plant.mapEntries fun _ _ => someEntry .service .late
        full.takes (req 12) 12 = true ∧ ¬ ∃ o, (full.entry o).inUse = false)
      ∧ (∃ o, (plant.entry o).inUse = false) ∧ 2 < 3 ∧ 65534 < 65535 ∧ 5 < 6 ∧ 1000 < 1001
      ∧ (plant.pass 3).defined = false ∧ (plant.pass 2).height < 9001 := by decide

theorem witness_HoldersJoinLeaveAndCancel :
    let with' (h : List Nat) : State := withEntry fun _ => { someEntry .service .late with holders := h }
    (plant.takes (req 3) 3 = true ∧ (plant.entry 1).inUse = false)
      ∧ ((with' [101]).takes (req 3) 3 = true ∧ ((with' [101]).entry 1).inUse = true ∧ 65534 < 65535)
      ∧ (101 ∈ ((with' [101]).entry 1).holders ∧ ((with' [101]).entry 1).holders = [101])
      ∧ (65534 ∉ ((with' [101, 2, 3, 4]).entry 1).holders ∧ 4 ≤ ((with' [101, 2, 3, 4]).entry 1).holders.length)
      ∧ (1 ∉ ((with' [101, 2, 3]).entry 1).holders ∧ ((with' [101, 2, 3]).entry 1).holders.length < 4)
      ∧ (101 ∈ ((with' [101, 2]).entry 1).holders ∧ ((with' [101, 2]).entry 1).holders ≠ [101])
      ∧ (plant.takes (req 1) 1 = true)
      ∧ ((serviced .inForce).takes (req 1) 1 = true ∧ ((serviced .inForce).entry 1).inUse = true
        ∧ ((serviced .inForce).entry 1).state = .inForce)
      ∧ ((serviced .late).takes (req 1) 1 = true ∧ ((serviced .late).entry 1).inUse = true
        ∧ ((serviced .late).entry 1).state ≠ .inForce) := by decide

theorem witness_RetirementFreesAndTriggers : ((serviced .inForce).entry 1).inUse = true := by decide

theorem witness_SettlingTestsMakeEntriesInForce :
    (∀ t, (granted.tip t).state = .granted → (granted.tip t).defined = true)
      ∧ ((serviced .pending).inReset = false ∧ ((serviced .pending).entry 1).inUse = true
        ∧ ((serviced .pending).entry 1).state = .pending
        ∧ ((serviced .pending).entry 1).timer.isSome = true)
      ∧ (plant.inReset = false ∧ (plant.entry 0).inUse = false) := by decide

theorem witness_StartResumeAndSetupChangeTheMode :
    let unfit := inSetup.modPass 2 fun q => { q with height := 8999 }
    let unlit := inSetup.modLine 2 fun l => { l with binding := none }
    let ungated := inSetup.modLine 8 fun l => { l with binding := none }
    let astray := inSetup.modTip 5 fun x => { x with grizzly := none }
    let homeless := inSetup.modLine 14 fun l => { l with binding := none }
    let unsafeStation := inSetup.modLine 40 fun l => { l with binding := none }
    (unlit.geometryFault = some (1, 5) ∧ ungated.geometryFault = some (2, 3) ∧ astray.geometryFault = some (3, 1)
      ∧ homeless.geometryFault = some (4, 0) ∧ unsafeStation.geometryFault = some (7, 0)) ∧
    plant.takes (req 0) 0 = true ∧ plant.station.mode ≠ .setup ∧ plant.level .estop = false
      ∧ plant.station.mode = .run
      ∧ (unfit.takes (req 0) 0 = true ∧ unfit.station.mode = .setup ∧ unfit.geometryFault = some (0, 2))
      ∧ ((high 40 inSetup).takes (req 0) 0 = true ∧ (high 40 inSetup).station.mode = .setup
        ∧ (high 40 inSetup).geometryFault = none ∧ (high 40 inSetup).level .estop = true)
      ∧ (inSetup.takes (req 0) 0 = true ∧ inSetup.station.mode = .setup ∧ inSetup.geometryFault = none
        ∧ inSetup.level .estop = false ∧ inSetup.station.causes = ⟨false, false, false⟩)
      ∧ (halted.takes (req 0) 0 = true ∧ halted.level .estop = false ∧ halted.station.mode = .halted) := by
  decide

theorem witness_HaltsStopThePlant :
    (∀ s ∈ [plant, halted, inSetup], s.takes (req 0) 0 = true ∧ s.listening = true
        ∧ (due 40 true s).edgeDue 40 .estop true = true)
      ∧ plant.station.mode = .run ∧ halted.station.mode = .halted ∧ inSetup.station.mode = .setup
      ∧ (due 40 false plant).edgeDue 40 .estop false = true := by decide

theorem witness_TuningClampsAndStores :
    plant.takes (req 4) 4 = true ∧ (plant.tip 5).defined = true ∧ (plant.tip 6).defined = false
      ∧ plant.takes (req 8) 8 = true ∧ (plant.chute 3).defined = true ∧ (plant.chute 4).defined = false := by
  decide

theorem witness_DefinesBindAndReleaseLines :
    let roles : Roles := [(.call 5, some 16), (.tipSensor 5, some 1), (.lamp 5, some 39), (.oversize 5, none)]
    plant.lineConflict roles = false ∧ (roles.map Prod.fst).Nodup
      ∧ (∃ r ∈ roles, r.2 = some 39)
      ∧ ((∀ r ∈ roles, r.2 ≠ some 3) ∧ ∃ r ∈ roles, (plant.line 3).binding = some r.1)
      ∧ ((∀ r ∈ roles, r.2 ≠ some 4) ∧ ∀ r ∈ roles, (plant.line 4).binding ≠ some r.1) := by decide

theorem witness_LinesDriveDebounceAndRead :
    (inSetup.plantSafe = true ∧ inSetup.station.mode ≠ .run)
      ∧ (plant.lineOf (.lamp 5) = some 2 ∧ plant.lineOf (.lamp 6) = none)
      ∧ plant.takes (req 6) 6 = true ∧ 40 ≤ (40 : LineIdx).val
      ∧ ((2 : LineIdx).val < 40 ∧ (plant.line 2).binding = some (.lamp 5) ∧ (LineFn.lamp 5).isOutput = true)
      ∧ ((39 : LineIdx).val < 40 ∧ (plant.line 39).binding = none)
      ∧ ((0 : LineIdx).val < 40 ∧ (plant.line 0).binding = some (.call 5) ∧ (LineFn.call 5).isOutput = false)
      ∧ (plant.line 0).timer = none
      ∧ (((due 2 true plant).line 2).timer.isSome = true ∧ (due 2 true plant).inReset = false
        ∧ ((due 2 true plant).line 2).binding = some (.lamp 5))
      ∧ (((due 39 true plant).line 39).timer.isSome = true
        ∧ ((due 39 true plant).line 39).binding = none) := by decide

theorem witness_AcknowledgeClearsTheRaisedKinds :
    let faulty := withChute fun c => { c with faultHold := true, conds := conds [.strokeFault] }
    plant.takes (req 6) 6 = true ∧ faulty.takes (req 6) 6 = true
      ∧ (raised .strokeFault 0x2000 && raised .strokeFault (faulty.chute 3).conds) = true
      ∧ (raised .strokeFault 0x2000 && raised .strokeFault (plant.chute 3).conds) = false ∧ 7 < 8 := by decide

/-- A tip point calls: the state keeps every law before and after. -/
theorem witness_StepsKeepLinesAttnAndBindings :
    let s := { plant.endEvent with pending := [.callTip (req 1) 5] }
    s.linesSettled = true ∧ s.attnJudged = true ∧ s.bindingsLawful = true ∧ ∃ t, step s = .next t :=
  ⟨by decide, by decide, by decide, _, rfl⟩

theorem witness_StepsKeepTheEstimates :
    let s := { plant with pending := [.setFill (req 4) 2 12465] }
    s.estimatesLawful = true ∧ ∃ t, step s = .next t :=
  ⟨by decide, _, rfl⟩

theorem witness_StepsKeepThePlantSafe :
    let s := { travelling with pending := [.stop (req 0)], scanner := ⟨6, true⟩ }
    s.plantSafe = true ∧ s.hungQuiet = true ∧ s.chutesLawful = true ∧ s.breaker.timed = true
      ∧ s.levelsLawful = true ∧ s.jobsLawful = true ∧ s.scannerLawful = true
      ∧ s.expiriesLawful = true ∧ ∃ t, step s = .next t :=
  ⟨by decide, by decide, by decide, by decide, by decide, by decide, by decide, by decide, _, rfl⟩

theorem witness_StepsKeepCallsGrantsAndClearances :
    let s := { granted.endEvent with pending := [.postClearance (req 12) 1 2 0 0 0 0 false 101] }
    s.listsLawful = true ∧ s.entriesLawful = true ∧ s.serviceLawful = true ∧ s.grantsLawful = true
      ∧ s.plantSafe = true ∧ s.jobsLawful = true ∧ s.stationsLawful = true ∧ s.coverageLawful = true ∧ s.linesSettled = true
      ∧ s.noneSettled = true
      ∧ ∃ t, step s = .next t :=
  ⟨by decide, by decide, by decide, by decide, by decide, by decide, by decide, by decide, by decide, by decide, _, rfl⟩

end Sys2Proof.Tests
end

section
/-! The volume at height of R9: the rules of the sum over the segments, then the obligation on `volumeAt`. -/

namespace Sys2Proof.Machine

@[simp] theorem profileHeight_nil : profileHeight [] = 0 := rfl

@[simp] theorem profileHeight_cons (g : Segment) (gs : List Segment) :
    profileHeight (g :: gs) = g.height + profileHeight gs := by
  simp [profileHeight]

@[simp] theorem volumeSum_nil (base h : Nat) : volumeSum [] base h = 0 := rfl

/-- The three cases of R9 for one segment are one product: the area times the part of its height below `h`. -/
@[simp] theorem volumeSum_cons (g : Segment) (gs : List Segment) (base h : Nat) :
    volumeSum (g :: gs) base h
      = g.area * min g.height (h - base) + volumeSum gs (base + g.height) h := by
  rw [volumeSum]
  congr 1
  split
  case isTrue hbelow => rw [min_eq_left (by omega)]
  case isFalse hbelow =>
    split
    case isTrue hholds => rw [min_eq_right (by omega)]
    case isFalse habove => simp [Nat.sub_eq_zero_of_le (not_lt.mp habove)]

theorem volumeSum_append (xs ys : List Segment) (base h : Nat) :
    volumeSum (xs ++ ys) base h
      = volumeSum xs base h + volumeSum ys (base + profileHeight xs) h := by
  induction xs generalizing base with
  | nil => simp
  | cons x xs ih => simp [ih, Nat.add_assoc]

theorem volumeSum_eq_zero_of_le_base (gs : List Segment) {base h : Nat} (hle : h ≤ base) :
    volumeSum gs base h = 0 := by
  induction gs generalizing base with
  | nil => rfl
  | cons g gs ih => simp [ih (Nat.le_add_right_of_le hle), Nat.sub_eq_zero_of_le hle]

theorem volumeSum_eq_of_top_le (gs : List Segment) {base h : Nat} (htop : base + profileHeight gs ≤ h) :
    volumeSum gs base h = (gs.map fun g => g.area * g.height).sum := by
  induction gs generalizing base with
  | nil => rfl
  | cons g gs ih =>
    rw [profileHeight_cons] at htop
    have hwhole : min g.height (h - base) = g.height := min_eq_left (by omega)
    simp [hwhole, ih (base := base + g.height) (by omega)]

theorem volumeSum_mono (gs : List Segment) (base : Nat) {h h' : Nat} (hle : h ≤ h') :
    volumeSum gs base h ≤ volumeSum gs base h' := by
  induction gs generalizing base with
  | nil => rfl
  | cons g gs ih =>
    have hpart : min g.height (h - base) ≤ min g.height (h' - base) := by omega
    simpa using Nat.add_le_add (Nat.mul_le_mul_left g.area hpart) (ih (base + g.height))

/-- R9's walk: the segments below are whole, `g` holds the height, and those above add nothing. -/
theorem volumeSum_of_segment_holds (below above : List Segment) (g : Segment) {h : Nat}
    (hlow : profileHeight below ≤ h) (hhigh : h ≤ profileHeight below + g.height) :
    volumeSum (below ++ g :: above) 0 h
      = (below.map fun x => x.area * x.height).sum + g.area * (h - profileHeight below) := by
  have hbelow := volumeSum_eq_of_top_le below (base := 0) (h := h) (by omega)
  have habove := volumeSum_eq_zero_of_le_base above hhigh
  have hpart : min g.height (h - profileHeight below) = h - profileHeight below :=
    min_eq_right (by omega)
  rw [volumeSum_append, hbelow, Nat.zero_add, volumeSum_cons, hpart, habove, Nat.add_zero]

/-- Settles O17: each clause is a rule of the undivided sum, divided by 100 once. -/
theorem volumeAtHeightWalksTheProfile : Obligations.VolumeAtHeightWalksTheProfile := by
  intro below above g h h'
  refine ⟨fun hlow hhigh => ?walk, fun htop => ?full, ?empty, fun hle => ?mono⟩
  case walk => rw [volumeAt, volumeSum_of_segment_holds below above g hlow hhigh]
  case full => rw [volumeAt, capacityOf, volumeSum_eq_of_top_le below (by omega)]
  case empty => rw [volumeAt, volumeSum_eq_zero_of_le_base below le_rfl]
  case mono => exact Nat.div_le_div_right (volumeSum_mono below 0 hle)

end Sys2Proof.Machine
end

section
/-! What a taken request comes to by its owner's reply, and a debounce expiry that is due by the edge it brings. -/

namespace Sys2Proof.Machine

/-- A taken request that its owner refuses is answered with the status alone. -/
theorem request_of_reply_no {rq : Request} {n : Nat} {s : State} {owner : State → Reply} {status : Status}
    (h : s.takes rq n = true) (hr : owner s = .no status) :
    request rq n owner s = s.answered rq status [] := by
  rw [request_of_takes h, hr, replied_no]

/-- A taken request that its owner accepts ends its event, and is answered from the state the event leaves. -/
theorem request_of_reply_take {rq : Request} {n : Nat} {s : State} {owner : State → Reply} {ev : Event}
    {body : State → List Byte} (h : s.takes rq n = true) (hr : owner s = .take ev body) :
    request rq n owner s = ev.finish.answered rq .accepted (body ev.finish) := by
  rw [request_of_takes h, hr, replied_take]

@[simp] theorem State.debounced_tip (s : State) (i : LineIdx) (t : TipIdx) :
    (s.debounced i).tip t = s.tip t := State.modLine_tip ..

/-- A debounce expiry that is due brings its edge, at the state whose debounced level has taken the raw level. -/
theorem exec_debounceExpiry_of_edgeDue {s : State} {i : LineIdx} {f : LineFn} {rising : Bool}
    (h : s.edgeDue i f rising = true) :
    exec (.debounceExpiry i) s = .next ((Event.of (s.debounced i)).deliver f rising).finish := by
  simp only [State.edgeDue, Bool.and_eq_true, Bool.not_eq_true', beq_iff_eq, decide_eq_true_eq] at h
  obtain ⟨⟨⟨⟨hreset, htimer⟩, hbinding⟩, hraw⟩, hdebounced⟩ := h
  have hdiffers : (s.line i).raw ≠ (s.line i).debounced := by simp [hraw, hdebounced]
  refine congrArg Host.Outcome.next (occur_some hreset ?_)
  rw [if_pos htimer, if_neg hdiffers, hbinding, ← hraw]
  rfl

end Sys2Proof.Machine
end

section
/-! Calls and withdrawals (R51 to R54): what the two requests and the call line's edges make of each tip state. -/

namespace Sys2Proof.Machine

/-! ## The requests -/

theorem callTipReply_of_undefined {s : State} {t : TipIdx} (hd : (s.tip t).defined = false) :
    s.callTipReply t = .no .noRecord := by
  simp [State.callTipReply, withIndex_val, hd]

theorem callTipReply_of_idle {s : State} {t : TipIdx} (hd : (s.tip t).defined = true)
    (hidle : (s.tip t).state = .idle) :
    s.callTipReply t
      = .take ((Event.of s).placeCall t .link) fun u => bigEndian 1 (u.tip t).state.code := by
  simp [State.callTipReply, withIndex_val, hd, hidle]

theorem callTipReply_of_not_idle {s : State} {t : TipIdx} (hd : (s.tip t).defined = true)
    (hidle : (s.tip t).state ≠ .idle) :
    s.callTipReply t = .take (Event.of s) fun u => bigEndian 1 (u.tip t).state.code := by
  simp [State.callTipReply, withIndex_val, hd, hidle]

theorem withdrawReply_of_undefined {s : State} {t : TipIdx} (hd : (s.tip t).defined = false) :
    s.withdrawReply t = .no .noRecord := by
  simp [State.withdrawReply, withIndex_val, hd]

theorem withdrawReply_of_waiting {s : State} {t : TipIdx} (hd : (s.tip t).defined = true)
    (hwaiting : (s.tip t).state = .waiting) :
    s.withdrawReply t = .take ((Event.of s).update (State.withdrawCall t))
      fun u => bigEndian 1 (u.tip t).state.code := by
  simp [State.withdrawReply, withIndex_val, hd, hwaiting]

theorem withdrawReply_of_not_waiting {s : State} {t : TipIdx} (hd : (s.tip t).defined = true)
    (hwaiting : (s.tip t).state ≠ .waiting) :
    s.withdrawReply t = .take (Event.of s) fun u => bigEndian 1 (u.tip t).state.code := by
  simp [State.withdrawReply, withIndex_val, hd, hwaiting]

/-! ## The edges of a call line -/

/-- A rising call edge places a FIELD call at an IDLE tip point alone (R51). -/
theorem Event.callEdge_rising (t : TipIdx) (ev : Event) :
    ev.callEdge t true = if (ev.st.tip t).defined = true ∧ (ev.st.tip t).state = .idle
      then ev.placeCall t .field else ev := by
  simp [Event.callEdge]

/-- A falling call edge withdraws a waiting FIELD call alone (R53). -/
theorem Event.callEdge_falling (t : TipIdx) (ev : Event) :
    ev.callEdge t false = if (ev.st.tip t).defined = true ∧ (ev.st.tip t).state = .waiting
        ∧ (ev.st.tip t).source = .field
      then ev.update (State.withdrawCall t) else ev := by
  simp [Event.callEdge]

/-! ## A withdrawn tip point -/

@[simp] theorem withdrawCall_state (t : TipIdx) (s : State) :
    ((s.withdrawCall t).tip t).state = .idle := by
  simp [State.withdrawCall]

/-- Settles O30: the requests by the tip point's definition and state, then the two edges of its call line. -/
theorem callsJoinAndLeaveTheList : Obligations.CallsJoinAndLeaveTheList := by
  intro rq t i s x joined left
  refine ⟨fun htakes => ⟨fun hd hidle => ?callIdle, fun hd hidle => ?callOther,
    fun hd hwaiting => ?withdrawWaiting, fun hd hwaiting => ?withdrawOther,
    fun hd => ⟨?callUndefined, ?withdrawUndefined⟩⟩, fun hdue => ?rises, fun hdue => ?falls⟩
  case callIdle =>
    exact congrArg _ (request_of_reply_take htakes (callTipReply_of_idle hd hidle))
  case callOther =>
    refine congrArg _ ((request_of_reply_take htakes (callTipReply_of_not_idle hd hidle)).trans ?_)
    rw [Event.finish_of, State.endEvent_tip]
  case withdrawWaiting =>
    refine congrArg _ ((request_of_reply_take htakes (withdrawReply_of_waiting hd hwaiting)).trans ?_)
    rw [Event.finish_update, State.endEvent_tip, withdrawCall_state]
    rfl
  case withdrawOther =>
    refine congrArg _ ((request_of_reply_take htakes (withdrawReply_of_not_waiting hd hwaiting)).trans ?_)
    rw [Event.finish_of, State.endEvent_tip]
  case callUndefined =>
    exact congrArg _ (request_of_reply_no htakes (callTipReply_of_undefined hd))
  case withdrawUndefined =>
    exact congrArg _ (request_of_reply_no htakes (withdrawReply_of_undefined hd))
  case rises =>
    rw [exec_debounceExpiry_of_edgeDue hdue, Event.deliver, Event.callEdge_rising, apply_ite Event.finish,
      Event.finish_of, Event.of_st, State.debounced_tip]
    rfl
  case falls =>
    rw [exec_debounceExpiry_of_edgeDue hdue, Event.deliver, Event.callEdge_falling, apply_ite Event.finish,
      Event.finish_of, Event.finish_update, Event.of_st, State.debounced_tip]
    rfl

end Sys2Proof.Machine
end

section
/-! The tuning requests and the attention mask (R50, R77, R158, R182): what each stores and answers. -/

namespace Sys2Proof.Machine

/-- A clamp to a range is its two bounds taken one after the other. -/
theorem clamp_eq_min_max {low high : Nat} (hle : low ≤ high) (v : Nat) :
    clamp low high v = min (max v low) high := by
  unfold clamp
  split
  case isTrue hlow => omega
  case isFalse hlow => split <;> omega

theorem tuneTipReply_of_undefined {s : State} {t : TipIdx} (timeout level : Nat)
    (hd : (s.tip t).defined = false) : s.tuneTipReply t timeout level = .no .noRecord := by
  simp [State.tuneTipReply, withIndex_val, hd]

theorem tuneTipReply_of_defined {s : State} {t : TipIdx} (timeout level : Nat)
    (hd : (s.tip t).defined = true) :
    s.tuneTipReply t timeout level = .take ((Event.of s).update (State.modTip t fun y =>
        { y with timeout := clamp 100 6000 timeout, level := min level 7 }))
      fun u => bigEndian 2 (u.tip t).timeout ++ bigEndian 1 (u.tip t).level := by
  simp [State.tuneTipReply, withIndex_val, hd]

theorem tuneChuteReply_of_undefined {s : State} {c : ChuteIdx} (holdTime strokeTime nudgeTime interval : Nat)
    (hd : (s.chute c).defined = false) :
    s.tuneChuteReply c holdTime strokeTime nudgeTime interval = .no .noRecord := by
  simp [State.tuneChuteReply, withIndex_val, hd]

theorem tuneChuteReply_of_defined {s : State} {c : ChuteIdx} (holdTime strokeTime nudgeTime interval : Nat)
    (hd : (s.chute c).defined = true) :
    s.tuneChuteReply c holdTime strokeTime nudgeTime interval
      = .take ((Event.of s).update (State.modChute c (Chute.tune holdTime strokeTime nudgeTime interval)))
        fun u => bigEndian 2 (u.chute c).holdTime ++ bigEndian 2 (u.chute c).strokeTime
          ++ bigEndian 1 (u.chute c).nudgeTime ++ bigEndian 2 (u.chute c).interval := by
  simp [State.tuneChuteReply, withIndex_val, hd]

/-- PROOF_DUE is raised where the new interval makes a chute due that was not (R77). -/
theorem Chute.tune_eq (holdTime strokeTime nudgeTime interval : Nat) (y : Chute) :
    y.tune holdTime strokeTime nudgeTime interval = { y with
      holdTime := clamp 5 300 holdTime, strokeTime := clamp 10 600 strokeTime
      nudgeTime := clamp 2 20 nudgeTime, interval := min interval 65535
      conds := if ¬ (y.interval ≠ 0 ∧ y.interval ≤ y.cycles)
          ∧ (min interval 65535 ≠ 0 ∧ min interval 65535 ≤ y.cycles) then raise .proofDue y.conds
        else y.conds } := by
  have hdue : (!y.proofDue && decide (min interval 65535 ≠ 0 ∧ min interval 65535 ≤ y.cycles)) = true
      ↔ ¬ (y.interval ≠ 0 ∧ y.interval ≤ y.cycles)
        ∧ (min interval 65535 ≠ 0 ∧ min interval 65535 ≤ y.cycles) := by
    simp only [Chute.proofDue, Bool.and_eq_true, Bool.not_eq_true', decide_eq_true_eq,
      decide_eq_false_iff_not]
  simp only [Chute.tune]
  congr 1
  exact if_congr hdue rfl rfl

/-- Settles O52: each reply's event changes only stored values, so it ends with the pins and ATTN, and the answer
reads the stored values back. -/
theorem tuningClampsAndStores : Obligations.TuningClampsAndStores := by
  intro rq t c v1 v2 v3 v4 kinds s x into
  have hclamp {low high : Nat} (hle : low ≤ high) (v : Nat) : into low high v = clamp low high v :=
    (clamp_eq_min_max hle v).symm
  refine ⟨fun htakes => ⟨fun hd => ?tip, fun hd => ?tipUndefined, ?mask⟩,
    fun htakes => ⟨fun hd => ?chute, fun hd => ?chuteUndefined, ?station⟩⟩
  case tip =>
    refine congrArg _ ((request_of_reply_take htakes (tuneTipReply_of_defined v1 v2 hd)).trans ?_)
    rw [Event.finish_update, State.endEvent_tip, State.modTip_tip_self]
    simp (disch := decide) only [hclamp]
  case tipUndefined =>
    exact congrArg _ (request_of_reply_no htakes (tuneTipReply_of_undefined v1 v2 hd))
  case mask =>
    refine congrArg _ ((request_of_reply_take htakes rfl).trans ?_)
    rw [Event.finish_update, State.endEvent_station, State.modStation_station]
    rfl
  case chute =>
    refine congrArg _ ((request_of_reply_take htakes (tuneChuteReply_of_defined v1 v2 v3 v4 hd)).trans ?_)
    rw [Event.finish_update, State.endEvent_chute, State.modChute_chute_self]
    simp (disch := decide) only [hclamp, funext (Chute.tune_eq v1 v2 v3 v4)]
  case chuteUndefined =>
    exact congrArg _ (request_of_reply_no htakes (tuneChuteReply_of_undefined v1 v2 v3 v4 hd))
  case station =>
    refine congrArg _ ((request_of_reply_take htakes rfl).trans ?_)
    rw [Event.finish_update, State.endEvent_station, State.endEvent_breaker, State.tuneStation,
      State.modBreaker_station, State.modBreaker_breaker, State.modStation_station]
    simp (disch := decide) only [hclamp]

end Sys2Proof.Machine
end

section
/-! ORDER, HOLD and FREE (R96, R97): what start tries leave of a chute, so that the answers read back what the
requests stored, and the three requests' replies. -/

namespace Sys2Proof.Machine

/-! ## What start tries leave of a chute -/

/-- A reading `g` that the change of one chute leaves as it is reads the same at every chute. -/
theorem State.modChute_chute_congr {α : Type} {g : Chute → α} {f : Chute → Chute} (hf : ∀ x, g (f x) = g x)
    (c : ChuteIdx) (s : State) (d : ChuteIdx) : g ((s.modChute c f).chute d) = g (s.chute d) := by
  rw [State.modChute_chute]
  split
  case isTrue heq => rw [hf, heq]
  case isFalse => rfl

/-- A start try writes only what its two reports and the start of a cycle write (R82, R84). -/
theorem State.startTry_chute_congr {α : Type} {g : Chute → α} (hempty : ∀ x, g (Chute.reportEmpty x) = g x)
    (hcushion : ∀ x, g (Chute.reportCushion x) = g x) (hstart : ∀ x, g (Chute.startCycle x) = g x)
    (c : ChuteIdx) (s : State) (d : ChuteIdx) : g ((s.startTry c).chute d) = g (s.chute d) := by
  rcases s.startTry_cases c with h | ⟨-, -, -, ⟨-, h⟩ | ⟨-, -, h⟩ | ⟨-, -, h⟩⟩
  · rw [h]
  · rw [h, State.modChute_chute_congr hempty]
  · rw [h, State.modChute_chute_congr hcushion]
  · rw [h, State.modChute_chute_congr hstart]

/-- An event that triggers start tries alone makes them, then ends with the pins and ATTN. -/
theorem Event.finish_tries (s : State) (cs : List ChuteIdx) :
    Event.finish ⟨s, [], cs, false, []⟩ = (s.runTries cs).endEvent := by
  simp [Event.finish_eq]

theorem Event.finish_tries_chute_congr {α : Type} {g : Chute → α} (hempty : ∀ x, g (Chute.reportEmpty x) = g x)
    (hcushion : ∀ x, g (Chute.reportCushion x) = g x) (hstart : ∀ x, g (Chute.startCycle x) = g x)
    (s : State) (cs : List ChuteIdx) (d : ChuteIdx) :
    g ((Event.finish ⟨s, [], cs, false, []⟩).chute d) = g (s.chute d) := by
  rw [Event.finish_tries, State.endEvent_chute]
  exact State.runTries_induct (P := fun t => g (t.chute d) = g (s.chute d)) cs
    (fun t c _ ht => (t.startTry_chute_congr hempty hcushion hstart c d).trans ht) s rfl

theorem Event.finish_tries_count (s : State) (cs : List ChuteIdx) (d : ChuteIdx) :
    ((Event.finish ⟨s, [], cs, false, []⟩).chute d).count = (s.chute d).count :=
  Event.finish_tries_chute_congr (g := Chute.count) Chute.reportEmpty_count Chute.reportCushion_count
    Chute.startCycle_count s cs d

theorem Event.finish_tries_defined (s : State) (cs : List ChuteIdx) (d : ChuteIdx) :
    ((Event.finish ⟨s, [], cs, false, []⟩).chute d).defined = (s.chute d).defined :=
  Event.finish_tries_chute_congr (g := Chute.defined) Chute.reportEmpty_defined Chute.reportCushion_defined
    Chute.startCycle_defined s cs d

theorem Event.finish_tries_held (s : State) (cs : List ChuteIdx) (d : ChuteIdx) :
    ((Event.finish ⟨s, [], cs, false, []⟩).chute d).held = (s.chute d).held :=
  Event.finish_tries_chute_congr (g := Chute.held) Chute.reportEmpty_held Chute.reportCushion_held
    Chute.startCycle_held s cs d

/-! ## ORDER -/

theorem Chute.proofDue_iff (x : Chute) : x.proofDue = true ↔ x.interval ≠ 0 ∧ x.interval ≤ x.cycles := by
  simp [Chute.proofDue]

theorem Chute.proofDue_eq_false_iff (x : Chute) :
    x.proofDue = false ↔ x.interval = 0 ∨ x.cycles < x.interval := by
  rw [← Bool.not_eq_true, Chute.proofDue_iff]
  omega

theorem orderReply_of_undefined {s : State} {c : ChuteIdx} (count : Nat) (hd : (s.chute c).defined = false) :
    s.orderReply c count = .no .noRecord := by
  simp [State.orderReply, withIndex_val, hd]

theorem orderReply_of_proofDue {s : State} {c : ChuteIdx} (count : Nat) (hd : (s.chute c).defined = true)
    (hdue : (s.chute c).proofDue = true) : s.orderReply c count = .no .proofDue := by
  simp [State.orderReply, withIndex_val, hd, hdue]

theorem orderReply_of_not_proofDue {s : State} {c : ChuteIdx} (count : Nat) (hd : (s.chute c).defined = true)
    (hdue : (s.chute c).proofDue = false) :
    s.orderReply c count = .take ⟨s.modChute c fun y => { y with count := count }, [], [c], false, []⟩
      fun u => bigEndian 1 (u.chute c).count := by
  simp [State.orderReply, withIndex_val, hd, hdue, Event.triggerTries, Event.update, Event.of]

/-! ## HOLD and FREE -/

theorem setHeld_true (set : BitVec 8) (s : State) : s.setHeld set true
    = s.mapChutes fun c x => { x with held := x.held || (set.getLsbD c && x.defined) } := by
  refine congrArg (fun f => s.mapChutes f) (funext fun c => funext fun x => ?_)
  cases set.getLsbD c && x.defined <;> simp

theorem setHeld_false (set : BitVec 8) (s : State) : s.setHeld set false
    = s.mapChutes fun c x => { x with held := x.held && !(set.getLsbD c && x.defined) } := by
  refine congrArg (fun f => s.mapChutes f) (funext fun c => funext fun x => ?_)
  cases set.getLsbD c && x.defined <;> simp

theorem heldBody_congr {s t : State} (hd : ∀ c, (s.chute c).defined = (t.chute c).defined)
    (hh : ∀ c, (s.chute c).held = (t.chute c).held) : s.heldBody = t.heldBody := by
  simp only [State.heldBody, hd, hh]

/-- The set answered holds the defined chutes that were held and those of HOLD's set (R97). -/
theorem heldBody_setHeld_true (set : BitVec 8) (s : State) : (s.setHeld set true).heldBody
    = bigEndian 1 (bitmap 8 fun c => (s.chute c).defined && ((s.chute c).held || set.getLsbD c)) := by
  rw [setHeld_true, State.heldBody]
  refine congrArg (fun f => bigEndian 1 (bitmap 8 f)) (funext fun c => ?_)
  rw [State.mapChutes_chute]
  cases (s.chute c).defined <;> simp

/-- The set answered holds the defined chutes that were held and are not of FREE's set (R97). -/
theorem heldBody_setHeld_false (set : BitVec 8) (s : State) : (s.setHeld set false).heldBody
    = bigEndian 1 (bitmap 8 fun c => (s.chute c).defined && (s.chute c).held && !set.getLsbD c) := by
  rw [setHeld_false, State.heldBody]
  refine congrArg (fun f => bigEndian 1 (bitmap 8 f)) (funext fun c => ?_)
  rw [State.mapChutes_chute]
  cases (s.chute c).defined <;> simp

/-- FREE is accepted, changes held and makes the start tries of the freed chutes. -/
theorem freeReply_eq (set : BitVec 8) (s : State) : s.freeReply set = .take ⟨s.setHeld set false, [],
    (List.finRange 8).filter fun c => set.getLsbD c && (s.chute c).defined, false, []⟩ State.heldBody := by
  simp [State.freeReply, Event.triggerTries, Event.update, Event.of]

/-- Settles O36: ORDER by the chute's definition and whether its proof is due, then HOLD and FREE; the answers
read back what was stored, for the tries that follow leave the count, the definition and held. -/
theorem orderHoldAndFreeSetTheChutes : Obligations.OrderHoldAndFreeSetTheChutes := by
  intro rq c count set s x
  refine ⟨fun htakes => ⟨fun hd => ?undefined, fun hd hinterval hcycles => ?due, fun hd hnot => ?ordered⟩,
    fun htakes => ⟨?hold, ?free⟩⟩
  case undefined =>
    exact congrArg _ (request_of_reply_no htakes (orderReply_of_undefined count hd))
  case due =>
    have hdue := (Chute.proofDue_iff _).mpr ⟨hinterval, hcycles⟩
    exact congrArg _ (request_of_reply_no htakes (orderReply_of_proofDue count hd hdue))
  case ordered =>
    have hdue := (Chute.proofDue_eq_false_iff _).mpr hnot
    refine congrArg _ ((request_of_reply_take htakes (orderReply_of_not_proofDue count hd hdue)).trans ?_)
    rw [Event.finish_tries_count, State.modChute_chute_self]
  case hold =>
    refine congrArg _ ((request_of_reply_take htakes rfl).trans ?_)
    rw [Event.finish_update, heldBody_congr (t := s.setHeld set true) (by simp) (by simp),
      heldBody_setHeld_true, setHeld_true]
  case free =>
    refine congrArg _ ((request_of_reply_take htakes (freeReply_eq set s)).trans ?_)
    rw [heldBody_congr (Event.finish_tries_defined _ _) (Event.finish_tries_held _ _),
      heldBody_setHeld_false, setHeld_false]

end Sys2Proof.Machine
end

section
/-! The breaker's handshake (R113, R114, R117, R132): what a move of the breaker, the end of a job and a breach come
to, and the events the three input lines' edges make. -/

namespace Sys2Proof.Machine

/-! ## A move of the breaker -/

/-- A move into or out of BREAKING switches the active list, which an idle scanner takes at once (R35). -/
theorem Event.moveBreaker_of_switches {f : Breaker → Breaker} {ev : Event}
    (h : ¬ (ev.st.breaker.state = .breaking ↔ (f ev.st.breaker).state = .breaking)) :
    ev.moveBreaker f = (ev.update fun s => (s.modBreaker f).wakeScanner).touchAll := by
  simp [Event.moveBreaker, Event.update, h]

/-- A move that neither enters nor leaves BREAKING changes the breaker alone. -/
theorem Event.moveBreaker_of_keeps {f : Breaker → Breaker} {ev : Event}
    (h : ev.st.breaker.state = .breaking ↔ (f ev.st.breaker).state = .breaking) :
    ev.moveBreaker f = (ev.update (State.modBreaker f)).touchAll := by
  simp [Event.moveBreaker, Event.update, h]

@[simp] theorem State.debounced_carriesBreaker (s : State) (i : LineIdx) (e : EntryIdx) :
    (s.debounced i).carriesBreaker e = s.carriesBreaker e := State.modLine_carriesBreaker ..

@[simp] theorem State.debounced_bst (s : State) (i : LineIdx) (k : StationIdx) :
    (s.debounced i).bst k = s.bst k := State.modLine_bst ..

@[simp] theorem State.debounced_breaker (s : State) (i : LineIdx) :
    (s.debounced i).breaker = s.breaker := State.modLine_breaker ..

/-! ## The end of a job -/

@[simp] theorem State.modBreaker_breakerCovered (f : Breaker → Breaker) (s : State) :
    (s.modBreaker f).breakerCovered = s.breakerCovered :=
  congrArg (List.finRange 24).any (funext (State.modBreaker_carriesBreaker f s))

@[simp] theorem State.modBreaker_stationCovered (f : Breaker → Breaker) (s : State) (k : StationIdx) :
    (s.modBreaker f).stationCovered k = s.stationCovered k := by
  simp only [State.stationCovered, State.modBreaker_coversStation]

theorem State.modBreaker_effectiveFloor {f : Breaker → Breaker} {s : State}
    (hfloor : (f s.breaker).floor = s.breaker.floor) :
    (s.modBreaker f).effectiveFloor = s.effectiveFloor := by
  simp only [State.effectiveFloor, State.modBreaker_station, State.modBreaker_breaker, hfloor]

/-- The choice reads the list and the floor of the breaker, and nothing else of it (R109, R110). -/
theorem State.modBreaker_pickJob {f : Breaker → Breaker} {s : State}
    (hjobs : (f s.breaker).jobs = s.breaker.jobs) (hfloor : (f s.breaker).floor = s.breaker.floor) :
    (s.modBreaker f).pickJob = s.pickJob := by
  have hstartable : (s.modBreaker f).startable = s.startable := by
    funext j
    simp only [State.startable, State.modBreaker_station, State.modBreaker_effectiveFloor hfloor,
      State.modBreaker_breakerCovered, State.modBreaker_stationCovered]
  have hbetter : (s.modBreaker f).betterJob = s.betterJob := by
    funext best j
    cases best <;> simp [State.betterJob, State.jobBefore]
  rw [State.pickJob, hstartable, hbetter, State.modBreaker_breaker, hjobs, State.pickJob]

/-- A report of an ended job triggers the arbiters that `endReport` lists (R68, R108). -/
theorem Event.reportEnd_eq (k : StationIdx) (ev : Event) :
    ev.reportEnd k = { ev with arb := ev.st.endReport k ++ ev.arb } := by
  unfold Event.reportEnd State.endReport
  generalize ((List.finRange 16).find? fun t =>
    (ev.st.tip t).defined && decide ((ev.st.tip t).grizzly = some k)) = found
  cases found with
  | some t =>
    change ev.judgeBlocking t
      = { ev with arb := (if ev.st.blocked t then [] else [(ev.st.tip t).pass]) ++ ev.arb }
    unfold Event.judgeBlocking
    split <;> rfl
  | none => rfl

/-- The breaker whose job has ended, sent to the job found or home (R114 steps 4 and 5). -/
def Breaker.chainOrReturn (found : Option Job) (b : Breaker) : Breaker :=
  match found with
  | some n => b.take n
  | none => b.sendHome

theorem Event.chainOrReturn_of_breaking (found : Option Job) {ev : Event}
    (h : ev.st.breaker.state = .breaking) : ev.chainOrReturn found
      = (ev.update fun s => (s.modBreaker (Breaker.chainOrReturn found)).wakeScanner).touchAll := by
  cases found with
  | some n => exact Event.moveBreaker_of_switches (by simp [h, Breaker.take])
  | none => exact Event.moveBreaker_of_switches (by simp [h, Breaker.sendHome])

/-- A breaker whose job and break timer are gone already moves on by its other fields alone (R114). -/
theorem Breaker.chainOrReturn_of_free (found : Option Job) {limit : Nat} {b : Breaker}
    (hjob : b.current = none) (htimer : b.breakTimer = none) (hlimit : b.travelLimit = limit) :
    b.chainOrReturn found = match found with
      | some n => { b with
          state := .travelling, current := some n, jobs := b.jobs.erase n
          lastCode := n.station, travelTimer := some limit }
      | none => { b with
          state := .returning, travelTimer := none, returnTimer := some limit } := by
  subst hlimit
  cases found with
  | some n => simp only [Breaker.chainOrReturn, Breaker.take, htimer]
  | none => simp only [Breaker.chainOrReturn, Breaker.sendHome, hjob, htimer]

/-- The breaker with its current job finished (R114 step 1). -/
def Breaker.finished (b : Breaker) : Breaker := { b with breakTimer := none, current := none }

/-- The breaker with its current job `j` finished, and the job's station listed again where its oversize line is
high (R114 steps 1 and 3). -/
def Breaker.relisted (high : Bool) (j : Job) (b : Breaker) : Breaker :=
  if high then b.finished.list j.station j.level .oversize else b.finished

theorem Breaker.relisted_current (high : Bool) (j : Job) (b : Breaker) :
    (b.relisted high j).current = none := by
  cases high <;> rfl

theorem Breaker.relisted_breakTimer (high : Bool) (j : Job) (b : Breaker) :
    (b.relisted high j).breakTimer = none := by
  cases high <;> rfl

theorem Breaker.relisted_travelLimit (high : Bool) (j : Job) (b : Breaker) :
    (b.relisted high j).travelLimit = b.travelLimit := by
  cases high <;> rfl

/-- The choice is made when the job has ended, and before its station is listed again (R114 step 2). -/
theorem Event.finishBreak_eq (j : Job) (ev : Event) : ev.finishBreak j =
    (if ev.st.level (.oversize (ev.st.bst j.station).tip) then
        ev.update (State.modBreaker fun b => b.finished.list j.station j.level .oversize)
      else (ev.update (State.modBreaker Breaker.finished)).reportEnd j.station).chainOrReturn ev.st.pickJob := by
  have hpick : (ev.st.modBreaker Breaker.finished).pickJob = ev.st.pickJob :=
    State.modBreaker_pickJob rfl rfl
  have hlevel := State.modBreaker_level Breaker.finished ev.st
    (.oversize ((ev.st.modBreaker Breaker.finished).bst j.station).tip)
  rw [State.modBreaker_bst] at hlevel
  rw [← hpick, ← hlevel]
  rfl

/-- A finished job's end is reported where its station is not listed again; either way the breaker moves on, the
active list switches and every entry sees the change (R114). -/
theorem Event.finishBreak_of_breaking (j : Job) {high : Bool} {s : State} (hstate : s.breaker.state = .breaking)
    (hlevel : s.level (.oversize (s.bst j.station).tip) = high) :
    (Event.of s).finishBreak j =
      ⟨(s.modBreaker fun b => (b.relisted high j).chainOrReturn s.pickJob).wakeScanner,
        if high then [] else (s.modBreaker Breaker.finished).endReport j.station,
        [], false, List.finRange 24⟩ := by
  rw [Event.finishBreak_eq, Event.of_st, hlevel, Event.reportEnd_eq]
  cases high with
  | true => exact Event.chainOrReturn_of_breaking _ hstate
  | false =>
    refine (Event.chainOrReturn_of_breaking _ hstate).trans ?_
    rw [Event.update_arb]
    exact congrArg (fun arb => Event.mk _ arb _ _ _) (List.append_nil _)

/-! ## A breach -/

/-- A breach counts, keeps the first cause and raises BREACH at each covering entry that is IN_FORCE (R132). -/
theorem State.recordBreach_eq (covers : EntryIdx → Bool) (cause : BreachCause) (actuator : Nat) (s : State) :
    s.recordBreach covers cause actuator = s.mapEntries fun e x =>
      if covers e = true ∧ x.state = .inForce then { x with
        breaches := min (x.breaches + 1) 255
        firstBreach := if x.firstBreach.isSome then x.firstBreach else some ⟨cause, actuator⟩
        conds := raise .breach x.conds }
      else x := by
  refine congrArg (fun g => s.mapEntries g) (funext fun e => funext fun x => ?_)
  refine if_congr (by simp) ?_ rfl
  unfold Entry.breach
  cases x.firstBreach <;> rfl

/-! ## The edges -/

theorem Event.inPositionEdge_rising_of_travelling {s : State} (h : s.breaker.state = .travelling) :
    (Event.of s).inPositionEdge true = ⟨(s.modBreaker fun b =>
        { b with state := .breaking, travelTimer := none, breakTimer := some b.breakLimit }).wakeScanner,
      [], [], false, List.finRange 24⟩ := by
  simp only [Event.inPositionEdge, Event.of_st, h]
  exact Event.moveBreaker_of_switches (by simp [h])

theorem Event.inPositionEdge_rising_of_not_travelling {ev : Event} (h : ev.st.breaker.state ≠ .travelling) :
    ev.inPositionEdge true = ev := by
  simp [Event.inPositionEdge, h]

theorem Event.inPositionEdge_falling (ev : Event) : ev.inPositionEdge false = ev := rfl

theorem Event.grizzlyClearEdge_rising_of_breaking {j : Job} {ev : Event}
    (h : ev.st.breaker.state = .breaking) (hj : ev.st.breaker.current = some j) :
    ev.grizzlyClearEdge true = ev.finishBreak j := by
  simp [Event.grizzlyClearEdge, h, hj]

theorem Event.grizzlyClearEdge_rising_of_not_breaking {ev : Event} (h : ev.st.breaker.state ≠ .breaking) :
    ev.grizzlyClearEdge true = ev := by
  unfold Event.grizzlyClearEdge
  split <;> simp [h]

theorem Event.grizzlyClearEdge_falling (ev : Event) : ev.grizzlyClearEdge false = ev := by
  unfold Event.grizzlyClearEdge
  split <;> rfl

theorem Event.parkedEdge_rising_of_returning {s : State} (h : s.breaker.state = .returning) :
    (Event.of s).parkedEdge true = ⟨s.modBreaker fun b =>
        { b with state := .parked, returnTimer := none, returnOverdue := false },
      [], [], true, List.finRange 24⟩ := by
  simp only [Event.parkedEdge, Event.of_st, h]
  exact congrArg Event.triggerChoice (Event.moveBreaker_of_keeps (by simp [h]))

theorem Event.parkedEdge_rising_of_not_returning {ev : Event} (h : ev.st.breaker.state ≠ .returning) :
    ev.parkedEdge true = ev := by
  simp [Event.parkedEdge, h]

theorem Event.parkedEdge_falling (ev : Event) : ev.parkedEdge false
    = ev.update (State.recordBreach ev.st.carriesBreaker .breakerMoved 0) := rfl

/-- Settles O43: each edge by the breaker's state, and the end of a job by its station's oversize line and by what
the choice finds. -/
theorem breakerEdgesFollowTheHandshake : Obligations.BreakerEdgesFollowTheHandshake := by
  intro i j s s1 d b moved switched seen
  have hb : s1.breaker = b := s.debounced_breaker i
  have hignored {f : LineFn} {rising : Bool} (hdue : s.edgeDue i f rising = true)
      (h : (Event.of s1).deliver f rising = Event.of s1) : exec d s = .next s1.endEvent := by
    rw [exec_debounceExpiry_of_edgeDue hdue, h, Event.finish_of]
  refine ⟨fun hdue => ?inPosition, fun hdue hstate hjob => ?finishes, fun hdue hstate => ?clearElsewhere,
    fun hdue => ?parked, fun hdue => ?leaves, fun hdue => ?falls⟩
  case inPosition =>
    split
    case isTrue hstate =>
      rw [exec_debounceExpiry_of_edgeDue hdue, Event.deliver,
        Event.inPositionEdge_rising_of_travelling (hb ▸ hstate)]
      rfl
    case isFalse hstate =>
      exact hignored hdue (Event.inPositionEdge_rising_of_not_travelling (hb ▸ hstate))
  case finishes =>
    intro free high relisted next
    have hbst : s1.bst j.station = s.bst j.station := s.debounced_bst i j.station
    have hnext : (b.relisted high j).chainOrReturn s1.pickJob = next :=
      Breaker.chainOrReturn_of_free _ (b.relisted_current high j) (b.relisted_breakTimer high j)
        (b.relisted_travelLimit high j)
    rw [exec_debounceExpiry_of_edgeDue hdue, Event.deliver,
      Event.grizzlyClearEdge_rising_of_breaking (hb ▸ hstate) (hb ▸ hjob),
      Event.finishBreak_of_breaking j (high := high) (hb ▸ hstate) (hbst ▸ rfl), ← hnext]
    rfl
  case clearElsewhere =>
    exact hignored hdue (Event.grizzlyClearEdge_rising_of_not_breaking (hb ▸ hstate))
  case parked =>
    split
    case isTrue hstate =>
      rw [exec_debounceExpiry_of_edgeDue hdue, Event.deliver,
        Event.parkedEdge_rising_of_returning (hb ▸ hstate)]
      rfl
    case isFalse hstate =>
      exact hignored hdue (Event.parkedEdge_rising_of_not_returning (hb ▸ hstate))
  case leaves =>
    rw [exec_debounceExpiry_of_edgeDue hdue, Event.deliver, Event.parkedEdge_falling, Event.finish_update,
      State.recordBreach_eq]
    simp only [Event.of_st, State.debounced_carriesBreaker]
    rfl
  case falls =>
    rcases hdue with hdue | hdue
    · exact hignored hdue (Event.inPositionEdge_falling _)
    · exact hignored hdue (Event.grizzlyClearEdge_falling _)

end Sys2Proof.Machine
end

section
/-! What a field of an answer body reads: the number that `bigEndian` spelled there, past the bytes before it; and
the bits of that number where it is a bitmap or a byte of flags. -/

namespace Sys2Proof

/-! ## Fields of a body -/

@[simp] theorem bigEndian_length (n v : Nat) : (bigEndian n v).length = n := by
  induction n with
  | zero => rfl
  | succ n ih => rw [bigEndian, List.length_cons, ih]

/-- The bytes of `v` are read on after a number `a` read before them. -/
theorem foldl_bigEndian (n v a : Nat) : (bigEndian n v).foldl (fun a b => a * 256 + b.toNat) a
    = a * 256 ^ n + v % 256 ^ n := by
  induction n generalizing a with
  | zero => simp [bigEndian, Nat.mod_one]
  | succ n ih =>
    have hsplit : v % 256 ^ (n + 1) = v % 256 ^ n + 256 ^ n * (v / 256 ^ n % 256) := by
      rw [pow_succ, Nat.mod_mul]
    rw [bigEndian, List.foldl_cons, ih, hsplit, BitVec.toNat_ofNat]
    ring

/-- The number at the front of a body. -/
@[simp] theorem field_bigEndian_append (n v : Nat) (rest : List Byte) :
    field (bigEndian n v ++ rest) 0 n = v % 256 ^ n := by
  simp [field, bytesToNat, foldl_bigEndian]

/-- The number that is a whole body. -/
@[simp] theorem field_bigEndian (n v : Nat) : field (bigEndian n v) 0 n = v % 256 ^ n := by
  simpa using field_bigEndian_append n v []

/-- A field past the number at the front of a body. -/
theorem field_bigEndian_append_of_le {n start : Nat} (hle : n ≤ start) (v : Nat) (rest : List Byte) (len : Nat) :
    field (bigEndian n v ++ rest) start len = field rest (start - n) len := by
  rw [field, field, List.drop_append, List.drop_eq_nil_of_le (by simpa using hle), List.nil_append,
    bigEndian_length]

/-- The bits that `n` bytes of `v` hold are those of `v`. -/
theorem testBit_mod_bytes {n i : Nat} (v : Nat) (hi : i < 8 * n) : (v % 256 ^ n).testBit i = v.testBit i := by
  rw [show 256 ^ n = 2 ^ (8 * n) by rw [pow_mul]; rfl, Nat.testBit_mod_two_pow, decide_eq_true hi, Bool.true_and]

end Sys2Proof

namespace Sys2Proof.Machine

/-! ## Sets and flags -/

theorem bitmap_succ {n : Nat} (f : Fin (n + 1) → Bool) : bitmap (n + 1) f
    = bitmap n (fun i => f i.castSucc) + if f (Fin.last n) then 2 ^ n else 0 := by
  rw [bitmap, List.finRange_succ_last, List.foldl_append, List.foldl_map, bitmap]
  cases h : f (Fin.last n) <;> simp [h]

theorem bitmap_lt {n : Nat} (f : Fin n → Bool) : bitmap n f < 2 ^ n := by
  induction n with
  | zero => simp [bitmap]
  | succ n ih =>
    have hlow := ih fun i => f i.castSucc
    rw [bitmap_succ, pow_succ]
    split <;> omega

/-- "a set of records is a bitmap in which bit i stands for index i" (R178). -/
theorem testBit_bitmap {n : Nat} (f : Fin n → Bool) (i : Fin n) : (bitmap n f).testBit i = f i := by
  induction n with
  | zero => exact i.elim0
  | succ n ih =>
    have hlow := bitmap_lt fun i : Fin n => f i.castSucc
    rw [bitmap_succ, Nat.add_comm]
    cases i using Fin.lastCases with
    | last =>
      cases h : f (Fin.last n)
      · simp [Nat.testBit_lt_two_pow hlow]
      · simp [Nat.testBit_two_pow_add_eq, Nat.testBit_lt_two_pow hlow]
    | cast i =>
      rw [← ih (fun i => f i.castSucc) i, Fin.val_castSucc]
      split
      · exact Nat.testBit_two_pow_add_gt i.isLt _
      · rw [Nat.zero_add]

/-- The bits that `n` bytes hold of a set of `m` records. -/
theorem testBit_bitmap_mod_bytes {m n : Nat} (f : Fin m → Bool) (i : Fin m) (hfits : m ≤ 8 * n) :
    (bitmap m f % 256 ^ n).testBit i = f i := by
  rw [testBit_mod_bytes _ (i.isLt.trans_le hfits), testBit_bitmap]

/-- Bit `i` of a byte of flags is its flag `i`. -/
theorem testBit_flags (bits : List Bool) (i : Nat) :
    (bits.foldr (fun (b : Bool) n => b.toNat + 2 * n) 0).testBit i = bits.getD i false := by
  induction bits generalizing i with
  | nil => simp
  | cons b bits ih =>
    rw [List.foldr_cons, Nat.add_comm, ← Nat.bit_val]
    cases i with
    | zero => rw [Nat.testBit_bit_zero, List.getD_cons_zero]
    | succ i => rw [Nat.testBit_bit_succ, List.getD_cons_succ, ih]

end Sys2Proof.Machine
end

section
/-! SUMMARY (R181): its 11 bytes field by field, and the bits of its sets. -/

namespace Sys2Proof.Machine

theorem summaryBody_length (s : State) : s.summaryBody.length = 11 := by
  simp [State.summaryBody, flagByte]

/-- The fields of the body in their order, each as the number that fills it. -/
theorem summaryBody_fields (s : State) :
    field s.summaryBody 0 1 = s.station.mode.code % 256 ^ 1
      ∧ field s.summaryBody 1 1 = [s.attn, decide (s.station.conds ≠ 0), decide (s.breaker.conds ≠ 0)].foldr
          (fun (b : Bool) n => b.toNat + 2 * n) 0 % 256 ^ 1
      ∧ field s.summaryBody 2 1 = bitmap 6 (fun p => decide ((s.pass p).conds ≠ 0)) % 256 ^ 1
      ∧ field s.summaryBody 3 2 = bitmap 16 (fun t => decide ((s.tip t).conds ≠ 0)) % 256 ^ 2
      ∧ field s.summaryBody 5 1 = bitmap 8 (fun c => decide ((s.chute c).conds ≠ 0)) % 256 ^ 1
      ∧ field s.summaryBody 6 1 = bitmap 4 (fun k => decide ((s.bst k).conds ≠ 0)) % 256 ^ 1
      ∧ field s.summaryBody 7 3 = bitmap 24 (fun e => decide ((s.entry e).conds ≠ 0)) % 256 ^ 3
      ∧ field s.summaryBody 10 1 = bitmap 8 (fun ch => decide ((s.channel ch).conds ≠ 0)) % 256 ^ 1 := by
  simp (disch := decide) only [State.summaryBody, flagByte, List.append_assoc, field_bigEndian_append_of_le,
    Nat.reduceSub, Nat.sub_self, field_bigEndian_append, field_bigEndian, and_self]

/-- A free entry is at its reset value, with no condition raised (R123). -/
theorem conds_of_entriesLawful {s : State} (h : s.entriesLawful = true) {e : EntryIdx}
    (hfree : (s.entry e).inUse = false) : (s.entry e).conds = 0 := by
  have hlawful : (s.entry e).lawful = true := by simp_all [State.entriesLawful]
  have hreset : s.entry e = Entry.reset := by simpa [Entry.lawful, hfree] using hlawful
  rw [hreset]
  rfl

/-- Settles O15: each field of the body is the number that fills it, and its bits are the flags or the set's
members; a free entry raises nothing. -/
theorem summaryShowsEveryRaisedRecord : Obligations.SummaryShowsEveryRaisedRecord := by
  intro rq s htakes
  obtain ⟨hmode, hflags, hpasses, htips, hchutes, hstations, hentries, hchannels⟩ := summaryBody_fields s
  have hflag (i : Nat) (hi : i < 8) : (field s.summaryBody 1 1).testBit i
      = [s.attn, decide (s.station.conds ≠ 0), decide (s.breaker.conds ≠ 0)].getD i false := by
    rw [hflags, testBit_mod_bytes _ hi, testBit_flags]
  have hentry (e : EntryIdx) : (field s.summaryBody 7 3).testBit e = decide ((s.entry e).conds ≠ 0) := by
    rw [hentries, testBit_bitmap_mod_bytes _ e (by decide)]
  refine ⟨congrArg _ (request_of_takes htakes _), summaryBody_length s, ?mode, hflag 0 (by decide),
    hflag 1 (by decide), hflag 2 (by decide), fun p => ?pass, fun t => ?tip, fun c => ?chute, fun k => ?station,
    hentry, fun ch => ?channel, fun hlawful e hfree => ?free⟩
  case mode =>
    rw [hmode]
    cases s.station.mode <;> rfl
  case pass => rw [hpasses, testBit_bitmap_mod_bytes _ p (by decide)]
  case tip => rw [htips, testBit_bitmap_mod_bytes _ t (by decide)]
  case chute => rw [hchutes, testBit_bitmap_mod_bytes _ c (by decide)]
  case station => rw [hstations, testBit_bitmap_mod_bytes _ k (by decide)]
  case channel => rw [hchannels, testBit_bitmap_mod_bytes _ ch (by decide)]
  case free => simp [hentry, conds_of_entriesLawful hlawful hfree]

end Sys2Proof.Machine
end

section
/-! ACKNOWLEDGE (R180): the reply for each record type, and what a record's conditions become. -/

namespace Sys2Proof.Machine

/-- A change of one chute reads only that chute. -/
theorem State.modChute_congr {c : ChuteIdx} {f g : Chute → Chute} {s : State} (h : f (s.chute c) = g (s.chute c)) :
    s.modChute c f = s.modChute c g := by
  rw [State.modChute, h, State.modChute]

/-- A change of one entry reads only that entry. -/
theorem State.modEntry_congr {e : EntryIdx} {f g : Entry → Entry} {s : State} (h : f (s.entry e) = g (s.entry e)) :
    s.modEntry e f = s.modEntry e g := by
  rw [State.modEntry, h, State.modEntry]

/-- Without a raised STROKE_FAULT in the set, a chute's fault hold stays (R91). -/
theorem Chute.acknowledge_of_no_fault {set : CondSet} {x : Chute}
    (h : (raised .strokeFault set && raised .strokeFault x.conds) = false) :
    x.acknowledge set = { x with conds := acknowledged set x.conds } := by
  simp [Chute.acknowledge, h]

/-- A raised STROKE_FAULT in the set ends the chute's fault hold (R91). -/
theorem Chute.acknowledge_of_fault {set : CondSet} {x : Chute}
    (h : (raised .strokeFault set && raised .strokeFault x.conds) = true) :
    x.acknowledge set = { x with conds := acknowledged set x.conds, faultHold := false } := by
  simp [Chute.acknowledge, h]

/-! ## The replies -/

theorem acknowledgeReply_chute_of_no_fault {set : CondSet} {c : ChuteIdx} {s : State}
    (h : (raised .strokeFault set && raised .strokeFault (s.chute c).conds) = false) :
    s.acknowledgeReply 2 c set = .take ((Event.of s).update (State.modChute c (Chute.acknowledge set)))
      fun u => condBytes (u.chute c).conds := by
  simp only [State.acknowledgeReply, withIndex_val, h, Bool.false_eq_true, if_false]

theorem acknowledgeReply_chute_of_fault {set : CondSet} {c : ChuteIdx} {s : State}
    (h : (raised .strokeFault set && raised .strokeFault (s.chute c).conds) = true) :
    s.acknowledgeReply 2 c set = .take ⟨s.modChute c fun y =>
        { y with conds := acknowledged set y.conds, faultHold := false }, [], [c], false, []⟩
      fun u => condBytes (u.chute c).conds := by
  simp only [State.acknowledgeReply, withIndex_val, h, if_true]
  rw [← State.modChute_congr (f := Chute.acknowledge set) (Chute.acknowledge_of_fault h)]
  rfl

theorem acknowledgeReply_of_no_type {type : Nat} (h : 7 < type) (index : Nat) (set : CondSet) (s : State) :
    s.acknowledgeReply type index set = .no .outOfRange := by
  match type, h with
  | _ + 8, _ => rfl

/-- A taken request that changes the state to `t` and triggers nothing ends with the pins and ATTN, and answers the
conditions that stay. -/
theorem request_of_reply_conds {rq : Request} {n : Nat} {s t : State} {owner : State → Reply} {f : State → State}
    {conds : State → CondSet} {kept : CondSet} (h : s.takes rq n = true)
    (hr : owner s = .take ((Event.of s).update f) fun u => condBytes (conds u)) (ht : f s = t)
    (hkept : conds t.endEvent = kept) :
    request rq n owner s = t.endEvent.answered rq .accepted (condBytes kept) := by
  rw [request_of_reply_take h hr, Event.finish_update, ht, hkept]

/-- Settles O55: each record type's reply changes its one record, whose conditions the event's end leaves for the
answer; a chute let out of fault hold makes a start try besides. -/
theorem acknowledgeClearsTheRaisedKinds : Obligations.AcknowledgeClearsTheRaisedKinds := by
  intro rq set p t c k e ch type index s htakes kept done fault breach
  refine ⟨?pass, ?tip, fun hnone => ?chute, fun hfault => ?faultHold, ?station, ?breaker, ?entry, ?channel,
    ?control, fun htype => ?other⟩
  case pass =>
    refine congrArg _ (request_of_reply_conds htakes (withIndex_val p _) rfl ?_)
    rw [State.endEvent_pass, State.modPass_pass_self]
  case tip =>
    refine congrArg _ (request_of_reply_conds htakes (withIndex_val t _) rfl ?_)
    rw [State.endEvent_tip, State.modTip_tip_self]
  case chute =>
    refine congrArg _ (request_of_reply_conds htakes (acknowledgeReply_chute_of_no_fault hnone)
      (State.modChute_congr (Chute.acknowledge_of_no_fault hnone)) ?_)
    rw [State.endEvent_chute, State.modChute_chute_self]
  case faultHold =>
    exact congrArg _ (request_of_reply_take htakes (acknowledgeReply_chute_of_fault hfault))
  case station =>
    refine congrArg _ (request_of_reply_conds htakes (withIndex_val k _) rfl ?_)
    rw [State.endEvent_bst, State.modBst_bst_self]
  case breaker =>
    refine congrArg _ (request_of_reply_conds htakes rfl rfl ?_)
    rw [State.endEvent_breaker, State.modBreaker_breaker]
  case entry =>
    refine congrArg _ (request_of_reply_conds htakes (withIndex_val e _) (State.modEntry_congr rfl) ?_)
    rw [State.endEvent_entry, State.modEntry_entry_self]
  case channel =>
    refine congrArg _ (request_of_reply_conds htakes (withIndex_val ch _) rfl ?_)
    rw [State.endEvent_channel, State.modChannel_channel_self]
  case control =>
    refine congrArg _ (request_of_reply_conds htakes rfl rfl ?_)
    rw [State.endEvent_station, State.modStation_station]
  case other => exact congrArg _ (request_of_reply_no htakes (acknowledgeReply_of_no_type htype ..))

end Sys2Proof.Machine
end

section
/-! What a step can do, said once for the laws every step keeps: how one record may change within an event, the
changes an event is made of, and the stages whose first change the rest of the stage makes good. -/

namespace Sys2Proof.Machine

/-! ## How one record may change within an event -/

/-- A change of a pass that leaves its list and its reservation to the tip points, hangs nothing and begins or ends
no service. -/
structure Pass.Evolves (q q' : Pass) : Prop where
  defined : q'.defined = q.defined
  waiting : q'.waiting = q.waiting
  reserved : q'.reserved = q.reserved
  hung : q'.state = .hung → q.state = .hung
  running : q.state = .running → q'.state = .running
  service : q'.state = .outOfService ↔ q.state = .outOfService
  lawful : q.lawful = true → q'.lawful = true

/-- A change of a tip point that leaves its state, its place and its load, and starts or stops no timer. -/
structure Tip.Evolves (x y : Tip) : Prop where
  defined : y.defined = x.defined
  pass : y.pass = x.pass
  elevation : y.elevation = x.elevation
  load : y.load = x.load
  state : y.state = x.state
  timer : y.timer.isSome = x.timer.isSome
  level : x.level ≤ 7 → y.level ≤ 7

/-- The cycle states no chute is in outside RUN, nor on a HUNG pass (R93, R150, R155). -/
def CycleState.moving : CycleState → Bool
  | .closed => false
  | .opening => true
  | .holding => true
  | .closing => false
  | .nudging => true
  | .reclosing => false

/-- A change of a chute: its gate moves in RUN alone, not on a HUNG pass, and leaves CLOSED while no entry covers
it. -/
structure Chute.Evolves (s : State) (c : ChuteIdx) (x y : Chute) : Prop where
  defined : y.defined = x.defined
  pass : y.pass = x.pass
  elevation : y.elevation = x.elevation
  lawful : x.lawful = true → y.lawful = true
  starts : y.state.moving = true →
    x.state.moving = true ∨ s.station.mode = .run ∧ (s.pass x.pass).state ≠ .hung
  leaves : x.state = .closed → y.state = .closed ∨ s.chuteCovered c = false
  stale : y.staleExpiry = true → x.staleExpiry = true ∨ s.waitsNext (.strokeTimerExpiry c) = true

/-- A change of a breaker station that leaves it defined over its tip point. -/
structure Station.Evolves (x y : Station) : Prop where
  defined : y.defined = x.defined
  tip : y.tip = x.tip

/-- A change of a clearance entry that leaves its coverage, and at most makes a PENDING entry LATE. -/
structure Entry.Evolves (x y : Entry) : Prop where
  inUse : y.inUse = x.inUse
  kind : y.kind = x.kind
  pass : y.pass = x.pass
  low : y.low = x.low
  high : y.high = x.high
  maskTips : y.maskTips = x.maskTips
  maskChutes : y.maskChutes = x.maskChutes
  maskBreaker : y.maskBreaker = x.maskBreaker
  state : y.state = .inForce ↔ x.state = .inForce
  lawful : x.lawful = true → y.lawful = true

/-- A change of the breaker: it starts in RUN alone, toward a station no entry covers, and leaves PARKED while no
entry carries the breaker bit. -/
structure State.BreakerEvolves (s : State) (b : Breaker) : Prop where
  timed : s.breaker.timed = true → b.timed = true
  starts : b.state.goes = true → s.breaker.state.goes = true ∨ s.station.mode = .run
  reaches : ∀ k, State.breakerAt { s with breaker := b } k = true →
    s.breakerAt k = true ∨ s.stationCovered k = false
  leaves : s.breaker.state = .parked → b.state = .parked ∨ s.breakerCovered = false
  jobs : s.levelsLawful = true → s.jobsLawful = true → State.jobsLawful { s with breaker := b } = true

/-! ## The changes an event is made of -/

/-- A tip point that leaves GRANTED for `state`, with its room given back (R62, R63, R67). -/
def State.ungrant (t : TipIdx) (state : TipState) (s : State) : State :=
  (s.modTip t fun x => { x with state := state, timer := none }).modPass (s.tip t).pass
    fun q => { q with reserved := q.reserved - (s.tip t).load }

/-- One change within an event. Each keeps the laws of the records it does not name, and is made only where its
premises hold. -/
inductive Change (s : State) : State → Prop
  | passes (ps : Vector Pass 6) (h : ∀ p : PassIdx, (s.pass p).Evolves ps[p]) : Change s { s with passes := ps }
  | tips (ts : Vector Tip 16) (h : ∀ t : TipIdx, (s.tip t).Evolves ts[t]) : Change s { s with tips := ts }
  | chutes (cs : Vector Chute 8) (h : ∀ c : ChuteIdx, Chute.Evolves s c (s.chute c) cs[c]) :
      Change s { s with chutes := cs }
  | stations (ks : Vector Station 4) (h : ∀ k : StationIdx, (s.bst k).Evolves ks[k]) :
      Change s { s with stations := ks }
  | entries (es : Vector Entry 24) (h : ∀ e : EntryIdx, (s.entry e).Evolves es[e]) :
      Change s { s with entries := es }
  | breaker (b : Breaker) (sc : Scanner) (h : s.BreakerEvolves b)
      (hsc : s.scannerLawful = true → State.scannerLawful { s with breaker := b, scanner := sc } = true) :
      Change s { s with breaker := b, scanner := sc }
  | channels (cs : Vector Channel 8) (sc : Scanner)
      (h : s.scannerLawful = true → State.scannerLawful { s with channels := cs, scanner := sc } = true) :
      Change s { s with channels := cs, scanner := sc }
  | lines (ls : Vector Line 48) (db : Vector Nat 6)
      (h : s.bindingsLawful = true → State.bindingsLawful { s with lines := ls, debounce := db } = true) :
      Change s { s with lines := ls, debounce := db }
  | control (x : StationControl) (h : x.mode = s.station.mode) : Change s { s with station := x }
  | placeCall (t : TipIdx) (source : CallSource) (hd : (s.tip t).defined = true)
      (hidle : (s.tip t).state = .idle) : Change s ((s.modTip t fun x =>
        { x with state := .waiting, source := source }).modPass (s.tip t).pass fun q =>
        { q with waiting := q.waiting ++ [t] })
  | withdraw (t : TipIdx) (hw : (s.tip t).state = .waiting) : Change s (s.withdrawCall t)
  | ungrant (t : TipIdx) (hg : (s.tip t).state = .granted) : Change s (s.ungrant t .idle)
  | requeue (t : TipIdx) (hg : (s.tip t).state = .granted) :
      Change s ((s.ungrant t .waiting).modPass (s.tip t).pass fun q => { q with waiting := q.waiting ++ [t] })
  | grant (p : PassIdx) (t : TipIdx) (hc : s.chooseCall p = some t) : Change s (s.grant p t)
  | definePass (p : PassIdx) (height : Nat) (profile : List Segment)
      (hm : s.station.mode = .setup ∨ (s.pass p).state = .outOfService)
      (hr : passOutOfRange height profile = false) : Change s (s.modPass p (Pass.define height profile))
  | defineTip (t : TipIdx) (p : PassIdx) (elevation load level : Nat) (grizzly : Option StationIdx)
      (hm : s.station.mode = .setup ∨ (s.tip t).defined = false ∨ (s.pass (s.tip t).pass).state = .outOfService)
      (hl : level ≤ 7) (hp : (s.pass p).defined = true) :
      Change s ((if (s.tip t).defined && decide ((s.tip t).state = .waiting) then s.withdrawCall t else s).modTip t
        (Tip.define p elevation load level grizzly))
  | defineChute (c : ChuteIdx) (p : PassIdx) (elevation volume : Nat)
      (hc : (s.chute c).defined = true → (s.chute c).state = .closed) :
      Change s (s.modChute c (Chute.define p elevation volume))
  | defineStation (k : StationIdx) (t : TipIdx) (group : Nat)
      (hm : s.station.mode = .setup ∨ s.breakerHeldInForce = true) (ht : (s.tip t).defined = true) :
      Change s (s.modBst k (Station.define t group))
  | start (hm : s.station.mode = .setup) :
      Change s ((s.modStation fun x => { x with mode := .run }).mapPasses fun _ q => q.start)
  | resume (hm : s.station.mode = .halted) : Change s (s.modStation fun x => { x with mode := .run })
  | setup (hm : s.station.mode = .halted) : Change s s.enterSetup
  | retire (e : EntryIdx) {ev : Event} (hev : ev.st = s) (hu : (s.entry e).inUse = true) :
      Change s (ev.retire e).st

/-- Several changes, one after the other. -/
abbrev Changes : State → State → Prop := Relation.ReflTransGen Change

/-- A change, or a hang, a halt, a posting or an entry into force: a change whose laws hold again once the
revocations and aborts that belong to it are made. -/
inductive Stage (s : State) : State → Prop
  | change {t : State} (h : Change s t) : Stage s t
  | hang (p : PassIdx) (m : Nat) {ev : Event} (hev : ev.st = s.modPass p (Pass.measure m))
      (hm : m ≤ capacityOf (s.pass p).profile) (hr : (s.pass p).state = .running)
      (hh : ((s.pass p).measure m).state = .hung) :
      Stage s ((ev.revokeWhere fun t => decide ((s.tip t).pass = p ∧ (s.tip t).state = .granted)).abortWhere
        fun c => decide ((s.chute c).pass = p)).st
  | halt (cause : HaltCause) {ev : Event} (hev : ev.st = s) : Stage s (ev.halt cause).st
  | post (e : EntryIdx) (x : Entry) {ev : Event} (hev : ev.st = s) (hfree : (s.entry e).inUse = false)
      (hx : x.lawful = true) (hs : x.state = .pending)
      (hp : ∀ p, x.pass = some p → (s.pass p).defined = true) : Stage s (ev.post e x).st
  | force (e : EntryIdx) {ev : Event} (hev : ev.st = s) (hu : (s.entry e).inUse = true)
      (hw : (s.entry e).state ≠ .inForce) (hs : s.settled e = true) : Stage s (ev.enterForce e).st

/-- Several stages, one after the other. -/
abbrev Stages : State → State → Prop := Relation.ReflTransGen Stage

theorem Changes.stages {s t : State} (h : Changes s t) : Stages s t := Relation.ReflTransGen.mono (fun _ _ => Stage.change) _ _ h

theorem Change.stages {s t : State} (h : Change s t) : Stages s t := .single (.change h)

/-- What each change keeps, several changes keep. -/
theorem Changes.keep {P : State → Prop} (hP : ∀ s t, Change s t → P s → P t) {s t : State} (h : Changes s t)
    (hs : P s) : P t := by
  induction h with
  | refl => exact hs
  | tail _ hstep ih => exact hP _ _ hstep ih

theorem Stages.keep {P : State → Prop} (hP : ∀ s t, Stage s t → P s → P t) {s t : State} (h : Stages s t)
    (hs : P s) : P t := by
  induction h with
  | refl => exact hs
  | tail _ hstep ih => exact hP _ _ hstep ih

/-! ## A record that stays evolves -/

theorem Pass.Evolves.refl (q : Pass) : q.Evolves q := ⟨rfl, rfl, rfl, id, id, .rfl, id⟩
theorem Tip.Evolves.refl (x : Tip) : x.Evolves x := ⟨rfl, rfl, rfl, rfl, rfl, rfl, id⟩
theorem Chute.Evolves.refl (s : State) (c : ChuteIdx) (x : Chute) : Chute.Evolves s c x x :=
  ⟨rfl, rfl, rfl, id, .inl, .inl, .inl⟩
theorem Station.Evolves.refl (x : Station) : x.Evolves x := ⟨rfl, rfl⟩
theorem Entry.Evolves.refl (x : Entry) : x.Evolves x := ⟨rfl, rfl, rfl, rfl, rfl, rfl, rfl, rfl, .rfl, id⟩

theorem Change.modPass {s : State} (p : PassIdx) {f : Pass → Pass} (h : (s.pass p).Evolves (f (s.pass p))) :
    Change s (s.modPass p f) := by
  refine .passes (s.modPass p f).passes fun i => ?_
  change (s.pass i).Evolves ((s.modPass p f).pass i)
  rw [State.modPass_pass]
  split
  case isTrue hi => exact hi ▸ h
  case isFalse => exact .refl _

theorem Change.modTip {s : State} (t : TipIdx) {f : Tip → Tip} (h : (s.tip t).Evolves (f (s.tip t))) :
    Change s (s.modTip t f) := by
  refine .tips (s.modTip t f).tips fun i => ?_
  change (s.tip i).Evolves ((s.modTip t f).tip i)
  rw [State.modTip_tip]
  split
  case isTrue hi => exact hi ▸ h
  case isFalse => exact .refl _

theorem Change.modChute {s : State} (c : ChuteIdx) {f : Chute → Chute}
    (h : Chute.Evolves s c (s.chute c) (f (s.chute c))) : Change s (s.modChute c f) := by
  refine .chutes (s.modChute c f).chutes fun i => ?_
  change Chute.Evolves s i (s.chute i) ((s.modChute c f).chute i)
  rw [State.modChute_chute]
  split
  case isTrue hi => exact hi ▸ h
  case isFalse => exact .refl _ _ _

theorem Change.modBst {s : State} (k : StationIdx) {f : Station → Station}
    (h : (s.bst k).Evolves (f (s.bst k))) : Change s (s.modBst k f) := by
  refine .stations (s.modBst k f).stations fun i => ?_
  change (s.bst i).Evolves ((s.modBst k f).bst i)
  rw [State.modBst_bst]
  split
  case isTrue hi => exact hi ▸ h
  case isFalse => exact .refl _

theorem Change.modEntry {s : State} (e : EntryIdx) {f : Entry → Entry}
    (h : (s.entry e).Evolves (f (s.entry e))) : Change s (s.modEntry e f) := by
  refine .entries (s.modEntry e f).entries fun i => ?_
  change (s.entry i).Evolves ((s.modEntry e f).entry i)
  rw [State.modEntry_entry]
  split
  case isTrue hi => exact hi ▸ h
  case isFalse => exact .refl _

theorem Change.mapChutes {s : State} {f : ChuteIdx → Chute → Chute}
    (h : ∀ c, Chute.Evolves s c (s.chute c) (f c (s.chute c))) : Change s (s.mapChutes f) := by
  refine .chutes (s.mapChutes f).chutes fun i => ?_
  change Chute.Evolves s i (s.chute i) ((s.mapChutes f).chute i)
  rw [State.mapChutes_chute]
  exact h i

theorem Change.mapEntries {s : State} {f : EntryIdx → Entry → Entry}
    (h : ∀ e, (s.entry e).Evolves (f e (s.entry e))) : Change s (s.mapEntries f) := by
  refine .entries (s.mapEntries f).entries fun i => ?_
  change (s.entry i).Evolves ((s.mapEntries f).entry i)
  rw [State.mapEntries_entry]
  exact h i

end Sys2Proof.Machine
end

section
/-! Which entries an event must test again: an entry that waits and is settled has been touched, through every change
of the event (R129). -/

namespace Sys2Proof.Machine

/-- The entry waits, and is settled: its settling test would make it IN_FORCE (R129). -/
def State.awaits (s : State) (e : EntryIdx) : Bool :=
  (s.entry e).inUse && decide ((s.entry e).state ≠ .inForce) && s.settled e

theorem State.noneSettled_iff {s : State} : s.noneSettled = true ↔ ∀ e, s.awaits e = false := by
  simp only [State.noneSettled, State.awaits, List.all_eq_true, List.mem_finRange, true_imp_iff,
    Bool.not_eq_true']

theorem State.settled_iff {s : State} {e : EntryIdx} : s.settled e = true ↔
    (∀ c, s.coversChute e c = true → s.chuteSafe c = true)
      ∧ (∀ t, s.coversTip e t = true → (s.tip t).state ≠ .granted)
      ∧ (s.carriesBreaker e = true → s.breaker.state = .parked)
      ∧ ∀ k, s.coversStation e k = true → s.breakerAt k = false := by
  simp only [State.settled, Bool.and_eq_true, List.all_eq_true, List.mem_finRange, true_imp_iff,
    Bool.or_eq_true, Bool.not_eq_true', decide_eq_true_eq, and_assoc, or_iff_not_imp_left, Bool.not_eq_false]

/-- From `s` to `t` nothing the entry covers has come nearer to its safe state, and it covers no less. -/
structure State.HardensAt (s t : State) (e : EntryIdx) : Prop where
  inUse : (t.entry e).inUse = true → (s.entry e).inUse = true
  state : (s.entry e).state = .inForce → (t.entry e).state = .inForce
  chute : ∀ c, s.coversChute e c = true → t.coversChute e c = true ∧ (t.chuteSafe c = true → s.chuteSafe c = true)
  tip : ∀ i, s.coversTip e i = true →
    t.coversTip e i = true ∧ ((s.tip i).state = .granted → (t.tip i).state = .granted)
  breaker : s.carriesBreaker e = true →
    t.carriesBreaker e = true ∧ (t.breaker.state = .parked → s.breaker.state = .parked)
  station : ∀ k, s.coversStation e k = true →
    t.coversStation e k = true ∧ (s.breakerAt k = true → t.breakerAt k = true)

theorem State.HardensAt.awaits {s t : State} {e : EntryIdx} (h : s.HardensAt t e) (ht : t.awaits e = true) :
    s.awaits e = true := by
  simp only [State.awaits, Bool.and_eq_true, decide_eq_true_eq, State.settled_iff] at ht ⊢
  obtain ⟨⟨hu, hs⟩, hc, ht, hb, hk⟩ := ht
  refine ⟨⟨h.inUse hu, fun hf => hs (h.state hf)⟩, fun c hcov => ?_, fun i hcov hg => ?_, fun hcar => ?_,
    fun k hcov => ?_⟩
  · exact (h.chute c hcov).2 (hc c (h.chute c hcov).1)
  · exact ht i (h.tip i hcov).1 ((h.tip i hcov).2 hg)
  · exact (h.breaker hcar).2 (hb (h.breaker hcar).1)
  · by_contra hat
    have := hk k (h.station k hcov).1
    simp [(h.station k hcov).2 (by simpa using hat)] at this

/-! ## Coverage reads only what an evolving record keeps -/

theorem State.coversTip_of_tips {s : State} {ts : Vector Tip 16} {t : TipIdx}
    (hd : ts[t].defined = (s.tip t).defined) (hp : ts[t].pass = (s.tip t).pass)
    (he : ts[t].elevation = (s.tip t).elevation) (e : EntryIdx) :
    State.coversTip { s with tips := ts } e t = s.coversTip e t := by
  simp only [State.tip] at hd hp he
  simp only [State.coversTip, State.entry, State.tip, hd, hp, he]
  rfl

theorem State.coversChute_of_chutes {s : State} {cs : Vector Chute 8} {c : ChuteIdx}
    (hd : cs[c].defined = (s.chute c).defined) (hp : cs[c].pass = (s.chute c).pass)
    (he : cs[c].elevation = (s.chute c).elevation) (e : EntryIdx) :
    State.coversChute { s with chutes := cs } e c = s.coversChute e c := by
  simp only [State.chute] at hd hp he
  simp only [State.coversChute, State.entry, State.chute, hd, hp, he]
  rfl

theorem State.coversTip_of_entries {s : State} {es : Vector Entry 24} {e : EntryIdx}
    (h : (s.entry e).Evolves es[e]) (t : TipIdx) :
    State.coversTip { s with entries := es } e t = s.coversTip e t := by
  obtain ⟨hu, hk, hp, hl, -, ht, -, -, -, -⟩ := h
  simp only [State.entry] at hu hk hp hl ht
  simp only [State.coversTip, State.entry, State.tip, hu, hk, hp, hl, ht]
  rfl

theorem State.coversChute_of_entries {s : State} {es : Vector Entry 24} {e : EntryIdx}
    (h : (s.entry e).Evolves es[e]) (c : ChuteIdx) :
    State.coversChute { s with entries := es } e c = s.coversChute e c := by
  obtain ⟨hu, hk, hp, -, hh, -, hc, -, -, -⟩ := h
  simp only [State.entry] at hu hk hp hh hc
  simp only [State.coversChute, State.entry, State.chute, hu, hk, hp, hh, hc]
  rfl

theorem State.coversStation_of_entries {s : State} {es : Vector Entry 24} {e : EntryIdx}
    (h : (s.entry e).Evolves es[e]) (k : StationIdx) :
    State.coversStation { s with entries := es } e k = s.coversStation e k :=
  congrArg ((s.bst k).defined && ·) (State.coversTip_of_entries h _)

theorem State.carriesBreaker_of_entries {s : State} {es : Vector Entry 24} {e : EntryIdx}
    (h : (s.entry e).Evolves es[e]) : State.carriesBreaker { s with entries := es } e = s.carriesBreaker e := by
  change (es[e].inUse && es[e].maskBreaker) = _
  rw [h.inUse, h.maskBreaker]
  rfl

theorem State.coversStation_of_stations {s : State} {ks : Vector Station 4} {k : StationIdx}
    (h : (s.bst k).Evolves ks[k]) (e : EntryIdx) :
    State.coversStation { s with stations := ks } e k = s.coversStation e k := by
  change (ks[k].defined && State.coversTip { s with stations := ks } e ks[k].tip) = _
  rw [h.defined, h.tip]
  rfl

/-! ## What has been seen -/

/-- Every entry that awaits its settling test is to be tested in this event, or is one of `X`. -/
def Event.Seen (X : EntryIdx → Prop) (ev : Event) : Prop :=
  ∀ e, ev.st.awaits e = true → e ∈ ev.touched ∨ X e

theorem Event.Seen.of_hardens {X : EntryIdx → Prop} {a b : Event} (h : a.Seen X)
    (hs : ∀ e, e ∈ b.touched ∨ X e ∨ a.st.HardensAt b.st e)
    (ht : ∀ e ∈ a.touched, e ∈ b.touched) : b.Seen X := by
  intro e he
  rcases hs e with hs | hs | hs
  · exact .inl hs
  · exact .inr hs
  · exact (h e (hs.awaits he)).imp_left (ht e)

/-- A change that reaches no plant, no entry and no line leaves every settling test as it was. -/
theorem Event.Seen.of_awaits {X : EntryIdx → Prop} {a b : Event} (h : a.Seen X)
    (hs : ∀ e, b.st.awaits e = a.st.awaits e) (ht : ∀ e ∈ a.touched, e ∈ b.touched) : b.Seen X := by
  intro e he
  rw [hs] at he
  exact (h e he).imp_left (ht e)

/-- Once the exceptions are touched there is none. -/
theorem Event.Seen.touch {X Y : EntryIdx → Prop} {ev : Event} (es : List EntryIdx) (h : ev.Seen Y)
    (hY : ∀ e, Y e → e ∈ es ∨ X e) : (ev.touch es).Seen X := by
  intro e he
  simp only [Event.touch_touched, List.mem_append]
  rcases h e he with h | h
  · exact .inl (.inr h)
  · exact (hY e h).imp_left .inl

theorem Event.seen_touchAll {X : EntryIdx → Prop} (ev : Event) : ev.touchAll.Seen X :=
  fun e _ => .inl (by simp [Event.touchAll])

theorem Event.Seen.mono {X Y : EntryIdx → Prop} {ev : Event} (h : ev.Seen X) (hXY : ∀ e, X e → Y e) :
    ev.Seen Y := fun e he => (h e he).imp_right (hXY e)

/-! ## Changes that harden -/

theorem State.HardensAt.tips {s : State} {ts : Vector Tip 16} {e : EntryIdx}
    (h : ∀ t : TipIdx, ts[t].defined = (s.tip t).defined ∧ ts[t].pass = (s.tip t).pass
      ∧ ts[t].elevation = (s.tip t).elevation)
    (hg : ∀ t : TipIdx, s.coversTip e t = true → (s.tip t).state = .granted → ts[t].state = .granted) :
    s.HardensAt { s with tips := ts } e where
  inUse := id
  state := id
  chute _ hc := ⟨hc, id⟩
  tip i hc := ⟨(State.coversTip_of_tips (h i).1 (h i).2.1 (h i).2.2 e).trans hc, hg i hc⟩
  breaker hb := ⟨hb, id⟩
  station k hk := by
    refine ⟨Eq.trans (congrArg ((s.bst k).defined && ·) ?_) hk, id⟩
    exact State.coversTip_of_tips (h _).1 (h _).2.1 (h _).2.2 e

theorem State.HardensAt.chutes {s : State} {cs : Vector Chute 8} {e : EntryIdx}
    (h : ∀ c : ChuteIdx, Chute.Evolves s c (s.chute c) cs[c])
    (hc : ∀ c : ChuteIdx, s.coversChute e c = true → cs[c].state = .closed → (s.chute c).state = .closed) :
    s.HardensAt { s with chutes := cs } e where
  inUse := id
  state := id
  chute c hcov := by
    refine ⟨(State.coversChute_of_chutes (h c).defined (h c).pass (h c).elevation e).trans hcov, ?_⟩
    simp only [State.chuteSafe, Bool.and_eq_true, decide_eq_true_eq]
    exact fun hsafe => ⟨hc c hcov hsafe.1, hsafe.2⟩
  tip _ ht := ⟨ht, id⟩
  breaker hb := ⟨hb, id⟩
  station _ hk := ⟨hk, id⟩

theorem State.HardensAt.entries {s : State} {es : Vector Entry 24} {e : EntryIdx}
    (h : (s.entry e).Evolves es[e]) : s.HardensAt { s with entries := es } e where
  inUse := fun hu => h.inUse ▸ hu
  state := h.state.mpr
  chute c hcov := ⟨(State.coversChute_of_entries h c).trans hcov, id⟩
  tip t hcov := ⟨(State.coversTip_of_entries h t).trans hcov, id⟩
  breaker hb := ⟨(State.carriesBreaker_of_entries h).trans hb, id⟩
  station k hk := ⟨(State.coversStation_of_entries h k).trans hk, id⟩

theorem State.HardensAt.stations {s : State} {ks : Vector Station 4} {e : EntryIdx}
    (h : ∀ k : StationIdx, (s.bst k).Evolves ks[k]) : s.HardensAt { s with stations := ks } e where
  inUse := id
  state := id
  chute _ hc := ⟨hc, id⟩
  tip _ ht := ⟨ht, id⟩
  breaker hb := ⟨hb, id⟩
  station k hk := ⟨(State.coversStation_of_stations (h k) e).trans hk, id⟩

theorem State.HardensAt.modBreaker {s : State} {b : Breaker} {e : EntryIdx}
    (hp : b.state = .parked → s.breaker.state = .parked)
    (hk : ∀ k, s.breakerAt k = true → State.breakerAt { s with breaker := b } k = true) :
    s.HardensAt { s with breaker := b } e where
  inUse := id
  state := id
  chute _ hc := ⟨hc, id⟩
  tip _ ht := ⟨ht, id⟩
  breaker hb := ⟨hb, hp⟩
  station k hcov := ⟨hcov, hk k⟩

/-- Only the bindings and the levels of closed limits matter to a settling test. -/
theorem State.HardensAt.lines {s : State} {ls : Vector Line 48} {db : Vector Nat 6} {e : EntryIdx}
    (h : ∀ c, s.coversChute e c = true →
      State.closedHigh { s with lines := ls, debounce := db } c = true → s.closedHigh c = true) :
    s.HardensAt { s with lines := ls, debounce := db } e where
  inUse := id
  state := id
  chute c hcov := by
    refine ⟨hcov, ?_⟩
    simp only [State.chuteSafe, Bool.and_eq_true, decide_eq_true_eq]
    exact fun hsafe => ⟨hsafe.1, h c hcov hsafe.2⟩
  tip _ ht := ⟨ht, id⟩
  breaker hb := ⟨hb, id⟩
  station _ hk := ⟨hk, id⟩

theorem State.HardensAt.refl (s : State) (e : EntryIdx) : s.HardensAt s e :=
  ⟨id, id, fun _ h => ⟨h, id⟩, fun _ h => ⟨h, id⟩, fun h => ⟨h, id⟩, fun _ h => ⟨h, id⟩⟩

theorem State.HardensAt.trans {s t u : State} {e : EntryIdx} (h : s.HardensAt t e) (h' : t.HardensAt u e) :
    s.HardensAt u e where
  inUse := h.inUse ∘ h'.inUse
  state := h'.state ∘ h.state
  chute c hc := ⟨(h'.chute c (h.chute c hc).1).1, (h.chute c hc).2 ∘ (h'.chute c (h.chute c hc).1).2⟩
  tip i hi := ⟨(h'.tip i (h.tip i hi).1).1, (h'.tip i (h.tip i hi).1).2 ∘ (h.tip i hi).2⟩
  breaker hb := ⟨(h'.breaker (h.breaker hb).1).1, (h.breaker hb).2 ∘ (h'.breaker (h.breaker hb).1).2⟩
  station k hk := ⟨(h'.station k (h.station k hk).1).1,
    (h'.station k (h.station k hk).1).2 ∘ (h.station k hk).2⟩

end Sys2Proof.Machine
end

section
/-! How each change of a record evolves it (chapters 1 to 7). -/

namespace Sys2Proof.Machine

/-! ## Passes -/

theorem Pass.lawful_iff {q : Pass} : q.lawful = true ↔
    q.capacity = capacityOf q.profile ∧ q.capacity ≤ 600000 ∧ q.e ≤ q.capacity ∧ q.tipLimit ≤ q.capacity
      ∧ q.cushion ≤ q.tipLimit ∧ q.r ≤ 16777215 ∧ q.d ≤ 16777215 ∧ (q.state = .running ∨ q.d = 0)
      ∧ (q.known = true ∨ q.state ≠ .running ∧ q.state ≠ .hung) := by
  simp only [Pass.lawful, Bool.and_eq_true, Bool.or_eq_true, decide_eq_true_eq, and_assoc]

/-- A change of what a pass's law does not read. -/
theorem Pass.Evolves.conds (q : Pass) (c : CondSet) : q.Evolves { q with conds := c } :=
  ⟨rfl, rfl, rfl, id, id, .rfl, id⟩

theorem satVolume_le (v : Nat) : satVolume v ≤ 16777215 := Nat.min_le_right ..

theorem Pass.Evolves.credit (load : Nat) (q : Pass) : q.Evolves (q.credit load) where
  defined := by simp
  waiting := by simp
  reserved := by simp
  hung := by simp
  running := by simp
  service := by simp
  lawful := by
    unfold Pass.credit
    split
    case isFalse => exact id
    case isTrue =>
      have := satVolume_le (q.r + load)
      simp only [Pass.lawful_iff]
      rintro ⟨h1, h2, h3, h4, h5, h6, h7, h8, h9⟩
      refine ⟨h1, h2, Nat.min_le_right .., h4, h5, ?_, h7, h8, h9⟩
      split <;> assumption

theorem Pass.Evolves.debit (volume : Nat) (q : Pass) : q.Evolves (q.debit volume) where
  defined := by simp
  waiting := by simp
  reserved := by simp
  hung := by simp
  running := by simp
  service := by simp
  lawful := by
    unfold Pass.debit
    split
    case isFalse => exact id
    case isTrue =>
      have := satVolume_le (q.d + volume)
      simp only [Pass.lawful_iff]
      rintro ⟨h1, h2, h3, h4, h5, h6, h7, h8, h9⟩
      refine ⟨h1, h2, (Nat.sub_le ..).trans h3, h4, h5, h6, ?_, ?_, h9⟩
      · split <;> assumption
      · rcases h8 with h8 | h8
        · exact .inl h8
        · by_cases hr : q.state = .running
          · exact .inl hr
          · exact .inr (by simp [hr, h8])

theorem Pass.Evolves.setFill (volume : Nat) (q : Pass) : q.Evolves (q.setFill volume) where
  defined := rfl
  waiting := rfl
  reserved := rfl
  hung := by unfold Pass.setFill; cases q.state <;> simp
  running := by unfold Pass.setFill; cases q.state <;> simp
  service := by unfold Pass.setFill; cases q.state <;> simp
  lawful := by
    simp only [Pass.setFill, Pass.lawful_iff]
    rintro ⟨h1, h2, -, h4, h5, -, -, -, -⟩
    exact ⟨h1, h2, Nat.min_le_right .., h4, h5, by omega, by omega, .inr trivial, .inl trivial⟩

/-- A HUNG pass is cleared (R20). -/
theorem Pass.Evolves.clearHang {q : Pass} (h : q.state = .hung) : q.Evolves { q with state := .running, d := 0 } where
  defined := rfl
  waiting := rfl
  reserved := rfl
  hung := by simp
  running := by simp
  service := by simp [h]
  lawful := by
    simp only [Pass.lawful_iff]
    rintro ⟨h1, h2, h3, h4, h5, h6, -, -, h9⟩
    exact ⟨h1, h2, h3, h4, h5, h6, by omega, .inl trivial, .inl (by simpa [h] using h9)⟩

theorem Pass.Evolves.tune (tipLimit cushion hang shift disagreement stale : Nat) (q : Pass) :
    q.Evolves (q.tune tipLimit cushion hang shift disagreement stale) where
  defined := rfl
  waiting := rfl
  reserved := rfl
  hung := id
  running := id
  service := .rfl
  lawful := by
    simp only [Pass.tune, Pass.lawful_iff]
    rintro ⟨h1, h2, h3, -, -, h⟩
    exact ⟨h1, h2, h3, Nat.min_le_right .., Nat.min_le_right .., h⟩

theorem blend_le (k capacity e m : Nat) : blend k capacity e m ≤ capacity := by
  unfold blend
  split <;> exact Nat.min_le_right ..

/-- A measurement within the capacity keeps a pass's law, in every state it finds the pass in (R11 to R16). -/
theorem Pass.measure_lawful {m : Nat} {q : Pass} (hm : m ≤ capacityOf q.profile) (h : q.lawful = true) :
    (q.measure m).lawful = true := by
  rw [Pass.lawful_iff] at h ⊢
  obtain ⟨h1, h2, h3, h4, h5, h6, h7, h8, h9⟩ := h
  rw [← h1] at hm
  have hr : m ≤ 16777215 := by omega
  have hb := blend_le q.blendShift q.capacity q.e m
  unfold Pass.measure
  split
  case h_1 => exact ⟨h1, h2, hm, h4, h5, hr, Nat.zero_le _, .inl rfl, .inl rfl⟩
  case h_2 hs =>
    have hk : q.known = true := by simpa [hs] using h9
    unfold Pass.measureRunning
    dsimp only
    split
    case isTrue => exact ⟨h1, h2, hb, h4, h5, hr, h7, h8, h9⟩
    case isFalse =>
      split
      case isTrue => exact ⟨h1, h2, hb, h4, h5, hr, Nat.zero_le _, .inr rfl, h9⟩
      case isFalse =>
        split
        case isTrue => exact ⟨h1, h2, hb, h4, h5, h6, h7, h8, h9⟩
        case isFalse => exact ⟨h1, h2, hm, h4, h5, hr, Nat.zero_le _, .inr rfl, .inl hk⟩
  case h_3 hs =>
    have hk : q.known = true := by simpa [hs] using h9
    have hd : q.d = 0 := by simpa [hs] using h8
    unfold Pass.measureHung
    split
    case isTrue => exact ⟨h1, h2, hm, h4, h5, hr, h7, .inl rfl, .inl hk⟩
    case isFalse => exact ⟨h1, h2, hm, h4, h5, h6, h7, .inr hd, .inl hk⟩
  case h_4 hs =>
    have hd : q.d = 0 := by simpa [hs] using h8
    unfold Pass.measureService
    split
    case isTrue => exact ⟨h1, h2, hb, h4, h5, h6, h7, h8, h9⟩
    case isFalse => exact ⟨h1, h2, hm, h4, h5, hr, h7, .inr hd, .inl rfl⟩

/-- The state a measurement makes: UNKNOWN runs, RUNNING runs on or hangs, HUNG hangs on or runs, service stays. -/
theorem Pass.measure_state (m : Nat) (q : Pass) :
    (q.state = .unknown ∧ (q.measure m).state = .running)
      ∨ (q.state = .running ∧ ((q.measure m).state = .running ∨ (q.measure m).state = .hung))
      ∨ (q.state = .hung ∧ ((q.measure m).state = .running ∨ (q.measure m).state = .hung))
      ∨ (q.state = .outOfService ∧ (q.measure m).state = .outOfService) := by
  unfold Pass.measure
  split
  case h_1 h => exact .inl ⟨h, rfl⟩
  case h_2 h =>
    refine .inr (.inl ⟨h, ?_⟩)
    unfold Pass.measureRunning
    dsimp only
    repeat' split
    all_goals simp [h]
  case h_3 h =>
    refine .inr (.inr (.inl ⟨h, ?_⟩))
    unfold Pass.measureHung
    split <;> simp [h]
  case h_4 h =>
    refine .inr (.inr (.inr ⟨h, ?_⟩))
    unfold Pass.measureService
    split <;> simp [h]

/-- A measurement that hangs nothing evolves its pass. -/
theorem Pass.Evolves.measure {m : Nat} {q : Pass} (hm : m ≤ capacityOf q.profile)
    (h : q.state = .running → (q.measure m).state ≠ .hung) : q.Evolves (q.measure m) where
  defined := by simp
  waiting := by simp
  reserved := by simp
  hung := fun hh => by rcases q.measure_state m with ⟨h1, h2⟩ | ⟨h1, -⟩ | ⟨h1, -⟩ | ⟨h1, h2⟩ <;> simp_all
  running := fun hr => by rcases q.measure_state m with ⟨h1, h2⟩ | ⟨h1, h2⟩ | ⟨h1, -⟩ | ⟨h1, h2⟩ <;> simp_all
  service := by rcases q.measure_state m with ⟨h1, h2⟩ | ⟨h1, h2 | h2⟩ | ⟨h1, h2 | h2⟩ | ⟨h1, h2⟩ <;> simp_all
  lawful := Pass.measure_lawful hm

/-! ## The measurement stays within the capacity -/

/-- The sum below a height never exceeds the whole of the profile. -/
theorem volumeSum_le (gs : List Segment) (base h : Nat) :
    volumeSum gs base h ≤ (gs.map fun g => g.area * g.height).sum := by
  induction gs generalizing base with
  | nil => exact le_rfl
  | cons g gs ih =>
    have hg : (if base + g.height ≤ h then g.area * g.height
        else if base < h then g.area * (h - base) else 0) ≤ g.area * g.height := by
      split
      · exact le_rfl
      · split
        · exact Nat.mul_le_mul_left _ (by omega)
        · exact Nat.zero_le _
    simpa [volumeSum] using Nat.add_le_add hg (ih (base + g.height))

theorem volumeAt_le (profile : List Segment) (h : Nat) : volumeAt profile h ≤ capacityOf profile :=
  Nat.div_le_div_right (volumeSum_le profile 0 h)

theorem formMeasurement_le {limit v1 n : Nat} {v2 : Option Nat} (h1 : v1 ≤ n) (h2 : ∀ v, v2 = some v → v ≤ n) :
    (formMeasurement limit v1 v2).1 ≤ n := by
  cases v2 with
  | none => exact h1
  | some v =>
    have := h2 v rfl
    simp only [formMeasurement]
    split
    · change (v1 + v) / 2 ≤ n
      omega
    · exact max_le h1 this

/-! ## Tip points -/

theorem Tip.Evolves.conds (x : Tip) (c : CondSet) : x.Evolves { x with conds := c } :=
  ⟨rfl, rfl, rfl, rfl, rfl, rfl, id⟩

theorem Tip.Evolves.tune (x : Tip) (timeout level : Nat) :
    x.Evolves { x with timeout := timeout, level := min level 7 } :=
  ⟨rfl, rfl, rfl, rfl, rfl, rfl, fun _ => Nat.min_le_right ..⟩

/-! ## Chutes -/

theorem Chute.lawful_iff {x : Chute} : x.lawful = true ↔
    (x.holdTimer.isSome = true ↔ x.state = .holding) ∧ (x.nudgeTimer.isSome = true ↔ x.state = .nudging)
      ∧ (x.state = .opening → x.strokeTimer.isSome = true)
      ∧ (x.strokeTimer.isSome = true → x.state = .opening ∨ x.state = .closing ∨ x.state = .reclosing)
      ∧ (x.pendingProof.isSome = true ↔ x.state = .reclosing) ∧ (x.state = .holding → x.reachedOpen = true) := by
  unfold Chute.lawful
  cases x.holdTimer <;> cases x.nudgeTimer <;> cases x.strokeTimer <;> cases x.pendingProof <;> cases x.state <;>
    simp

/-- A change of a chute that leaves its cycle state, its place, its timers and what its law reads. -/
theorem Chute.Evolves.of_same {s : State} {c : ChuteIdx} {x y : Chute} (hd : y.defined = x.defined)
    (hp : y.pass = x.pass) (he : y.elevation = x.elevation) (hs : y.state = x.state)
    (hst : y.strokeTimer = x.strokeTimer) (hh : y.holdTimer = x.holdTimer) (hn : y.nudgeTimer = x.nudgeTimer)
    (hpp : y.pendingProof = x.pendingProof) (hr : y.reachedOpen = x.reachedOpen)
    (hx : y.staleExpiry = true → x.staleExpiry = true) : Chute.Evolves s c x y where
  defined := hd
  pass := hp
  elevation := he
  lawful := by simp only [Chute.lawful, hs, hst, hh, hn, hpp, hr, imp_self]
  starts h := .inl (hs ▸ h)
  leaves h := .inl (hs.trans h)
  stale h := .inl (hx h)

/-- A gate sent CLOSING from OPENING or HOLDING (R86, R90, R93). -/
theorem Chute.Evolves.close {s : State} {c : ChuteIdx} {x : Chute} (hx : x.state = .opening ∨ x.state = .holding)
    {w : Bool} (hw : w = true → s.waitsNext (.strokeTimerExpiry c) = true) :
    Chute.Evolves s c x { x.close with staleExpiry := w } where
  defined := rfl
  pass := rfl
  elevation := rfl
  lawful := by
    simp only [Chute.lawful_iff, Chute.close]
    rintro ⟨-, h2, -, -, h5, -⟩
    refine ⟨by simp, ?_, by simp, by simp, ?_, by simp⟩
    · rcases hx with hx | hx <;> simpa [hx] using h2
    · rcases hx with hx | hx <;> simpa [hx] using h5
  starts h := by simp [Chute.close, CycleState.moving] at h
  leaves h := by rcases hx with hx | hx <;> simp [hx] at h
  stale h := .inr (hw h)

/-- A proof is finalised in CLOSED from NUDGING or RECLOSING (R149). -/
theorem Chute.Evolves.finalise {s : State} {c : ChuteIdx} {x : Chute}
    (hx : x.state = .nudging ∨ x.state = .reclosing) (result : NudgeResult) :
    Chute.Evolves s c x (x.finalise result) where
  defined := rfl
  pass := rfl
  elevation := rfl
  lawful := by
    simp only [Chute.lawful_iff, Chute.finalise]
    rintro ⟨h1, -, -, -, -, -⟩
    refine ⟨?_, by simp, by simp, by simp, by simp, by simp⟩
    rcases hx with hx | hx <;> simpa [hx] using h1
  starts h := by simp [Chute.finalise, CycleState.moving] at h
  leaves _ := .inl rfl
  stale := .inl

/-- A gate recloses from NUDGING (R147, R150). -/
theorem Chute.Evolves.reclose {s : State} {c : ChuteIdx} {x : Chute} (hx : x.state = .nudging)
    (result : NudgeResult) : Chute.Evolves s c x { x with
      state := .reclosing, nudgeTimer := none, pendingProof := some result, strokeTimer := some x.strokeTime } where
  defined := rfl
  pass := rfl
  elevation := rfl
  lawful := by
    simp only [Chute.lawful_iff]
    rintro ⟨h1, -, -, -, -, -⟩
    exact ⟨by simpa [hx] using h1, by simp, by simp, by simp, by simp, by simp⟩
  starts h := by simp [CycleState.moving] at h
  leaves h := by simp [hx] at h
  stale := .inl

/-- A gate on its open limit holds (R85). -/
theorem Chute.Evolves.hold {s : State} {c : ChuteIdx} {x : Chute} (hx : x.state = .opening) :
    Chute.Evolves s c x { x with
      state := .holding, strokeTimer := none, reachedOpen := true, holdTimer := some x.holdTime
      staleExpiry := false } where
  defined := rfl
  pass := rfl
  elevation := rfl
  lawful := by
    simp only [Chute.lawful_iff]
    rintro ⟨-, h2, -, -, h5, -⟩
    exact ⟨by simp, by simpa [hx] using h2, by simp, by simp, by simpa [hx] using h5, by simp⟩
  starts _ := .inl (by simp [hx, CycleState.moving])
  leaves h := by simp [hx] at h
  stale h := by simp at h

/-- A gate on its seat again ends its cycle (R88). -/
theorem Chute.Evolves.seat {s : State} {c : ChuteIdx} {x : Chute} (hx : x.state = .closing) :
    Chute.Evolves s c x { x with state := .closed, strokeTimer := none, reachedOpen := false } where
  defined := rfl
  pass := rfl
  elevation := rfl
  lawful := by
    simp only [Chute.lawful_iff]
    rintro ⟨h1, h2, -, -, h5, -⟩
    exact ⟨by simpa [hx] using h1, by simpa [hx] using h2, by simp, by simp, by simpa [hx] using h5, by simp⟩
  starts h := by simp [CycleState.moving] at h
  leaves h := by simp [hx] at h
  stale := .inl

/-- A cycle or a nudge starts in RUN, on a pass that is not HUNG, at a chute no entry covers (R84, R146). -/
theorem Chute.Evolves.start {s : State} {c : ChuteIdx} {x : Chute} (hx : x.state = .closed)
    (hm : s.station.mode = .run) (hp : (s.pass x.pass).state ≠ .hung) (hc : s.chuteCovered c = false) :
    Chute.Evolves s c x x.startCycle where
  defined := rfl
  pass := rfl
  elevation := rfl
  lawful := by
    simp only [Chute.lawful_iff, Chute.startCycle]
    rintro ⟨h1, h2, -, -, h5, -⟩
    exact ⟨by simpa [hx] using h1, by simpa [hx] using h2, by simp, by simp, by simpa [hx] using h5, by simp⟩
  starts _ := .inr ⟨hm, hp⟩
  leaves _ := .inr hc
  stale := .inl

theorem Chute.Evolves.nudge {s : State} {c : ChuteIdx} {x : Chute} (hx : x.state = .closed)
    (hm : s.station.mode = .run) (hp : (s.pass x.pass).state ≠ .hung) (hc : s.chuteCovered c = false) :
    Chute.Evolves s c x x.nudge where
  defined := rfl
  pass := rfl
  elevation := rfl
  lawful := by
    simp only [Chute.lawful_iff, Chute.nudge]
    rintro ⟨h1, -, h3, h4, -, -⟩
    exact ⟨by simpa [hx] using h1, by simp, by simp, by simpa [hx] using h4, by simp, by simp⟩
  starts _ := .inr ⟨hm, hp⟩
  leaves _ := .inr hc
  stale := .inl

theorem Chute.Evolves.trans {s t : State} {c : ChuteIdx} {x y z : Chute} (h : Chute.Evolves s c x y)
    (h' : Chute.Evolves t c y z) (hm : t.station.mode = s.station.mode)
    (hp : (t.pass x.pass).state = (s.pass x.pass).state)
    (hc : t.chuteCovered c = false → s.chuteCovered c = false) (hq : t.pending = s.pending) :
    Chute.Evolves s c x z where
  defined := h'.defined.trans h.defined
  pass := h'.pass.trans h.pass
  elevation := h'.elevation.trans h.elevation
  lawful := h'.lawful ∘ h.lawful
  starts hz := by
    rcases h'.starts hz with hy | ⟨h1, h2⟩
    · exact h.starts hy
    · exact .inr ⟨hm ▸ h1, by rw [h.pass, hp] at h2; exact h2⟩
  leaves hx := by
    rcases h.leaves hx with hy | hy
    · exact (h'.leaves hy).imp_right hc
    · exact .inr hy
  stale hz := by
    rcases h'.stale hz with hy | hy
    · exact h.stale hy
    · exact .inr (by rwa [State.waitsNext_congr hq] at hy)

/-- A start try evolves its chute: it starts a cycle only where every test passes (R82, R84). -/
theorem Change.startTry (s : State) (c : ChuteIdx) : s.startTry c = s ∨ Change s (s.startTry c) := by
  rcases s.startTry_cases c with h | ⟨-, -, hr, ⟨-, h⟩ | ⟨-, -, h⟩ | ⟨-, -, h⟩⟩
  · exact .inl h
  · rw [h]
    exact .inr (.modChute c (.of_same rfl rfl rfl rfl rfl rfl rfl rfl rfl id))
  · rw [h]
    exact .inr (.modChute c (.of_same rfl rfl rfl rfl rfl rfl rfl rfl rfl id))
  · rw [h]
    simp only [State.startReady, State.chuteSafe, Bool.and_eq_true, Bool.not_eq_true', decide_eq_true_eq] at hr
    obtain ⟨⟨⟨⟨⟨⟨hsafe, -⟩, -⟩, -⟩, hm⟩, hp⟩, hc⟩ := hr
    exact .inr (.modChute c (.start hsafe.1 hm (by simp [hp]) hc))

/-! ## Entries -/

theorem Entry.lawful_iff_of_inUse {x : Entry} (h : x.inUse = true) : x.lawful = true ↔
    1 ≤ x.holders.length ∧ x.holders.length ≤ 4 ∧ x.holders.Nodup ∧ (∀ tag ∈ x.holders, 1 ≤ tag ∧ tag ≤ 65534)
      ∧ (x.timer.isSome = true ↔ x.state = .pending) ∧ x.breaches ≤ 255 := by
  have ht : (x.timer.isSome == decide (x.state = .pending)) = true
      ↔ (x.timer.isSome = true ↔ x.state = .pending) := by
    cases x.timer <;> simp
  simp only [Entry.lawful, h, if_true, Bool.and_eq_true, decide_eq_true_eq, List.all_eq_true, ht, and_assoc]

theorem Entry.lawful_iff_of_free {x : Entry} (h : x.inUse = false) : x.lawful = true ↔ x = Entry.reset := by
  simp [Entry.lawful, h]

/-- A breach at an entry in use, or acknowledged conditions, leave what an entry's law reads but the count. -/
theorem Entry.Evolves.of_inUse {x y : Entry} (hu : x.inUse = true) (hu' : y.inUse = x.inUse) (hk : y.kind = x.kind)
    (hp : y.pass = x.pass) (hl : y.low = x.low) (hh : y.high = x.high) (ht : y.maskTips = x.maskTips)
    (hc : y.maskChutes = x.maskChutes) (hb : y.maskBreaker = x.maskBreaker)
    (hs : y.state = .inForce ↔ x.state = .inForce)
    (hlaw : 1 ≤ x.holders.length ∧ x.holders.length ≤ 4 ∧ x.holders.Nodup
        ∧ (∀ tag ∈ x.holders, 1 ≤ tag ∧ tag ≤ 65534) ∧ (x.timer.isSome = true ↔ x.state = .pending)
        ∧ x.breaches ≤ 255 →
      1 ≤ y.holders.length ∧ y.holders.length ≤ 4 ∧ y.holders.Nodup
        ∧ (∀ tag ∈ y.holders, 1 ≤ tag ∧ tag ≤ 65534) ∧ (y.timer.isSome = true ↔ y.state = .pending)
        ∧ y.breaches ≤ 255) : x.Evolves y where
  inUse := hu'
  kind := hk
  pass := hp
  low := hl
  high := hh
  maskTips := ht
  maskChutes := hc
  maskBreaker := hb
  state := hs
  lawful := by
    rw [Entry.lawful_iff_of_inUse hu, Entry.lawful_iff_of_inUse (hu'.trans hu)]
    exact hlaw

theorem Entry.Evolves.breach (cause : BreachCause) (actuator : Nat) {x : Entry} (hu : x.inUse = true) :
    x.Evolves (x.breach cause actuator) := by
  refine .of_inUse hu rfl rfl rfl rfl rfl rfl rfl rfl .rfl ?_
  rintro ⟨h1, h2, h3, h4, h5, -⟩
  exact ⟨h1, h2, h3, h4, h5, Nat.min_le_right ..⟩

theorem Entry.Evolves.acknowledge (set : CondSet) (x : Entry) : x.Evolves (x.acknowledge set) where
  inUse := rfl
  kind := rfl
  pass := rfl
  low := rfl
  high := rfl
  maskTips := rfl
  maskChutes := rfl
  maskBreaker := rfl
  state := .rfl
  lawful := by
    cases hu : x.inUse with
    | true =>
      rw [Entry.lawful_iff_of_inUse hu, Entry.lawful_iff_of_inUse (x := x.acknowledge set) hu]
      exact id
    | false =>
      rw [Entry.lawful_iff_of_free hu, Entry.lawful_iff_of_free (x := x.acknowledge set) hu]
      rintro rfl
      simp [Entry.acknowledge, Entry.reset, acknowledged]

end Sys2Proof.Machine
end

section
/-! How each move of the breaker evolves it (chapter 5), and the choices of the scanner (R34, R35). -/

namespace Sys2Proof.Machine

/-! ## The scanner -/

theorem State.scannerLawful_iff {s : State} : s.scannerLawful = true ↔
    (s.scanner.converting = false → ∀ ch, s.enabled ch = false) := by
  simp only [State.scannerLawful, Bool.or_eq_true, List.all_eq_true, List.mem_finRange, true_imp_iff,
    Bool.not_eq_true', or_iff_not_imp_left, Bool.not_eq_true]

theorem mem_walkFrom (position ch : ChannelIdx) : ch ∈ walkFrom position := by
  revert position ch
  decide

/-- A choice of the next conversion finds a channel wherever one is enabled (R34). -/
theorem State.chooseConversion_lawful (s : State) : s.chooseConversion.scannerLawful = true := by
  rw [State.scannerLawful_iff]
  unfold State.chooseConversion
  split
  case h_1 => intro h; cases h
  case h_2 hnone =>
    intro _ ch
    exact Bool.not_eq_true _ ▸ List.find?_eq_none.mp hnone ch (mem_walkFrom _ ch)

/-- Only the enabled channels of an idle scanner matter to its law. -/
theorem State.scannerLawful_congr {s t : State} (hs : t.scanner = s.scanner) (he : ∀ ch, t.enabled ch = s.enabled ch) :
    t.scannerLawful = s.scannerLawful := by
  simp only [State.scannerLawful, hs, he]

theorem State.wakeScanner_lawful (s : State) : s.wakeScanner.scannerLawful = true := by
  unfold State.wakeScanner
  split
  case isTrue h => simp [State.scannerLawful, h]
  case isFalse => exact s.chooseConversion_lawful

/-! ## The breaker's law -/

theorem Breaker.timed_iff {b : Breaker} : b.timed = true ↔
    (b.travelTimer.isSome = true ↔ b.state = .travelling) ∧ (b.breakTimer.isSome = true ↔ b.state = .breaking)
      ∧ (b.returnTimer.isSome = true ↔ b.state = .returning ∧ b.returnOverdue = false)
      ∧ (b.returnOverdue = true → b.state = .returning) := by
  unfold Breaker.timed
  cases b.travelTimer <;> cases b.breakTimer <;> cases b.returnTimer <;> cases b.returnOverdue <;> cases b.state <;>
    simp

/-- The jobs a breaker holds, the current one first. -/
def Breaker.held (b : Breaker) : List Job := b.current.toList ++ b.jobs

/-- The job is for a defined station, at a level 1–7 (R105). -/
def State.jobFits (s : State) (j : Job) : Prop := (s.bst j.station).defined = true ∧ 1 ≤ j.level ∧ j.level ≤ 7

theorem State.jobsLawful_iff {s : State} : s.jobsLawful = true ↔
    (s.breaker.held.map Job.station).Nodup ∧ s.breaker.current.isSome = s.breaker.state.goes
      ∧ ∀ j ∈ s.breaker.held, s.jobFits j := by
  simp only [State.jobsLawful, Breaker.held, State.jobFits, Bool.and_eq_true, decide_eq_true_eq, beq_iff_eq,
    List.all_eq_true, and_assoc]

theorem BreakerState.goes_iff {b : BreakerState} : b.goes = true ↔ b = .travelling ∨ b = .breaking := by
  cases b <;> simp [BreakerState.goes]

theorem State.breakerAt_iff {s : State} {k : StationIdx} : s.breakerAt k = true ↔
    s.breaker.state.goes = true ∧ ∃ j, s.breaker.current = some j ∧ j.station = k := by
  simp only [State.breakerAt, Bool.and_eq_true, decide_eq_true_eq, BreakerState.goes_iff, Option.any_eq_true]

theorem State.startable_iff {s : State} {j : Job} : s.startable j = true ↔
    s.station.mode = .run ∧ s.effectiveFloor < j.level ∧ s.breakerCovered = false
      ∧ s.stationCovered j.station = false := by
  simp only [State.startable, Bool.and_eq_true, decide_eq_true_eq, Bool.not_eq_true', and_assoc]

/-- A breaker that keeps its state, current job, list and timers. -/
theorem State.BreakerEvolves.of_same {s : State} {b : Breaker} (hs : b.state = s.breaker.state)
    (hc : b.current = s.breaker.current) (hj : b.jobs = s.breaker.jobs) (ht : s.breaker.timed = true → b.timed = true) :
    s.BreakerEvolves b where
  timed := ht
  starts h := .inl (hs ▸ h)
  reaches k := by
    simp only [State.breakerAt_iff, hs, hc]
    exact .inl
  leaves h := .inl (hs.trans h)
  jobs _ := by
    simp only [State.jobsLawful_iff, Breaker.held, hs, hc, hj]
    exact id

/-- A breaker that changes its list alone. -/
theorem State.BreakerEvolves.of_list {s : State} {jobs : List Job} {counter : Nat}
    (hj : s.levelsLawful = true → s.jobsLawful = true →
      ((s.breaker.current.toList ++ jobs).map Job.station).Nodup
        ∧ ∀ j ∈ s.breaker.current.toList ++ jobs, s.jobFits j) :
    s.BreakerEvolves { s.breaker with jobs := jobs, counter := counter } where
  timed := id
  starts := .inl
  reaches _ := .inl
  leaves := .inl
  jobs hl h := State.jobsLawful_iff.mpr ⟨(hj hl h).1, (State.jobsLawful_iff.mp h).2.1, (hj hl h).2⟩

/-- An arriving job merged into the list (R105). -/
theorem State.BreakerEvolves.merge {s : State} (k : StationIdx) {level : Nat}
    (hlevel : s.levelsLawful = true → 1 ≤ level ∧ level ≤ 7) :
    s.BreakerEvolves (s.breaker.merge k level) := by
  refine .of_list fun hl h => ?_
  obtain ⟨hn, -, hf⟩ := State.jobsLawful_iff.mp h
  have hmap : ((s.breaker.jobs.map fun j => if j.station = k then { j with level := max j.level level } else j).map
      Job.station) = s.breaker.jobs.map Job.station := by
    simp only [List.map_map, List.map_inj_left, Function.comp]
    intro j _
    split <;> rfl
  refine ⟨?_, ?_⟩
  · rw [List.map_append, hmap, ← List.map_append]
    exact hn
  · intro j hj
    simp only [List.mem_append, List.mem_map] at hj
    rcases hj with hj | ⟨i, hi, rfl⟩
    · exact hf j (by simp [Breaker.held, hj])
    · have hfit := hf i (by simp [Breaker.held, hi])
      split
      · exact ⟨hfit.1, by have := hfit.2.1; simp; omega, max_le hfit.2.2 (hlevel hl).2⟩
      · exact hfit

theorem State.disposition_listed {s : State} {k : StationIdx} (h : s.disposition k = .listed) :
    ∀ j ∈ s.breaker.held, j.station ≠ k := by
  unfold State.disposition at h
  split at h
  · cases h
  · split at h
    · cases h
    · rename_i h1 h2
      intro j hj
      simp only [Breaker.held, List.mem_append, Option.mem_toList] at hj
      rcases hj with hj | hj
      · simpa [hj] using h1
      · simp only [List.any_eq_true, decide_eq_true_eq, not_exists, not_and] at h2
        exact h2 j hj

/-- An arriving job listed at the tail (R105). -/
theorem State.BreakerEvolves.list {s : State} {k : StationIdx} {level : Nat} (origin : Origin)
    (hk : (s.bst k).defined = true) (hlevel : s.levelsLawful = true → 1 ≤ level ∧ level ≤ 7)
    (hd : s.disposition k = .listed) : s.BreakerEvolves (s.breaker.list k level origin) := by
  refine .of_list fun hl h => ?_
  obtain ⟨hn, -, hf⟩ := State.jobsLawful_iff.mp h
  have hnot := State.disposition_listed hd
  refine ⟨?_, ?_⟩
  · rw [← List.append_assoc, List.map_append]
    refine List.Nodup.append hn (by simp) ?_
    simp only [List.map_cons, List.map_nil, List.disjoint_singleton, List.mem_map, not_exists, not_and]
    exact hnot
  · intro j hj
    rw [← List.append_assoc, List.mem_append, List.mem_singleton] at hj
    rcases hj with hj | rfl
    · exact hf j hj
    · exact ⟨hk, hlevel hl⟩

/-- A startable job of the list is taken: by a PARKED breaker, or by a BREAKING one whose job has ended and may stand
in the list again (R112, R114). -/
theorem State.BreakerEvolves.take {s : State} {b : Breaker} {j : Job} (hj : j ∈ b.jobs)
    (hst : s.startable j = true)
    (htimed : s.breaker.timed = true → b.returnTimer = none ∧ b.returnOverdue = false)
    (hjobs : s.levelsLawful = true → s.jobsLawful = true →
      (b.jobs.map Job.station).Nodup ∧ ∀ i ∈ b.jobs, s.jobFits i) : s.BreakerEvolves (b.take j) where
  timed h := by
    obtain ⟨h1, h2⟩ := htimed h
    simp [Breaker.timed, Breaker.take, h1, h2]
  starts _ := .inr (State.startable_iff.mp hst).1
  reaches k h := by
    obtain ⟨-, i, hi, hk⟩ := State.breakerAt_iff.mp h
    cases hi
    exact .inr (hk ▸ (State.startable_iff.mp hst).2.2.2)
  leaves _ := .inr (State.startable_iff.mp hst).2.2.1
  jobs hl h := by
    obtain ⟨hn, hf⟩ := hjobs hl h
    have hperm : (j :: b.jobs.erase j).Perm b.jobs := (List.perm_cons_erase hj).symm
    exact State.jobsLawful_iff.mpr ⟨(hperm.map Job.station).nodup_iff.mpr hn, rfl,
      fun i hi => hf i (hperm.mem_iff.mp hi)⟩

/-- A working breaker goes home with these jobs left (R114 step 5, R116, R119, R120). -/
theorem State.BreakerEvolves.sendHome {s : State} {b : Breaker} (hgoes : s.breaker.state.goes = true)
    (htimed : s.breaker.timed = true → b.returnOverdue = false)
    (hjobs : s.levelsLawful = true → s.jobsLawful = true →
      (b.jobs.map Job.station).Nodup ∧ ∀ i ∈ b.jobs, s.jobFits i) : s.BreakerEvolves b.sendHome where
  timed h := by simp [Breaker.timed, Breaker.sendHome, htimed h]
  starts h := by simp [Breaker.sendHome, BreakerState.goes] at h
  reaches k h := by simp [State.breakerAt, Breaker.sendHome] at h
  leaves h := by simp [h, BreakerState.goes] at hgoes
  jobs hl h := State.jobsLawful_iff.mpr ⟨(hjobs hl h).1, rfl, (hjobs hl h).2⟩

theorem Breaker.returns_of_goes {b : Breaker} (h : b.timed = true) (hg : b.state.goes = true) :
    b.returnTimer = none ∧ b.returnOverdue = false := by
  obtain ⟨-, -, h3, h4⟩ := Breaker.timed_iff.mp h
  have hne : b.state ≠ .returning := by intro he; simp [he, BreakerState.goes] at hg
  refine ⟨?_, ?_⟩
  · rw [← Option.not_isSome_iff_eq_none, h3]
    exact fun h => hne h.1
  · by_contra h
    exact hne (h4 (by simpa using h))

/-- A breaker with no job in hand left, and this one's station listed again or not. -/
theorem State.relisted_jobs {s : State} {j : Job} (hj : s.breaker.current = some j) (high : Bool)
    (h : s.jobsLawful = true) : ((s.breaker.relisted high j).jobs.map Job.station).Nodup
      ∧ ∀ i ∈ (s.breaker.relisted high j).jobs, s.jobFits i := by
  obtain ⟨hn, -, hf⟩ := State.jobsLawful_iff.mp h
  simp only [Breaker.held, hj, Option.toList_some, List.singleton_append, List.map_cons, List.nodup_cons,
    List.mem_cons, forall_eq_or_imp] at hn hf
  cases high with
  | false => exact ⟨hn.2, hf.2⟩
  | true =>
    refine ⟨?_, ?_⟩
    · simp only [Breaker.relisted, if_true, Breaker.finished, Breaker.list, List.map_append, List.map_cons,
        List.map_nil]
      exact List.Nodup.append hn.2 (by simp) (by simpa using hn.1)
    · intro i hi
      simp only [Breaker.relisted, if_true, Breaker.finished, Breaker.list, List.mem_append,
        List.mem_singleton] at hi
      rcases hi with hi | rfl
      · exact hf.2 i hi
      · exact ⟨hf.1.1, hf.1.2⟩

/-- A BREAKING breaker whose job has ended moves on to a startable job of its list, or home (R114, R115). -/
theorem State.BreakerEvolves.chainOrReturn {s : State} {found : Option Job} {j : Job} (high : Bool)
    (hfound : ∀ i, found = some i → i ∈ s.breaker.jobs ∧ s.startable i = true)
    (hstate : s.breaker.state = .breaking) (hj : s.breaker.current = some j) :
    s.BreakerEvolves ((s.breaker.relisted high j).chainOrReturn found) := by
  have hgoes : s.breaker.state.goes = true := by simp [hstate, BreakerState.goes]
  have hjobs : s.levelsLawful = true → s.jobsLawful = true → _ := fun _ h => s.relisted_jobs hj high h
  cases found with
  | none =>
    refine .sendHome hgoes (fun h => ?_) hjobs
    cases high <;> exact (Breaker.returns_of_goes h hgoes).2
  | some i =>
    obtain ⟨hmem, hst⟩ := hfound i rfl
    refine .take ?_ hst (fun h => ?_) hjobs
    · cases high
      · exact hmem
      · exact List.mem_append_left _ hmem
    · have hr := Breaker.returns_of_goes h hgoes
      cases high <;> exact hr

/-- The breaker is in position (R113). -/
theorem State.BreakerEvolves.inPosition {s : State} (h : s.breaker.state = .travelling) (limit : Timer)
    (hlimit : limit.isSome = true) : s.BreakerEvolves { s.breaker with
      state := .breaking, travelTimer := none, breakTimer := limit } where
  timed ht := by
    obtain ⟨-, -, h3, h4⟩ := Breaker.timed_iff.mp ht
    exact Breaker.timed_iff.mpr ⟨by simp, by simp [hlimit], by simpa [h] using h3, by simpa [h] using h4⟩
  starts _ := .inl (by simp [h, BreakerState.goes])
  reaches k hk := by
    obtain ⟨-, j, hj⟩ := State.breakerAt_iff.mp hk
    exact .inl (State.breakerAt_iff.mpr ⟨by simp [h, BreakerState.goes], j, hj⟩)
  leaves hp := by simp [h] at hp
  jobs _ hl := by
    obtain ⟨h1, h2, h3⟩ := State.jobsLawful_iff.mp hl
    exact State.jobsLawful_iff.mpr ⟨h1, by simpa [h, BreakerState.goes] using h2, h3⟩

/-- The breaker is home again (R117). -/
theorem State.BreakerEvolves.park {s : State} (h : s.breaker.state = .returning) : s.BreakerEvolves { s.breaker with
    state := .parked, returnTimer := none, returnOverdue := false } where
  timed ht := by
    obtain ⟨h1, h2, -, -⟩ := Breaker.timed_iff.mp ht
    exact Breaker.timed_iff.mpr ⟨by simpa [h] using h1, by simpa [h] using h2, by simp, by simp⟩
  starts hg := by simp [BreakerState.goes] at hg
  reaches k hk := by simp [State.breakerAt] at hk
  leaves _ := .inl rfl
  jobs _ hl := by
    obtain ⟨h1, h2, h3⟩ := State.jobsLawful_iff.mp hl
    exact State.jobsLawful_iff.mpr ⟨h1, by simpa [h, BreakerState.goes] using h2, h3⟩

/-- The return timer has expired (R117). -/
theorem State.BreakerEvolves.overdue {s : State} (h : s.breaker.state = .returning) (c : CondSet) :
    s.BreakerEvolves { s.breaker with returnTimer := none, returnOverdue := true, conds := c } := by
  refine .of_same rfl rfl rfl fun ht => ?_
  obtain ⟨h1, h2, -, -⟩ := Breaker.timed_iff.mp ht
  exact Breaker.timed_iff.mpr ⟨h1, h2, by simp, fun _ => h⟩

/-! ## Breaker changes -/

/-- A change of the breaker that neither enters nor leaves BREAKING. -/
theorem Change.modBreaker {s : State} {f : Breaker → Breaker} (h : s.BreakerEvolves (f s.breaker))
    (hk : (f s.breaker).state = .breaking ↔ s.breaker.state = .breaking) : Change s (s.modBreaker f) := by
  refine .breaker (f s.breaker) s.scanner h fun hl => ?_
  have he (ch : ChannelIdx) : State.enabled { s with breaker := f s.breaker } ch = s.enabled ch := by
    change ((s.channel ch).defined && if (f s.breaker).state = .breaking then _ else _) = _
    simp only [hk]
    rfl
  exact (State.scannerLawful_congr (s := s) (t := { s with breaker := f s.breaker }) rfl he).trans hl

/-- A change of the breaker after which an idle scanner chooses anew (R35). -/
theorem Change.wokenBreaker {s : State} {f : Breaker → Breaker} (h : s.BreakerEvolves (f s.breaker)) :
    Change s (s.modBreaker f).wakeScanner := by
  have hl := (s.modBreaker f).wakeScanner_lawful
  rw [State.wakeScanner_eq] at hl ⊢
  exact .breaker (f s.breaker) _ h fun _ => hl

theorem Change.moveBreaker {ev : Event} {f : Breaker → Breaker}
    (h : ev.st.BreakerEvolves (f ev.st.breaker)) : Change ev.st (ev.moveBreaker f).st := by
  by_cases hk : ev.st.breaker.state = .breaking ↔ (f ev.st.breaker).state = .breaking
  · rw [Event.moveBreaker_of_keeps hk]
    exact .modBreaker h hk.symm
  · rw [Event.moveBreaker_of_switches hk]
    exact .wokenBreaker h

/-- A choice starts a startable job of a PARKED breaker (R112). -/
theorem Change.chooseJob (s : State) : s.chooseJob = s ∨ Change s s.chooseJob := by
  rcases s.chooseJob_cases with h | ⟨j, hp, hj, h⟩
  · exact .inl h
  · obtain ⟨hmem, hst⟩ := State.pickJob_mem hj
    rw [h]
    refine .inr (.modBreaker (.take hmem hst (fun ht => ?_) fun _ hl => ?_) (by simp [Breaker.take, hp]))
    · obtain ⟨-, -, h3, h4⟩ := Breaker.timed_iff.mp ht
      refine ⟨by simpa [hp] using h3, ?_⟩
      by_contra ho
      have := h4 (by simpa using ho)
      simp [hp] at this
    · obtain ⟨hn, hc, hf⟩ := State.jobsLawful_iff.mp hl
      have hcur : s.breaker.current = none := by simpa [hp, BreakerState.goes] using hc
      simp only [Breaker.held, hcur, Option.toList_none, List.nil_append] at hn hf
      exact ⟨hn, hf⟩

end Sys2Proof.Machine
end

section
/-! What each shared operation of an event is made of, and that it leaves no settled entry untested. -/

namespace Sys2Proof.Machine

/-- From `a` to `b` an event is made of stages, and misses no entry it must test. -/
structure Event.Runs (a b : Event) : Prop where
  stages : Stages a.st b.st
  seen : ∀ {X : EntryIdx → Prop}, a.Seen X → b.Seen X

theorem Event.Runs.refl (ev : Event) : ev.Runs ev := ⟨.refl, id⟩

theorem Event.Runs.trans {a b c : Event} (h : a.Runs b) (h' : b.Runs c) : a.Runs c :=
  ⟨h.stages.trans h'.stages, h'.seen ∘ h.seen⟩

/-- A step that triggers or touches more, and changes nothing. -/
theorem Event.Runs.trigger {a b : Event} (hst : b.st = a.st) (ht : ∀ e ∈ a.touched, e ∈ b.touched) : a.Runs b where
  stages := hst ▸ .refl
  seen h := h.of_awaits (fun _ => by rw [hst]) ht

theorem Event.Runs.triggerArbiter (p : PassIdx) (ev : Event) : ev.Runs (ev.triggerArbiter p) := .trigger rfl fun _ => id
theorem Event.Runs.triggerTries (cs : List ChuteIdx) (ev : Event) : ev.Runs (ev.triggerTries cs) :=
  .trigger rfl fun _ => id
theorem Event.Runs.triggerChoice (ev : Event) : ev.Runs ev.triggerChoice := .trigger rfl fun _ => id
theorem Event.Runs.touch (es : List EntryIdx) (ev : Event) : ev.Runs (ev.touch es) :=
  .trigger rfl fun _ h => by simp [h]
theorem Event.Runs.touchChute (c : ChuteIdx) (ev : Event) : ev.Runs (ev.touchChute c) := .touch _ ev
theorem Event.Runs.touchTip (t : TipIdx) (ev : Event) : ev.Runs (ev.touchTip t) := .touch _ ev
theorem Event.Runs.handOn (p : PassIdx) (ev : Event) : ev.Runs (ev.handOn p) := .trigger rfl fun _ => id
theorem Event.Runs.reportEnd (k : StationIdx) (ev : Event) : ev.Runs (ev.reportEnd k) := by
  rcases ev.reportEnd_cases k with h | ⟨t, -, -, h⟩
  · rw [h]; exact .refl ev
  · rw [h]; exact .triggerArbiter _ ev

/-- A change that touches every entry misses none. -/
theorem Event.Runs.touchAll {a b : Event} (h : Stages a.st b.st) : a.Runs b.touchAll :=
  ⟨h, fun _ => b.seen_touchAll⟩

/-- A change that lets nothing come nearer to its safe state needs no test. -/
theorem Event.Runs.update {f : State → State} {ev : Event} (h : Change ev.st (f ev.st))
    (hs : ∀ e, ev.st.HardensAt (f ev.st) e) : ev.Runs (ev.update f) where
  stages := h.stages
  seen hX := hX.of_hardens (fun e => .inr (.inr (hs e))) fun _ => id

theorem State.HardensAt.passes {s : State} (ps : Vector Pass 6) (e : EntryIdx) :
    s.HardensAt { s with passes := ps } e :=
  ⟨id, id, fun _ h => ⟨h, id⟩, fun _ h => ⟨h, id⟩, fun h => ⟨h, id⟩, fun _ h => ⟨h, id⟩⟩

theorem State.HardensAt.channels {s : State} (cs : Vector Channel 8) (sc : Scanner) (e : EntryIdx) :
    s.HardensAt { s with channels := cs, scanner := sc } e :=
  ⟨id, id, fun _ h => ⟨h, id⟩, fun _ h => ⟨h, id⟩, fun h => ⟨h, id⟩, fun _ h => ⟨h, id⟩⟩

theorem State.HardensAt.control {s : State} (x : StationControl) (e : EntryIdx) :
    s.HardensAt { s with station := x } e :=
  ⟨id, id, fun _ h => ⟨h, id⟩, fun _ h => ⟨h, id⟩, fun h => ⟨h, id⟩, fun _ h => ⟨h, id⟩⟩

theorem Event.Runs.modPass {ev : Event} (p : PassIdx) {f : Pass → Pass}
    (h : (ev.st.pass p).Evolves (f (ev.st.pass p))) : ev.Runs (ev.update (State.modPass p f)) :=
  .update (.modPass p h) fun e => .passes _ e

theorem State.modTip_hardensAt {s : State} {t : TipIdx} {f : Tip → Tip} {e : EntryIdx}
    (hd : (f (s.tip t)).defined = (s.tip t).defined) (hp : (f (s.tip t)).pass = (s.tip t).pass)
    (he : (f (s.tip t)).elevation = (s.tip t).elevation)
    (hg : s.coversTip e t = true → (s.tip t).state = .granted → (f (s.tip t)).state = .granted) :
    s.HardensAt (s.modTip t f) e := by
  refine .tips (ts := (s.modTip t f).tips) (fun i => ?_) fun i => ?_
  · change ((s.modTip t f).tip i).defined = _ ∧ ((s.modTip t f).tip i).pass = _
      ∧ ((s.modTip t f).tip i).elevation = _
    rw [State.modTip_tip]
    split
    case isTrue hi => subst hi; exact ⟨hd, hp, he⟩
    case isFalse => exact ⟨rfl, rfl, rfl⟩
  · change s.coversTip e i = true → (s.tip i).state = .granted → ((s.modTip t f).tip i).state = .granted
    rw [State.modTip_tip]
    split
    case isTrue hi => subst hi; exact hg
    case isFalse => exact fun _ => id

theorem Event.Runs.modTip {ev : Event} (t : TipIdx) {f : Tip → Tip}
    (h : (ev.st.tip t).Evolves (f (ev.st.tip t))) : ev.Runs (ev.update (State.modTip t f)) :=
  .update (.modTip t h) fun _ =>
    State.modTip_hardensAt h.defined h.pass h.elevation fun _ hg => h.state.trans hg

theorem State.modChute_hardensAt {s : State} {c : ChuteIdx} {f : Chute → Chute} {e : EntryIdx}
    (h : Chute.Evolves s c (s.chute c) (f (s.chute c)))
    (hc : s.coversChute e c = true → (f (s.chute c)).state = .closed → (s.chute c).state = .closed) :
    s.HardensAt (s.modChute c f) e := by
  refine .chutes (cs := (s.modChute c f).chutes) (fun i => ?_) fun i => ?_
  · change Chute.Evolves s i (s.chute i) ((s.modChute c f).chute i)
    rw [State.modChute_chute]
    split
    case isTrue hi => exact hi ▸ h
    case isFalse => exact .refl ..
  · change s.coversChute e i = true → ((s.modChute c f).chute i).state = .closed → _
    rw [State.modChute_chute]
    split
    case isTrue hi => exact hi ▸ hc
    case isFalse => exact fun _ => id

/-- A chute that comes no nearer to CLOSED. -/
theorem Event.Runs.modChute {ev : Event} (c : ChuteIdx) {f : Chute → Chute}
    (h : Chute.Evolves ev.st c (ev.st.chute c) (f (ev.st.chute c)))
    (hc : (f (ev.st.chute c)).state = .closed → (ev.st.chute c).state = .closed) :
    ev.Runs (ev.update (State.modChute c f)) :=
  .update (.modChute c h) fun _ => State.modChute_hardensAt h fun _ => hc

/-- An exception for every entry that covers the chute. -/
def State.orCovers (s : State) (X : EntryIdx → Prop) (c : ChuteIdx) (e : EntryIdx) : Prop :=
  X e ∨ s.coversChute e c = true

/-- A chute that changes is an exception until its entries are touched. -/
theorem Event.Seen.modChute {X : EntryIdx → Prop} {ev : Event} {c : ChuteIdx} {f : Chute → Chute}
    (hs : ev.Seen X) (h : Chute.Evolves ev.st c (ev.st.chute c) (f (ev.st.chute c))) :
    (ev.update (State.modChute c f)).Seen (ev.st.orCovers X c) := by
  refine (hs.mono fun _ => .inl).of_hardens (fun e => ?_) fun _ => id
  by_cases hcov : ev.st.coversChute e c = true
  · exact .inr (.inl (.inr hcov))
  · exact .inr (.inr (State.modChute_hardensAt h fun h => absurd h hcov))

theorem Event.Seen.touchChute {X : EntryIdx → Prop} {ev : Event} {c : ChuteIdx} {s : State}
    (hs : ev.Seen (s.orCovers X c)) (hcov : ∀ e, ev.st.coversChute e c = s.coversChute e c) :
    (ev.touchChute c).Seen X := by
  refine hs.touch _ fun e he => ?_
  rcases he with he | he
  · exact .inr he
  · exact .inl (by simpa [hcov] using he)

theorem State.modChute_coversChute {s : State} {c : ChuteIdx} {f : Chute → Chute}
    (h : Chute.Evolves s c (s.chute c) (f (s.chute c))) (e : EntryIdx) (i : ChuteIdx) :
    (s.modChute c f).coversChute e i = s.coversChute e i := by
  have hi : (s.modChute c f).chutes[i] = (s.modChute c f).chute i := rfl
  refine State.coversChute_of_chutes (cs := (s.modChute c f).chutes) ?_ ?_ ?_ e
  all_goals rw [hi, State.modChute_chute]; split
  case refine_1.isTrue h' => exact h' ▸ h.defined
  case refine_2.isTrue h' => exact h' ▸ h.pass
  case refine_3.isTrue h' => exact h' ▸ h.elevation
  all_goals rfl

/-- A chute that changes in any way, seen by the entries that cover it. -/
theorem Event.Runs.modChute_touchChute {ev : Event} (c : ChuteIdx) {f : Chute → Chute}
    (h : Chute.Evolves ev.st c (ev.st.chute c) (f (ev.st.chute c))) :
    ev.Runs ((ev.update (State.modChute c f)).touchChute c) where
  stages := (Change.modChute c h).stages
  seen hX := (hX.modChute h).touchChute fun e => State.modChute_coversChute h e c

theorem Event.Runs.modBst {ev : Event} (k : StationIdx) {f : Station → Station}
    (h : (ev.st.bst k).Evolves (f (ev.st.bst k))) : ev.Runs (ev.update (State.modBst k f)) := by
  refine .update (.modBst k h) fun e => .stations (ks := (ev.st.modBst k f).stations) fun i => ?_
  change (ev.st.bst i).Evolves ((ev.st.modBst k f).bst i)
  rw [State.modBst_bst]
  split
  case isTrue hi => exact hi ▸ h
  case isFalse => exact .refl _

theorem Event.Runs.mapEntries {ev : Event} {f : EntryIdx → Entry → Entry}
    (h : ∀ e, (ev.st.entry e).Evolves (f e (ev.st.entry e))) : ev.Runs (ev.update (State.mapEntries f)) := by
  refine .update (.mapEntries h) fun e => .entries (es := (ev.st.mapEntries f).entries) ?_
  change (ev.st.entry e).Evolves ((ev.st.mapEntries f).entry e)
  rw [State.mapEntries_entry]
  exact h e

theorem Event.Runs.modEntry {ev : Event} (e : EntryIdx) {f : Entry → Entry}
    (h : (ev.st.entry e).Evolves (f (ev.st.entry e))) : ev.Runs (ev.update (State.modEntry e f)) := by
  refine .update (.modEntry e h) fun i => .entries (es := (ev.st.modEntry e f).entries) ?_
  change (ev.st.entry i).Evolves ((ev.st.modEntry e f).entry i)
  rw [State.modEntry_entry]
  split
  case isTrue hi => exact hi ▸ h
  case isFalse => exact .refl _

theorem Event.Runs.control {ev : Event} {f : StationControl → StationControl}
    (h : (f ev.st.station).mode = ev.st.station.mode) : ev.Runs (ev.update (State.modStation f)) :=
  .update (.control _ h) fun e => .control _ e

/-- A breach counts at entries in use alone (R132). -/
theorem Event.Runs.recordBreach {ev : Event} {covers : EntryIdx → Bool} (cause : BreachCause) (actuator : Nat)
    (h : ∀ e, covers e = true → (ev.st.entry e).inUse = true) :
    ev.Runs (ev.update (State.recordBreach covers cause actuator)) := by
  refine Event.Runs.mapEntries (f := fun e x =>
    if covers e && decide (x.state = .inForce) then x.breach cause actuator else x) fun e => ?_
  split
  case isTrue hc =>
    simp only [Bool.and_eq_true] at hc
    exact .breach cause actuator (h e hc.1)
  case isFalse => exact .refl _

theorem State.inUse_of_coversTip {s : State} {e : EntryIdx} {t : TipIdx} (h : s.coversTip e t = true) :
    (s.entry e).inUse = true ∧ (s.tip t).defined = true := by
  simp only [State.coversTip, Bool.and_eq_true] at h
  exact h.1

theorem State.inUse_of_coversChute {s : State} {e : EntryIdx} {c : ChuteIdx} (h : s.coversChute e c = true) :
    (s.entry e).inUse = true ∧ (s.chute c).defined = true := by
  simp only [State.coversChute, Bool.and_eq_true] at h
  exact h.1

theorem State.inUse_of_carriesBreaker {s : State} {e : EntryIdx} (h : s.carriesBreaker e = true) :
    (s.entry e).inUse = true := by
  simp only [State.carriesBreaker, Bool.and_eq_true] at h
  exact h.1

/-! ## Fills, debits and aborts -/

theorem Event.Runs.changeFill {ev : Event} (p : PassIdx) {f : Pass → Pass}
    (h : (ev.st.pass p).Evolves (f (ev.st.pass p))) : ev.Runs (ev.changeFill p f) := by
  unfold Event.changeFill
  dsimp only
  split
  · exact .modPass p h
  · exact (Event.Runs.modPass p h).trans (.handOn p _)

theorem Chute.Evolves.takeDebit (s : State) (c : ChuteIdx) (x : Chute) :
    Chute.Evolves s c x x.countDown.cycleDone :=
  .of_same (by simp) (by simp) (by simp) (by simp) (by simp) (by simp) (by simp) (by simp) (by simp) (by simp)

theorem Event.Runs.takeDebit (c : ChuteIdx) (ev : Event) : ev.Runs (ev.takeDebit c) :=
  (Event.Runs.modChute c (Chute.Evolves.takeDebit ..) (by simp)).trans (.changeFill _ (.debit _ _))

theorem Event.Runs.finalise {c : ChuteIdx} {ev : Event}
    (h : (ev.st.chute c).state = .nudging ∨ (ev.st.chute c).state = .reclosing) (result : NudgeResult) :
    ev.Runs (ev.finalise c result) :=
  (Event.Runs.modChute_touchChute c (.finalise h result)).trans (.triggerTries _ _)

theorem Event.Runs.abortChute (c : ChuteIdx) (ev : Event) : ev.Runs (ev.abortChute c) := by
  cases h : (ev.st.chute c).state with
  | closed => rw [Event.abortChute_of_still (.inl h)]; exact .refl ev
  | closing => rw [Event.abortChute_of_still (.inr (.inl h))]; exact .refl ev
  | reclosing => rw [Event.abortChute_of_still (.inr (.inr h))]; exact .refl ev
  | opening =>
    rw [Event.abortChute_of_opening h]
    refine .modChute_touchChute c (.close (.inl h) fun hw => ?_)
    simp only [State.strokeExpiryWaits, Bool.and_eq_true] at hw
    exact hw.2
  | holding =>
    rw [Event.abortChute_of_holding h]
    have hclose : ev.Runs ((ev.update (State.modChute c Chute.close)).touchChute c) :=
      .modChute_touchChute c (.close (.inr h) (w := false) (fun h => by cases h))
    exact (hclose.trans (.takeDebit c _)).trans (.triggerArbiter _ _)
  | nudging =>
    by_cases hf : ev.st.closedHigh c = true ∧ ev.st.limitFallWaits c = false
    · rw [Event.abortChute_of_seated h hf.1 hf.2]
      exact .finalise (.inl h) .aborted
    · rw [Event.abortChute_of_unseated h (by
        rw [not_and, Bool.not_eq_false] at hf
        cases hh : ev.st.closedHigh c
        · exact .inl rfl
        · exact .inr (hf hh))]
      exact .modChute_touchChute c (.reclose h .aborted)

theorem Event.Runs.abortWhere (which : ChuteIdx → Bool) (ev : Event) : ev.Runs (ev.abortWhere which) :=
  Event.abortWhere_induct (P := ev.Runs) which (fun ev' c _ h => h.trans (.abortChute c ev')) ev (.refl ev)

/-! ## The ends of grants -/

theorem State.ungrant_coversTip (t : TipIdx) (state : TipState) (s : State) (e : EntryIdx) (i : TipIdx) :
    (s.ungrant t state).coversTip e i = s.coversTip e i := by
  have hi : (s.ungrant t state).tips[i] = (s.modTip t fun x => { x with state := state, timer := none }).tip i := rfl
  refine State.coversTip_of_tips (s := s) (ts := (s.ungrant t state).tips) ?_ ?_ ?_ e
  all_goals
    rw [hi, State.modTip_tip]
    split
    case isTrue h => rw [h]
    case isFalse => rfl

theorem State.ungrant_hardensAt {t : TipIdx} {state : TipState} {s : State} {e : EntryIdx}
    (h : s.coversTip e t = false) : s.HardensAt (s.ungrant t state) e :=
  State.HardensAt.trans (State.modTip_hardensAt rfl rfl rfl fun hcov => absurd hcov (by simp [h])) (.passes _ e)

/-- A tip point leaves GRANTED, and the entries that cover it are touched. -/
theorem Event.Seen.endGrant {X : EntryIdx → Prop} {ev : Event} (h : ev.Seen X) (t : TipIdx) (state : TipState) :
    (ev.endGrant t state).Seen X := by
  have htouched (e : EntryIdx) : e ∈ (ev.endGrant t state).touched ↔ ev.st.coversTip e t = true ∨ e ∈ ev.touched := by
    change e ∈ (List.finRange 24).filter ((ev.st.ungrant t state).coversTip · t) ++ ev.touched ↔ _
    simp [State.ungrant_coversTip]
  refine h.of_hardens (fun e => ?_) fun e he => (htouched e).mpr (.inr he)
  by_cases hcov : ev.st.coversTip e t = true
  · exact .inl ((htouched e).mpr (.inl hcov))
  · exact .inr (.inr (State.ungrant_hardensAt (by simpa using hcov)))

theorem Event.Runs.endGrant {t : TipIdx} {ev : Event} (h : (ev.st.tip t).state = .granted) :
    ev.Runs (ev.endGrant t .idle) :=
  ⟨(Change.ungrant t h).stages, fun hX => hX.endGrant t .idle⟩

theorem Event.Runs.revoke (t : TipIdx) (ev : Event) : ev.Runs (ev.revoke t) := by
  unfold Event.revoke
  split
  case isTrue h =>
    split
    case isTrue =>
      exact ⟨(Change.requeue t h).stages,
        fun hX => (hX.endGrant t .waiting).of_hardens (fun e => .inr (.inr (.passes _ e))) fun _ => id⟩
    case isFalse => exact .endGrant h
  case isFalse => exact .refl ev

theorem Event.Runs.revokeWhere (which : TipIdx → Bool) (ev : Event) : ev.Runs (ev.revokeWhere which) :=
  Event.revokeWhere_induct (P := ev.Runs) which (fun ev' t _ h => h.trans (.revoke t ev')) ev (.refl ev)

/-! ## The breaker -/

theorem Event.Runs.moveBreaker {ev : Event} {f : Breaker → Breaker}
    (h : ev.st.BreakerEvolves (f ev.st.breaker)) : ev.Runs (ev.moveBreaker f) :=
  ⟨(Change.moveBreaker h).stages, fun _ => Event.seen_touchAll _⟩

/-- A breaker that keeps its state and current job. -/
theorem Event.Runs.modBreaker {ev : Event} {f : Breaker → Breaker} (h : ev.st.BreakerEvolves (f ev.st.breaker))
    (hs : (f ev.st.breaker).state = ev.st.breaker.state)
    (hc : (f ev.st.breaker).current = ev.st.breaker.current) : ev.Runs (ev.update (State.modBreaker f)) := by
  refine .update (.modBreaker h (by rw [hs])) fun e => .modBreaker (fun hp => hs ▸ hp) fun k => ?_
  simp only [State.breakerAt_iff, hs, hc]
  exact id

theorem Event.Runs.arrive {k : StationIdx} {level : Nat} (origin : Origin) {ev : Event}
    (hk : (ev.st.bst k).defined = true) (hl : ev.st.levelsLawful = true → 1 ≤ level ∧ level ≤ 7) :
    ev.Runs (ev.arrive k level origin) := by
  rcases ev.arrive_cases k level origin with ⟨-, h⟩ | ⟨-, h⟩ | ⟨hd, h⟩
  · rw [h]; exact .refl ev
  · rw [h]
    exact (Event.Runs.modBreaker (.merge k hl) rfl rfl).trans (.triggerChoice _)
  · rw [h]
    exact (Event.Runs.modBreaker (.list origin hk hl hd) rfl rfl).trans (.triggerChoice _)

theorem Event.Runs.abortBreaker {ev : Event} (h : ev.st.breaker.state.goes = true) : ev.Runs ev.abortBreaker := by
  refine .moveBreaker ?_
  refine State.BreakerEvolves.sendHome (b := { ev.st.breaker with
    jobs := ev.st.breaker.current.toList ++ ev.st.breaker.jobs }) h (fun ht => (Breaker.returns_of_goes ht h).2)
    fun _ hl => ?_
  obtain ⟨hn, -, hf⟩ := State.jobsLawful_iff.mp hl
  exact ⟨hn, hf⟩

theorem Event.Runs.haltBreaker (ev : Event) : ev.Runs ev.haltBreaker := by
  have hreports (ks : List StationIdx) (a b : Event) (h : a.Runs b) :
      a.Runs (ks.foldl (fun ev k => ev.reportEnd k) b) := by
    induction ks generalizing b with
    | nil => exact h
    | cons k ks ih => exact ih _ (h.trans (.reportEnd k b))
  refine hreports _ _ _ ?_
  split
  case isTrue h =>
    have hg : ev.st.breaker.state.goes = true := BreakerState.goes_iff.mpr h
    exact .moveBreaker (.sendHome (b := { ev.st.breaker with jobs := [] }) hg
      (fun ht => (Breaker.returns_of_goes ht hg).2) fun _ _ => by simp)
  case isFalse =>
    refine .modBreaker (.of_list (counter := ev.st.breaker.counter) fun _ hl => ?_) rfl rfl
    obtain ⟨hn, -, hf⟩ := State.jobsLawful_iff.mp hl
    rw [Breaker.held, List.map_append] at hn
    simp only [Breaker.held, List.mem_append] at hf
    simp only [List.append_nil]
    exact ⟨hn.of_append_left, fun j hj => hf j (.inl hj)⟩

end Sys2Proof.Machine
end

section
/-! What an accepted DEFINE does to the bindings (R168), and the changes of the lines within an event. -/

namespace Sys2Proof.Machine

/-! ## One line at a binding -/

/-- No line named is bound to another function, and none is named twice (R168). -/
theorem State.lineConflict_eq_false_iff {s : State} {roles : Roles} : s.lineConflict roles = false ↔
    (∀ r ∈ roles, ∀ i, r.2 = some i → (s.line i).binding = none ∨ (s.line i).binding = some r.1)
      ∧ (roles.filterMap Prod.snd).Nodup := by
  simp only [State.lineConflict, Bool.or_eq_false_iff, List.any_eq_false, Option.any_eq_true, decide_eq_true_eq,
    decide_eq_false_iff_not, not_exists, not_and, not_not, or_iff_not_imp_left]

/-- A named line is bound to its role. -/
theorem bindLine_binding_of_find {roles : Roles} {i : LineIdx} {l : Line} {r : LineFn × Option LineIdx}
    (h : roles.find? (fun r => decide (r.2 = some i)) = some r) : (bindLine roles i l).binding = some r.1 := by
  simp only [bindLine, h]
  split
  case isTrue hb => exact hb
  case isFalse => rfl

/-- After a binding a line serves the role it is named for, or what it served before and no role of the record. -/
theorem bindLine_binding_cases {roles : Roles} {i : LineIdx} {l : Line} {f : LineFn}
    (h : (bindLine roles i l).binding = some f) : (∃ r ∈ roles, r.2 = some i ∧ r.1 = f)
      ∨ ((∀ r ∈ roles, r.2 ≠ some i) ∧ (∀ r ∈ roles, r.1 ≠ f) ∧ l.binding = some f) := by
  cases hf : roles.find? (fun r => decide (r.2 = some i)) with
  | some r =>
    have hr : r.2 = some i := by simpa using List.find?_some hf
    rw [bindLine_binding_of_find hf] at h
    exact .inl ⟨r, List.mem_of_find?_eq_some hf, hr, Option.some.inj h⟩
  | none =>
    have hn : ∀ r ∈ roles, r.2 ≠ some i := by simpa using hf
    by_cases hb : ∃ r ∈ roles, l.binding = some r.1
    · obtain ⟨r, hr, hb⟩ := hb
      rw [bindLine_released hn hr hb] at h
      cases h
    · simp only [not_exists, not_and] at hb
      rw [bindLine_other hn hb] at h
      exact .inr ⟨hn, fun r hr he => hb r hr (he ▸ h), h⟩

@[simp] theorem bindLine_debounced (roles : Roles) (i : LineIdx) (l : Line) :
    (bindLine roles i l).debounced = l.debounced := by rw [bindLine_eq]

/-! ## The law of the bindings -/

theorem State.bindingsLawful_iff {s : State} : s.bindingsLawful = true ↔
    (∀ i j f, (s.line i).binding = some f → (s.line j).binding = some f → i = j)
      ∧ ∀ i f, (s.line i).binding = some f → f.isOutput = true → inBankF i = false := by
  have hone (i : LineIdx) : (match (s.line i).binding with
      | none => true
      | some f => decide (s.lineOf f = some i) && !(f.isOutput && inBankF i)) = true
      ↔ ∀ f, (s.line i).binding = some f → s.lineOf f = some i ∧ (f.isOutput = true → inBankF i = false) := by
    cases (s.line i).binding with
    | none => simp
    | some f =>
      have ho : (!(f.isOutput && inBankF i)) = true ↔ (f.isOutput = true → inBankF i = false) := by
        cases f.isOutput <;> simp
      simp only [Bool.and_eq_true, decide_eq_true_eq, ho, Option.some.injEq, forall_eq']
  simp only [State.bindingsLawful, List.all_eq_true, List.mem_finRange, true_imp_iff]
  refine (forall_congr' hone).trans ⟨fun h => ⟨fun i j f hi hj => ?_, fun i f hi => (h i f hi).2⟩,
    fun ⟨hu, ho⟩ i f hi => ⟨State.lineOf_eq_some hi fun j hj => hu j i f hj hi, ho i f hi⟩⟩
  exact Option.some.inj ((h i f hi).1.symm.trans (h j f hj).1)

/-- A binding without conflict, with no output in bank F, keeps each function to one line (R167, R168). -/
theorem State.bindLines_lawful {s : State} {roles : Roles}
    (ho : ∀ r ∈ roles, r.1.isOutput = true → ∀ i, r.2 = some i → inBankF i = false)
    (hn : (roles.map Prod.fst).Nodup) (h : s.bindingsLawful = true) : (s.bindLines roles).bindingsLawful = true := by
  rw [State.bindingsLawful_iff] at h ⊢
  obtain ⟨hu, hb⟩ := h
  refine ⟨fun i j f hi hj => ?_, fun i f hi hf => ?_⟩
  · rw [State.bindLines_line] at hi hj
    rcases bindLine_binding_cases hi with ⟨r, hr, hri, rfl⟩ | ⟨-, hrf, hi⟩
    · rcases bindLine_binding_cases hj with ⟨r', hr', hrj, hf⟩ | ⟨-, hrf, -⟩
      · have := List.inj_on_of_nodup_map hn hr' hr hf
        rw [this, hri] at hrj
        exact Option.some.inj hrj
      · exact absurd rfl (hrf r hr)
    · rcases bindLine_binding_cases hj with ⟨r', hr', hrj, hf⟩ | ⟨-, -, hj⟩
      · exact absurd hf (hrf r' hr')
      · exact hu i j f hi hj
  · rw [State.bindLines_line] at hi
    rcases bindLine_binding_cases hi with ⟨r, hr, hri, rfl⟩ | ⟨-, -, hi⟩
    · exact ho r hr hf i hri
    · exact hb i f hi hf

/-- A function that is no role of the record keeps its line. -/
theorem State.bindLines_lineOf_other {s : State} {roles : Roles} {f : LineFn} (hf : ∀ r ∈ roles, r.1 ≠ f)
    (hc : s.lineConflict roles = false) : (s.bindLines roles).lineOf f = s.lineOf f := by
  have hb (i : LineIdx) : ((s.bindLines roles).line i).binding = some f ↔ (s.line i).binding = some f := by
    rw [State.bindLines_line]
    refine ⟨fun h => ?_, fun h => ?_⟩
    · rcases bindLine_binding_cases h with ⟨r, hr, -, he⟩ | ⟨-, -, hb⟩
      · exact absurd he (hf r hr)
      · exact hb
    · rw [bindLine_other (fun r hr hi => ?_) fun r hr hb => ?_]
      · exact h
      · rcases (State.lineConflict_eq_false_iff.mp hc).1 r hr i hi with hb | hb
        · rw [hb] at h; cases h
        · exact hf r hr (Option.some.inj (hb.symm.trans h))
      · exact hf r hr (Option.some.inj (hb.symm.trans h))
  simp only [State.lineOf, hb]

theorem State.bindLines_level_other {s : State} {roles : Roles} {f : LineFn} (hf : ∀ r ∈ roles, r.1 ≠ f)
    (hc : s.lineConflict roles = false) : (s.bindLines roles).level f = s.level f := by
  unfold State.level
  rw [State.bindLines_lineOf_other hf hc]
  simp

/-! ## Changes of the lines -/

theorem Change.bindLines {s : State} {roles : Roles}
    (ho : ∀ r ∈ roles, r.1.isOutput = true → ∀ i, r.2 = some i → inBankF i = false)
    (hn : (roles.map Prod.fst).Nodup) : Change s (s.bindLines roles) :=
  .lines (s.bindLines roles).lines s.debounce (State.bindLines_lawful ho hn)

/-- A binding that names no closed limit. -/
theorem Event.Runs.bindLines {ev : Event} {roles : Roles}
    (ho : ∀ r ∈ roles, r.1.isOutput = true → ∀ i, r.2 = some i → inBankF i = false)
    (hn : (roles.map Prod.fst).Nodup) (hl : ∀ r ∈ roles, ∀ c, r.1 ≠ .closedLimit c)
    (hc : ev.st.lineConflict roles = false) : ev.Runs (ev.update (State.bindLines roles)) := by
  refine .update (.bindLines ho hn) fun e => .lines (db := ev.st.debounce) fun c _ hh => ?_
  exact (State.bindLines_level_other (fun r hr => hl r hr c) hc).symm.trans hh

/-- Bindings that stay lawful where every line keeps its binding. -/
theorem State.bindingsLawful_congr {s t : State} (h : ∀ i, (t.line i).binding = (s.line i).binding) :
    t.bindingsLawful = s.bindingsLawful := by
  rw [Bool.eq_iff_iff, State.bindingsLawful_iff, State.bindingsLawful_iff]
  simp only [h]

/-- A change of lines that leaves bindings and debounced levels. -/
theorem Event.Runs.lines {ev : Event} {f : State → State} {ls : Vector Line 48} {db : Vector Nat 6}
    (hf : f ev.st = { ev.st with lines := ls, debounce := db })
    (hb : ∀ i : LineIdx, ls[i].binding = (ev.st.line i).binding)
    (hd : ∀ i : LineIdx, ls[i].debounced = (ev.st.line i).debounced) : ev.Runs (ev.update f) := by
  refine .update ?_ fun e => ?_
  · rw [hf]
    exact .lines ls db fun h => (State.bindingsLawful_congr (s := ev.st) (t := { ev.st with lines := ls, debounce := db }) hb).trans h
  · rw [hf]
    exact .lines fun c _ hh =>
      (State.level_congr (s := { ev.st with lines := ls, debounce := db }) (t := ev.st) hb hd _).symm.trans hh

/-- A debounced level that is taken is heard by the closed limit bound to the line alone (R171). -/
theorem Change.debounced (s : State) (i : LineIdx) : Change s (s.debounced i) := by
  refine .lines (s.debounced i).lines s.debounce fun h => (State.bindingsLawful_congr (s := s) fun j => ?_).trans h
  change ((s.debounced i).line j).binding = _
  simp only [State.debounced, State.modLine_line]
  split
  case isTrue hj => rw [hj]
  case isFalse => rfl

theorem State.debounced_lineOf (s : State) (i : LineIdx) (f : LineFn) : (s.debounced i).lineOf f = s.lineOf f :=
  State.lineOf_congr (fun j => by
    simp only [State.debounced, State.modLine_line]
    split
    case isTrue hj => rw [hj]
    case isFalse => rfl) f

theorem State.debounced_level_other {s : State} {i : LineIdx} {f : LineFn} (h : (s.line i).binding ≠ some f) :
    (s.debounced i).level f = s.level f := by
  unfold State.level
  rw [State.debounced_lineOf]
  cases hf : s.lineOf f with
  | none => rfl
  | some j =>
    have hj : j ≠ i := fun hj => h (hj ▸ State.lineOf_binding hf)
    simp [State.debounced, State.modLine_line_ne _ _ _ hj]

theorem State.debounced_hardensAt {s : State} {i : LineIdx} {e : EntryIdx}
    (h : ∀ c, s.coversChute e c = true → (s.line i).binding ≠ some (.closedLimit c)) :
    s.HardensAt (s.debounced i) e :=
  .lines (db := s.debounce) fun c hc hh => (State.debounced_level_other (h c hc)).symm.trans hh

end Sys2Proof.Machine
end

section
/-! What the events of the accepted requests are made of: first those that change one record or a tuning value. -/

namespace Sys2Proof.Machine

/-- An event the reply takes is made of stages, and misses no entry it must test. -/
def Reply.Runs (s : State) : Reply → Prop
  | .take ev _ => (Event.of s).Runs ev
  | .refuse _ _ => True
  | .report _ => True

theorem Reply.Runs.of_withIndex {s : State} {n i : Nat} {act : Fin n → Reply} (h : ∀ j, (act j).Runs s) :
    (withIndex n i act).Runs s := by
  unfold withIndex
  split
  · exact h _
  · exact trivial

/-- A check that refuses leaves the rest of the reply its negation. -/
theorem Reply.Runs.unless {s : State} {P : Prop} [Decidable P] {status : Status} {r : Reply}
    (h : ¬ P → r.Runs s) : (if P then Reply.no status else r).Runs s := by
  split
  · exact trivial
  · exact h ‹_›

/-! ## Passes -/

theorem State.setFillReply_runs (pass volume : Nat) (s : State) : (s.setFillReply pass volume).Runs s := by
  refine .of_withIndex fun p => .unless fun _ => ?_
  have h : (Event.of s).Runs ((Event.of s).update (State.modPass p (Pass.setFill volume))) :=
    .modPass p (.setFill volume _)
  change (Event.of s).Runs (if _ then _ else _)
  split
  · exact h.trans (.handOn p _)
  · exact h

theorem State.clearHangReply_runs (pass : Nat) (s : State) : (s.clearHangReply pass).Runs s := by
  refine .of_withIndex fun p => .unless fun _ => .unless fun hs => ?_
  exact (Event.Runs.modPass p (.clearHang (by simpa using hs))).trans (.handOn p _)

/-! ## Channels -/

theorem State.modChannel_enabled {s : State} {ch : ChannelIdx} {f : Channel → Channel}
    (hd : (f (s.channel ch)).defined = (s.channel ch).defined)
    (hq : (f (s.channel ch)).inQuiet = (s.channel ch).inQuiet)
    (hb : (f (s.channel ch)).inBreaking = (s.channel ch).inBreaking) (i : ChannelIdx) :
    (s.modChannel ch f).enabled i = s.enabled i := by
  by_cases hi : i = ch
  · subst hi
    simp only [State.enabled, State.modChannel_channel_self, State.modChannel_breaker, hd, hq, hb]
  · simp only [State.enabled, State.modChannel_channel_ne _ _ _ hi, State.modChannel_breaker]

theorem Event.Runs.modChannel {ev : Event} (ch : ChannelIdx) {f : Channel → Channel}
    (hd : (f (ev.st.channel ch)).defined = (ev.st.channel ch).defined)
    (hq : (f (ev.st.channel ch)).inQuiet = (ev.st.channel ch).inQuiet)
    (hb : (f (ev.st.channel ch)).inBreaking = (ev.st.channel ch).inBreaking) :
    ev.Runs (ev.update (State.modChannel ch f)) := by
  refine .update (.channels (ev.st.modChannel ch f).channels ev.st.scanner fun h => ?_) fun e => .channels _ _ e
  exact (State.scannerLawful_congr (s := ev.st) (t := ev.st.modChannel ch f) (by simp)
    (State.modChannel_enabled hd hq hb)).trans h

theorem Event.Runs.loseUse (p : PassIdx) (ev : Event) : ev.Runs (ev.update (State.loseUse p)) := by
  rcases ev.st.loseUse_cases p with h | ⟨-, -, h⟩
  · exact .trigger h fun _ => id
  · unfold Event.update
    rw [h]
    exact .modPass p (.conds _ _)

theorem Event.Runs.changeChannel {ev : Event} (ch : ChannelIdx) {f : Channel → Channel}
    (hd : (f (ev.st.channel ch)).defined = (ev.st.channel ch).defined)
    (hq : (f (ev.st.channel ch)).inQuiet = (ev.st.channel ch).inQuiet)
    (hb : (f (ev.st.channel ch)).inBreaking = (ev.st.channel ch).inBreaking) :
    ev.Runs (ev.update (State.changeChannel ch f)) := by
  have hmod := Event.Runs.modChannel (ev := ev) ch hd hq hb
  unfold Event.update at hmod ⊢
  rcases ev.st.changeChannel_cases ch f with h | ⟨p, -, -, -, h⟩
  · rw [h]
    exact hmod
  · rw [h]
    exact hmod.trans (.loseUse p { ev with st := ev.st.modChannel ch f })

theorem Event.Runs.makeStale (ch : ChannelIdx) (ev : Event) : ev.Runs (ev.update (State.makeStale ch)) :=
  .changeChannel ch rfl rfl rfl

theorem Event.Runs.staleAtLimit (p : PassIdx) (ev : Event) : ev.Runs (ev.update (State.staleAtLimit p)) := by
  have hfold (chs : List ChannelIdx) (s : State) (h : ev.Runs { ev with st := s }) :
      ev.Runs { ev with st := chs.foldl (fun s ch => s.makeStale ch) s } := by
    induction chs generalizing s with
    | nil => exact h
    | cons ch chs ih => exact ih _ (h.trans (.makeStale ch { ev with st := s }))
  exact hfold _ _ (.refl ev)

theorem State.tunePassReply_runs (pass tipLimit cushion hang shift disagreement stale : Nat) (s : State) :
    (s.tunePassReply pass tipLimit cushion hang shift disagreement stale).Runs s := by
  refine .of_withIndex fun p => .unless fun _ => ?_
  change (Event.of s).Runs (Event.tunePass p _ _)
  unfold Event.tunePass
  dsimp only
  have h1 : (Event.of s).Runs ((Event.of s).update
      (State.modPass p (Pass.tune tipLimit cushion hang shift disagreement stale))) := .modPass p (.tune ..)
  generalize (Event.of s).update (State.modPass p (Pass.tune tipLimit cushion hang shift disagreement stale)) = ev1
    at h1 ⊢
  have h2 (c : Prop) [Decidable c] :
      (Event.of s).Runs (if c then ev1.update (State.staleAtLimit p) else ev1) := by
    split
    · exact h1.trans (.staleAtLimit p ev1)
    · exact h1
  have h3 (c d : Prop) [Decidable c] [Decidable d] : (Event.of s).Runs
      (if d then (if c then ev1.update (State.staleAtLimit p) else ev1)
        else (if c then ev1.update (State.staleAtLimit p) else ev1).triggerArbiter p) := by
    split
    · exact h2 c
    · exact (h2 c).trans (.triggerArbiter p _)
  split
  · exact h3 _ _
  · exact (h3 _ _).trans (.triggerTries _ _)

theorem Event.Runs.scanner {ev : Event} {cs : Vector Channel 8} {sc : Scanner} {f : State → State}
    (hf : f ev.st = { ev.st with channels := cs, scanner := sc }) (h : (f ev.st).scannerLawful = true) :
    ev.Runs (ev.update f) := by
  refine .update ?_ fun e => ?_
  · rw [hf] at h ⊢
    exact .channels cs sc fun _ => h
  · rw [hf]
    exact .channels cs sc e

theorem Event.Runs.chooseConversion (ev : Event) : ev.Runs (ev.update State.chooseConversion) :=
  .scanner (cs := ev.st.channels) ev.st.chooseConversion_eq ev.st.chooseConversion_lawful

theorem State.scanListReply_runs (quiet breaking : BitVec 8) (s : State) :
    (s.scanListReply quiet breaking).Runs s :=
  Event.Runs.scanner (cs := (s.setLists quiet breaking).channels) (State.wakeScanner_eq _)
    (State.wakeScanner_lawful _)

theorem State.proveChannelReply_runs (channel : Nat) (s : State) : (s.proveChannelReply channel).Runs s :=
  .of_withIndex fun ch => .unless fun _ => .unless fun _ => Event.Runs.changeChannel ch rfl rfl rfl

theorem State.acceptChannelReply_runs (index : Nat) (s : State) : (s.acceptChannelReply index).Runs s := by
  refine .of_withIndex fun ch => .unless fun _ => .unless fun _ => ?_
  change (Event.of s).Runs (if _ then _ else _)
  split
  · exact .modChannel ch rfl rfl rfl
  · exact .refl _

/-! ## Tip points and chutes -/

theorem State.tuneTipReply_runs (tip timeout level : Nat) (s : State) : (s.tuneTipReply tip timeout level).Runs s :=
  .of_withIndex fun t => .unless fun _ => Event.Runs.modTip t (.tune _ _ level)

theorem State.tuneChuteReply_runs (chute holdTime strokeTime nudgeTime interval : Nat) (s : State) :
    (s.tuneChuteReply chute holdTime strokeTime nudgeTime interval).Runs s :=
  .of_withIndex fun c => .unless fun _ =>
    Event.Runs.modChute c (.of_same rfl rfl rfl rfl rfl rfl rfl rfl rfl id) id

theorem State.orderReply_runs (chute count : Nat) (s : State) : (s.orderReply chute count).Runs s :=
  .of_withIndex fun c => .unless fun _ => .unless fun _ =>
    (Event.Runs.modChute c (.of_same rfl rfl rfl rfl rfl rfl rfl rfl rfl id) id).trans (.triggerTries _ _)

theorem Event.Runs.mapChutes {ev : Event} {f : ChuteIdx → Chute → Chute}
    (h : ∀ c, Chute.Evolves ev.st c (ev.st.chute c) (f c (ev.st.chute c)))
    (hs : ∀ c, (f c (ev.st.chute c)).state = (ev.st.chute c).state) : ev.Runs (ev.update (State.mapChutes f)) := by
  refine .update (.mapChutes h) fun e => .chutes (cs := (ev.st.mapChutes f).chutes) (fun c => ?_) fun c _ => ?_
  · change Chute.Evolves ev.st c (ev.st.chute c) ((ev.st.mapChutes f).chute c)
    rw [State.mapChutes_chute]
    exact h c
  · change ((ev.st.mapChutes f).chute c).state = .closed → _
    rw [State.mapChutes_chute, hs]
    exact id

theorem Event.Runs.setHeld (set : BitVec 8) (b : Bool) (ev : Event) :
    ev.Runs (ev.update (State.setHeld set b)) := by
  refine Event.Runs.mapChutes (f := fun c x => if set.getLsbD c && x.defined then { x with held := b } else x)
    (fun c => ?_) fun c => ?_
  · split
    · exact .of_same rfl rfl rfl rfl rfl rfl rfl rfl rfl id
    · exact .refl ..
  · split <;> rfl

theorem State.holdReply_runs (set : BitVec 8) (s : State) : (s.holdReply set).Runs s :=
  Event.Runs.setHeld set true _

theorem State.freeReply_runs (set : BitVec 8) (s : State) : (s.freeReply set).Runs s :=
  (Event.Runs.setHeld set false (Event.of s)).trans (.triggerTries _ _)

theorem State.proveChuteReply_runs (chute : Nat) (s : State) : (s.proveChuteReply chute).Runs s := by
  refine .of_withIndex fun c => .unless fun _ => .unless fun hm => .unless fun hsafe => .unless fun hc =>
    .unless fun hp => ?_
  simp only [Bool.or_eq_true, Bool.not_eq_true', not_or, Bool.not_eq_false, State.chuteSafe, Bool.and_eq_true,
    decide_eq_true_eq] at hsafe
  refine Event.Runs.modChute_touchChute c (.nudge hsafe.1.1 (by simpa using hm) ?_ (by simpa using hc))
  intro hh
  exact hp (by simp_all)

theorem State.acceptChuteReply_runs (index : Nat) (s : State) : (s.acceptChuteReply index).Runs s := by
  refine .of_withIndex fun c => .unless fun _ => .unless fun _ => ?_
  change (Event.of s).Runs (if _ then _ else _)
  split
  · exact (Event.Runs.modChute c (.of_same rfl rfl rfl rfl rfl rfl rfl rfl rfl id) id).trans (.triggerTries _ _)
  · exact .refl _

theorem State.acceptProofReply_runs (type index : Nat) (s : State) : (s.acceptProofReply type index).Runs s := by
  unfold State.acceptProofReply
  split
  · exact s.acceptChuteReply_runs index
  · exact s.acceptChannelReply_runs index
  · exact trivial

/-! ## Calls -/

/-- A tip point that is neither GRANTED before nor after, and no list, is read by a settling test. -/
theorem State.modTip_modPass_hardensAt {s : State} {t : TipIdx} {p : PassIdx} {f : Tip → Tip} {g : Pass → Pass}
    {e : EntryIdx} (hd : (f (s.tip t)).defined = (s.tip t).defined) (hp : (f (s.tip t)).pass = (s.tip t).pass)
    (he : (f (s.tip t)).elevation = (s.tip t).elevation) (hg : (s.tip t).state ≠ .granted) :
    s.HardensAt ((s.modTip t f).modPass p g) e :=
  (State.modTip_hardensAt hd hp he fun _ h => absurd h hg).trans (.passes _ e)

theorem Event.Runs.placeCall {t : TipIdx} {source : CallSource} {ev : Event} (hd : (ev.st.tip t).defined = true)
    (hidle : (ev.st.tip t).state = .idle) : ev.Runs (ev.placeCall t source) := by
  have h : ev.Runs (ev.update fun s => (s.modTip t fun x =>
      { x with state := .waiting, source := source }).modPass (ev.st.tip t).pass fun q =>
      { q with waiting := q.waiting ++ [t] }) :=
    .update (.placeCall t source hd hidle) fun e =>
      State.modTip_modPass_hardensAt rfl rfl rfl (by simp [hidle])
  exact h.trans (.triggerArbiter _ _)

theorem State.withdrawCall_hardensAt {s : State} {t : TipIdx} {e : EntryIdx} (h : (s.tip t).state = .waiting) :
    s.HardensAt (s.withdrawCall t) e := by
  refine (State.HardensAt.passes _ e).trans (State.modTip_hardensAt rfl rfl rfl fun _ hg => ?_)
  change (s.tip t).state = .granted at hg
  rw [h] at hg
  cases hg

theorem Event.Runs.withdrawCall {t : TipIdx} {ev : Event} (h : (ev.st.tip t).state = .waiting) :
    ev.Runs (ev.update (State.withdrawCall t)) :=
  .update (.withdraw t h) fun _ => State.withdrawCall_hardensAt h

theorem State.callTipReply_runs (tip : Nat) (s : State) : (s.callTipReply tip).Runs s := by
  refine .of_withIndex fun t => .unless fun hd => ?_
  change (Event.of s).Runs (if _ then _ else _)
  split
  · exact .placeCall (by simpa using hd) ‹_›
  · exact .refl _

theorem State.withdrawReply_runs (tip : Nat) (s : State) : (s.withdrawReply tip).Runs s := by
  refine .of_withIndex fun t => .unless fun hd => ?_
  change (Event.of s).Runs (if _ then _ else _)
  split
  · exact .withdrawCall ‹_›
  · exact .refl _

/-! ## Jobs -/

theorem State.breakReply_runs (station level : Nat) (s : State) : (s.breakReply station level).Runs s := by
  refine .of_withIndex fun k => .unless fun hd => .unless fun hl => ?_
  refine (Event.Runs.modBst k ⟨rfl, rfl⟩).trans (.arrive .link ?_ fun _ => ?_)
  · simpa using hd
  · omega

theorem State.floorReply_runs (level : Nat) (s : State) : (s.floorReply level).Runs s :=
  (Event.Runs.modBreaker (.of_same rfl rfl rfl id) rfl rfl).trans (.triggerChoice _)

theorem State.tuneStationReply_runs (settleTime travelLimit breakLimit proofWindow : Nat) (s : State) :
    (s.tuneStationReply settleTime travelLimit breakLimit proofWindow).Runs s :=
  (Event.Runs.control (ev := Event.of s) (f := fun x =>
    { x with settleTime := clamp 50 6000 settleTime, proofWindow := clamp 30 300 proofWindow }) rfl).trans
    (.modBreaker (f := fun b => { b with
      travelLimit := clamp 50 3000 travelLimit, breakLimit := clamp 100 18000 breakLimit })
      (.of_same rfl rfl rfl id) rfl rfl)

/-! ## Lines and conditions -/

theorem State.writeLines_line (b : BankIdx) (ds d ls l : BitVec 8) (s : State) (i : LineIdx) :
    ((s.writeLines b ds d ls l).line i).binding = (s.line i).binding
      ∧ ((s.writeLines b ds d ls l).line i).debounced = (s.line i).debounced := by
  simp only [State.writeLines, State.mapLines_line]
  split <;> exact ⟨rfl, rfl⟩

theorem State.linesWriteReply_runs (bank : Nat) (ds d ls l : BitVec 8) (debounce : Option Nat) (s : State) :
    (s.linesWriteReply bank ds d ls l debounce).Runs s := by
  refine .of_withIndex fun b => ?_
  refine Event.Runs.lines (ls := (s.writeLines b ds d ls l).lines)
    (db := ((s.writeLines b ds d ls l).writeDebounce b debounce).debounce) ?_
    (fun i => (s.writeLines_line b ds d ls l i).1) fun i => (s.writeLines_line b ds d ls l i).2
  cases debounce <;> simp only [Event.of_st, State.writeDebounce, State.writeLines, State.mapLines]

theorem State.attentionMaskReply_runs (kinds : BitVec 32) (s : State) : (s.attentionMaskReply kinds).Runs s :=
  Event.Runs.control rfl

theorem Chute.Evolves.acknowledge (s : State) (c : ChuteIdx) (set : CondSet) (x : Chute) :
    Chute.Evolves s c x (x.acknowledge set) := .of_same rfl rfl rfl rfl rfl rfl rfl rfl rfl id

theorem State.acknowledgeReply_runs (type index : Nat) (set : CondSet) (s : State) :
    (s.acknowledgeReply type index set).Runs s := by
  unfold State.acknowledgeReply
  dsimp only
  split
  · exact .of_withIndex fun p => Event.Runs.modPass p (.conds _ _)
  · exact .of_withIndex fun t => Event.Runs.modTip t (.conds _ _)
  · refine .of_withIndex fun c => ?_
    have h : (Event.of s).Runs ((Event.of s).update (State.modChute c (Chute.acknowledge set))) :=
      .modChute c (.acknowledge ..) id
    change (Event.of s).Runs (if _ then _ else _)
    split
    · exact h.trans (.triggerTries _ _)
    · exact h
  · exact .of_withIndex fun k => Event.Runs.modBst k ⟨rfl, rfl⟩
  · exact .of_withIndex fun _ => Event.Runs.modBreaker (.of_same rfl rfl rfl id) rfl rfl
  · exact .of_withIndex fun e => Event.Runs.modEntry e (.acknowledge set _)
  · exact .of_withIndex fun ch => Event.Runs.modChannel ch rfl rfl rfl
  · exact .of_withIndex fun _ => Event.Runs.control rfl
  · exact trivial

/-- A report takes no event. -/
theorem State.readReply_runs (type index : Nat) (s : State) : (s.readReply type index).Runs s := by
  unfold State.readReply
  split
  all_goals first | exact trivial | exact .of_withIndex fun _ => trivial

end Sys2Proof.Machine
end

section
/-! What the events of the DEFINE requests, of the clearances and of the station modes are made of. -/

namespace Sys2Proof.Machine

/-! ## DEFINE -/

theorem State.definePassReply_runs (pass height : Nat) (profile : List Segment) (s : State) :
    (s.definePassReply pass height profile).Runs s := by
  refine .of_withIndex fun p => .unless fun hm => .unless fun hr => .unless fun _ => ?_
  have hmode : s.station.mode = .setup ∨ (s.pass p).state = .outOfService := by
    simp only [Bool.not_eq_true', Bool.not_eq_false, Bool.or_eq_true, Bool.and_eq_true, decide_eq_true_eq] at hm
    exact hm.imp_right And.right
  have hdef : Stages s (s.modPass p (Pass.define height profile)) :=
    (Change.definePass p height profile hmode (by simpa using hr)).stages
  refine Event.Runs.touchAll ?_
  split <;> exact hdef

theorem modeAllows_iff {s : State} {b : Bool} :
    s.modeAllows b = true ↔ s.station.mode = .setup ∨ s.station.mode = .run ∧ b = true := by
  simp [State.modeAllows]

theorem outputInBankF_eq_false {l : Option LineIdx} (h : outputInBankF l = false) :
    ∀ i, l = some i → inBankF i = false := by
  rintro i rfl
  simpa [outputInBankF] using h

theorem State.defineTipReply_runs (tip pass elevation load level : Nat)
    (grizzly call sensor lamp oversize : Option Nat) (s : State) :
    (s.defineTipReply tip pass elevation load level grizzly call sensor lamp oversize).Runs s := by
  refine .of_withIndex fun t => .unless fun hm => ?_
  have hmode : s.station.mode = .setup ∨ (s.tip t).defined = false
      ∨ (s.pass (s.tip t).pass).state = .outOfService := by
    simp only [Bool.not_eq_true', Bool.not_eq_false, modeAllows_iff, Bool.and_eq_true, Bool.or_eq_true,
      decide_eq_true_eq] at hm
    exact hm.imp_right fun h => h.2.2
  split
  case h_2 => exact trivial
  case h_1 p g callLine sensorLine lampLine oversizeLine _ _ _ =>
    refine .unless fun ho => .unless fun hp => .unless fun _ => .unless fun _ => .unless fun hc => ?_
    simp only [Bool.or_eq_true, not_or, Bool.not_eq_true] at ho
    obtain ⟨⟨⟨⟨-, -⟩, hlevel⟩, hlamp⟩, -⟩ := ho
    refine Event.Runs.touchAll ?_
    refine Relation.ReflTransGen.trans (Change.defineTip t p elevation load level g hmode ?_ (by simpa using hp)).stages
      (Change.bindLines (roles := tipRoles t callLine sensorLine lampLine oversizeLine) ?_ ?_).stages
    · simp only [outside, decide_eq_false_iff_not, not_or] at hlevel
      omega
    · simpa [tipRoles, LineFn.isOutput] using outputInBankF_eq_false hlamp
    · simp [tipRoles]

theorem State.defineChuteReply_runs (chute pass elevation volume : Nat)
    (openValve closeValve openLimit closedLimit loadCall : Option Nat) (s : State) :
    (s.defineChuteReply chute pass elevation volume openValve closeValve openLimit closedLimit loadCall).Runs s := by
  refine .of_withIndex fun c => .unless fun _ => .unless fun hclosed => ?_
  split
  case h_2 => exact trivial
  case h_1 p ov cv ol cl lc _ _ =>
    refine .unless fun ho => .unless fun _ => .unless fun _ => .unless fun _ => ?_
    simp only [Bool.or_eq_true, not_or, Bool.not_eq_true] at ho
    obtain ⟨⟨⟨-, -⟩, hov⟩, hcv⟩ := ho
    refine Event.Runs.touchAll ?_
    refine Relation.ReflTransGen.trans (Change.defineChute c p elevation volume ?_).stages
      (Change.bindLines (roles := chuteRoles c ov cv ol cl lc) ?_ ?_).stages
    · simpa using hclosed
    · simpa [chuteRoles, LineFn.isOutput] using ⟨outputInBankF_eq_false hov, outputInBankF_eq_false hcv⟩
    · simp [chuteRoles]

theorem State.defineStationReply_runs (station tip group : Nat) (s : State) :
    (s.defineStationReply station tip group).Runs s := by
  refine .of_withIndex fun k => .unless fun hm => .unless fun _ => ?_
  split
  case h_2 => exact trivial
  case h_1 t _ =>
    refine .unless fun _ => .unless fun ht => .unless fun _ => .unless fun _ => ?_
    simp only [Bool.not_eq_true', Bool.not_eq_false, modeAllows_iff] at hm
    exact Event.Runs.touchAll (Change.defineStation k t group (hm.imp_right And.right) (by simpa using ht)).stages

theorem State.defineBreakerReply_runs (go code0 code1 inPosition grizzlyClear parked : Option Nat) (s : State) :
    (s.defineBreakerReply go code0 code1 inPosition grizzlyClear parked).Runs s := by
  refine .unless fun _ => ?_
  split
  case h_2 => exact trivial
  case h_1 g c0 c1 ip gc pk _ =>
    refine .unless fun ho => .unless fun _ => .unless fun hc => ?_
    simp only [Bool.or_eq_true, not_or, Bool.not_eq_true] at ho
    obtain ⟨⟨hg, hc0⟩, hc1⟩ := ho
    refine Event.Runs.bindLines ?_ ?_ ?_ (by simpa using hc)
    · simpa [breakerRoles, LineFn.isOutput] using
        ⟨outputInBankF_eq_false hg, outputInBankF_eq_false hc0, outputInBankF_eq_false hc1⟩
    · simp [breakerRoles]
    · simp [breakerRoles]

theorem State.defineEstopReply_runs (estop : Option Nat) (s : State) : (s.defineEstopReply estop).Runs s := by
  refine .unless fun _ => ?_
  split
  case h_2 => exact trivial
  case h_1 l _ =>
    refine .unless fun _ => .unless fun hc => ?_
    exact Event.Runs.bindLines (by simp [LineFn.isOutput]) (by simp) (by simp) (by simpa using hc)

/-- A choice of the scanner sees neither passes nor lines. -/
theorem State.wakeScanner_congr {s t : State} (hs : t.scanner = s.scanner) (he : ∀ ch, t.enabled ch = s.enabled ch) :
    t.wakeScanner.scanner = s.wakeScanner.scanner := by
  have hf : t.enabled = s.enabled := funext he
  unfold State.wakeScanner State.chooseConversion
  rw [hs, hf]
  split
  · exact hs
  · split <;> rfl

theorem Event.Runs.channelsPasses {s : State} {cs : Vector Channel 8} {sc : Scanner} {ps : Vector Pass 6}
    (hsc : s.scannerLawful = true → State.scannerLawful { s with channels := cs, scanner := sc } = true)
    (hps : ∀ p : PassIdx, (s.pass p).Evolves ps[p]) :
    (Event.of s).Runs (Event.of { s with passes := ps, channels := cs, scanner := sc }) := by
  have hchannels : (Event.of s).Runs ((Event.of s).update fun s => { s with channels := cs, scanner := sc }) :=
    .update (.channels cs sc hsc) fun e => .channels cs sc e
  exact hchannels.trans (.update (f := fun s => { s with passes := ps }) (.passes ps hps) fun e => .passes ps e)

/-- A changed channel, and BLIND where its pass loses its last usable one (R41). -/
theorem State.changeChannel_eq (s : State) (ch : ChannelIdx) (f : Channel → Channel) :
    ∃ ps : Vector Pass 6, (∀ p : PassIdx, (s.pass p).Evolves ps[p])
      ∧ s.changeChannel ch f = { s with passes := ps, channels := (s.modChannel ch f).channels } := by
  rcases s.changeChannel_cases ch f with h | ⟨p, -, -, -, h⟩
  · exact ⟨s.passes, fun p => .refl _, h⟩
  · rcases State.loseUse_cases p (s.modChannel ch f) with h' | ⟨-, -, h'⟩
    · exact ⟨s.passes, fun p => .refl _, h.trans h'⟩
    · refine ⟨(s.modPass p fun q => { q with conds := raise .blind q.conds }).passes, fun i => ?_, h.trans h'⟩
      change (s.pass i).Evolves ((s.modPass p _).pass i)
      rw [State.modPass_pass]
      split
      case isTrue hi => subst hi; exact .conds _ _
      case isFalse => exact .refl _

/-- A channel that is not listed once it is defined anew is not enabled, before or after. -/
theorem State.modChannel_define_enabled {s : State} {ch : ChannelIdx} {a : Option PassIdx} {zeroAt span : Nat}
    (hl : (s.modChannel ch (Channel.define a zeroAt span)).listed ch = false) (i : ChannelIdx) :
    (s.modChannel ch (Channel.define a zeroAt span)).enabled i = s.enabled i := by
  by_cases hi : i = ch
  · subst hi
    simp only [State.listed, State.modChannel_channel_self, State.modChannel_breaker, Channel.define] at hl
    simp only [State.enabled, State.modChannel_channel_self, State.modChannel_breaker, Channel.define, hl, Bool.and_false]
  · simp only [State.enabled, State.modChannel_channel_ne _ _ _ hi, State.modChannel_breaker]

theorem State.bindLines_of_channelsPasses (s : State) (ps : Vector Pass 6) (ch : ChannelIdx) (f : Channel → Channel)
    (roles : Roles) : State.bindLines roles { s with passes := ps, channels := (s.modChannel ch f).channels }
      = { s.bindLines roles with passes := ps, channels := ((s.bindLines roles).modChannel ch f).channels } := by
  simp only [State.modChannel, State.bindLines, State.mapLines, State.channel, State.line]

/-- What DEFINE CHANNEL leaves of the scanner: an idle one takes the channel where it is listed (R34). -/
theorem Event.Runs.defineChannel {u s1 : State} {ch : ChannelIdx} {a : Option PassIdx} {zeroAt span : Nat}
    {ps : Vector Pass 6} (hps : ∀ p : PassIdx, (u.pass p).Evolves ps[p])
    (hs1 : s1 = { u with passes := ps, channels := (u.modChannel ch (Channel.define a zeroAt span)).channels }) :
    (Event.of u).Runs (Event.of (if s1.listed ch then s1.wakeScanner else s1)) := by
  have hscanner : s1.scanner = (u.modChannel ch (Channel.define a zeroAt span)).scanner := by rw [hs1]; rfl
  have henabled (i : ChannelIdx) : s1.enabled i = (u.modChannel ch (Channel.define a zeroAt span)).enabled i := by
    rw [hs1]; rfl
  have hlisted : s1.listed ch = (u.modChannel ch (Channel.define a zeroAt span)).listed ch := by rw [hs1]; rfl
  by_cases hl : s1.listed ch = true
  · rw [if_pos hl, State.wakeScanner_eq, State.wakeScanner_congr hscanner henabled, hs1]
    have hlawful := State.wakeScanner_lawful (u.modChannel ch (Channel.define a zeroAt span))
    rw [State.wakeScanner_eq] at hlawful
    generalize (u.modChannel ch (Channel.define a zeroAt span)).wakeScanner.scanner = sc at hlawful ⊢
    exact .channelsPasses (fun _ => hlawful) hps
  · rw [if_neg hl, hs1]
    refine .channelsPasses (sc := u.scanner) (fun h => ?_) hps
    exact (State.scannerLawful_congr (s := u) (t := u.modChannel ch (Channel.define a zeroAt span)) rfl
      (State.modChannel_define_enabled (by rw [← hlisted]; simpa using hl))).trans h

/-- A channel is defined anew, its loss of use is handed on, its test line is bound, and an idle scanner takes it
where it is listed (R31, R34, R41). -/
theorem State.defineChannel_runs (s : State) (ch : ChannelIdx) (a : Option PassIdx) (zeroAt span : Nat)
    (l : Option LineIdx) (ho : ∀ i, l = some i → inBankF i = false)
    (hc : s.lineConflict [(.test ch, l)] = false) :
    let s1 := (s.changeChannel ch (Channel.define a zeroAt span)).bindLines [(.test ch, l)]
    (Event.of s).Runs (Event.of (if s1.listed ch then s1.wakeScanner else s1)) := by
  intro s1
  have hbind : (Event.of s).Runs ((Event.of s).update (State.bindLines [(.test ch, l)])) :=
    Event.Runs.bindLines (by simpa [LineFn.isOutput] using ho) (by simp) (by simp) hc
  obtain ⟨ps, hps, hchange⟩ := s.changeChannel_eq ch (Channel.define a zeroAt span)
  refine hbind.trans (.defineChannel (u := s.bindLines [(.test ch, l)]) (a := a) (zeroAt := zeroAt) (span := span)
    (fun p => by simpa using hps p) ?_)
  exact (congrArg (State.bindLines [(.test ch, l)]) hchange).trans
    (State.bindLines_of_channelsPasses s ps ch (Channel.define a zeroAt span) _)

theorem State.defineChannelReply_runs (channel : Nat) (assignment : Option Nat) (zeroAt span : Nat)
    (testLine : Option Nat) (s : State) : (s.defineChannelReply channel assignment zeroAt span testLine).Runs s := by
  refine .of_withIndex fun ch => .unless fun _ => .unless fun _ => ?_
  split
  case h_2 => exact trivial
  case h_1 a l _ _ =>
    refine .unless fun ho => .unless fun _ => .unless fun _ => .unless fun hc => ?_
    simp only [Bool.or_eq_true, not_or, Bool.not_eq_true] at ho
    exact s.defineChannel_runs ch a zeroAt span l (outputInBankF_eq_false ho.2) (by simpa using hc)

end Sys2Proof.Machine
end

section
/-! What the events of the clearances and of the station modes are made of. -/

namespace Sys2Proof.Machine

/-! ## Retirement -/

theorem Event.foldl_triggerArbiter_st (f : TipIdx → PassIdx) (ts : List TipIdx) (ev : Event) :
    (ts.foldl (fun ev t => ev.triggerArbiter (f t)) ev).st = ev.st := by
  induction ts generalizing ev with
  | nil => rfl
  | cons t ts ih => exact ih _

theorem Event.foldl_triggerArbiter_touched (f : TipIdx → PassIdx) (ts : List TipIdx) (ev : Event) :
    (ts.foldl (fun ev t => ev.triggerArbiter (f t)) ev).touched = ev.touched := by
  induction ts generalizing ev with
  | nil => rfl
  | cons t ts ih => exact ih _

theorem Event.endService_st (p : PassIdx) (ev : Event) : (ev.endService p).st = ev.st.modPass p Pass.leaveService := by
  unfold Event.endService
  dsimp only
  split <;> rfl

theorem Event.endService_touched (p : PassIdx) (ev : Event) : (ev.endService p).touched = ev.touched := by
  unfold Event.endService
  dsimp only
  split <;> rfl

/-- The entry is an IN_FORCE SERVICE entry on the pass (R139). -/
def Entry.serves (x : Entry) (p : PassIdx) : Prop := x.kind = .service ∧ x.pass = some p ∧ x.state = .inForce

/-- A retirement without what it triggers: the entry is free, and its pass may leave service (R138). -/
def Event.cleared (e : EntryIdx) (ev : Event) : Event :=
  let ev1 := ev.update (State.modEntry e fun _ => Entry.reset)
  match (ev.st.entry e).kind, (ev.st.entry e).pass with
  | .service, some p =>
      if (ev.st.entry e).state = ClearanceState.inForce ∧ ev1.st.serviceInForce p = false then ev1.endService p else ev1
  | .service, none => ev1
  | .entry, _ => ev1
  | .equipment, _ => ev1

theorem Event.retire_st (e : EntryIdx) (ev : Event) : (ev.retire e).st = (ev.cleared e).st := by
  unfold Event.retire
  dsimp only
  split <;> exact Event.foldl_triggerArbiter_st ..

theorem Event.retire_touched (e : EntryIdx) (ev : Event) : (ev.retire e).touched = (ev.cleared e).touched := by
  unfold Event.retire
  dsimp only
  split <;> exact Event.foldl_triggerArbiter_touched ..

/-- Retirement clears the entry, and gives its pass back where no other entry keeps it in service (R138). -/
theorem Event.cleared_cases (e : EntryIdx) (ev : Event) :
    (ev.cleared e = ev.update (State.modEntry e fun _ => Entry.reset) ∧ ∀ p, (ev.st.entry e).serves p →
        (ev.st.modEntry e fun _ => Entry.reset).serviceInForce p = true)
      ∨ ∃ p, (ev.st.entry e).serves p ∧ (ev.st.modEntry e fun _ => Entry.reset).serviceInForce p = false
        ∧ ev.cleared e = (ev.update (State.modEntry e fun _ => Entry.reset)).endService p := by
  unfold Event.cleared
  dsimp only
  split
  case h_1 p hk hp =>
    split
    case isTrue h => exact .inr ⟨p, ⟨hk, hp, h.1⟩, h.2, rfl⟩
    case isFalse h =>
      refine .inl ⟨rfl, fun p' ⟨_, hp', hs⟩ => ?_⟩
      obtain rfl : p = p' := Option.some.inj (hp.symm.trans hp')
      exact Bool.not_eq_false _ ▸ fun hn => h ⟨hs, hn⟩
  case h_2 hk hp => exact .inl ⟨rfl, fun p' ⟨_, hp', _⟩ => by simp [hp] at hp'⟩
  case h_3 hk => exact .inl ⟨rfl, fun p' ⟨hk', _, _⟩ => by simp [hk] at hk'⟩
  case h_4 hk => exact .inl ⟨rfl, fun p' ⟨hk', _, _⟩ => by simp [hk] at hk'⟩

/-! ## Entries -/

theorem State.modEntry_hardensAt {s : State} {e i : EntryIdx} {f : Entry → Entry} (h : i ≠ e) :
    s.HardensAt (s.modEntry e f) i := by
  refine .entries (es := (s.modEntry e f).entries) ?_
  change (s.entry i).Evolves ((s.modEntry e f).entry i)
  rw [State.modEntry_entry_ne _ _ _ h]
  exact .refl _

theorem Event.Runs.retire {e : EntryIdx} {ev : Event} (hu : (ev.st.entry e).inUse = true) :
    ev.Runs (ev.retire e) := by
  refine ⟨(Change.retire e rfl hu).stages, fun {X} hX i hi => ?_⟩
  have hclear : (ev.update (State.modEntry e fun _ => Entry.reset)).Seen X := by
    intro i hi
    by_cases hie : i = e
    · subst hie
      simp [State.awaits, Entry.reset] at hi
    · exact hX i ((State.modEntry_hardensAt hie).awaits hi)
  rw [Event.retire_st] at hi
  rw [Event.retire_touched]
  rcases ev.cleared_cases e with ⟨h, -⟩ | ⟨p, -, -, h⟩
  · rw [h] at hi ⊢
    exact hclear i hi
  · rw [h, Event.endService_st] at hi
    rw [h, Event.endService_touched]
    exact hclear i ((State.HardensAt.passes _ i).awaits hi)

/-- A settling test of the changed entry is made. -/
theorem Event.Runs.modEntry_touch {ev : Event} (e : EntryIdx) {f : Entry → Entry}
    (h : (ev.st.entry e).Evolves (f (ev.st.entry e))) : ev.Runs ((ev.update (State.modEntry e f)).touch [e]) :=
  (Event.Runs.modEntry e h).trans (.touch _ _)

/-! ## POST CLEARANCE -/

theorem Event.Runs.post {e : EntryIdx} {x : Entry} {ev : Event} (hfree : (ev.st.entry e).inUse = false)
    (hx : x.lawful = true) (hs : x.state = .pending) (hp : ∀ p, x.pass = some p → (ev.st.pass p).defined = true) :
    ev.Runs (ev.post e x) := by
  refine ⟨.single (.post e x rfl hfree hx hs hp), fun {X} hX => ?_⟩
  have htaken : (ev.update (State.modEntry e fun _ => x)).Seen fun i => X i ∨ i = e := by
    refine (hX.mono fun _ => .inl).of_hardens (fun i => ?_) fun _ => id
    by_cases hie : i = e
    · exact .inr (.inl (.inr hie))
    · exact .inr (.inr (State.modEntry_hardensAt (s := ev.st) (f := fun _ => x) hie))
  unfold Event.post
  dsimp only
  have hstilled := (Event.Runs.abortWhere (State.coversChute (ev.update (State.modEntry e fun _ => x)).st e) _).seen
    ((Event.Runs.revokeWhere (fun t => (ev.update (State.modEntry e fun _ => x)).st.coversTip e t
      && decide (((ev.update (State.modEntry e fun _ => x)).st.tip t).state = .granted)) _).seen htaken)
  refine Event.Seen.touch [e] (Y := fun i => X i ∨ i = e) ?_ fun i hi => hi.symm.imp_left (by simp)
  split
  case isTrue h =>
    refine (Event.Runs.abortBreaker (BreakerState.goes_iff.mpr ?_)).seen hstilled
    simp only [State.breakerReached, Bool.and_eq_true, decide_eq_true_eq] at h
    exact h.1
  case isFalse => exact hstilled

theorem badTag_eq_false_iff {tag : Nat} : badTag tag = false ↔ 1 ≤ tag ∧ tag ≤ 65534 := by
  simp only [badTag, outside, decide_eq_false_iff_not]
  omega

theorem postedEntry_lawful (kind : ClearanceKind) (pass : Option PassIdx) (low high : Nat) (tips : BitVec 16)
    (chutes : BitVec 8) (breaker : Bool) {tag : Nat} (settleTime : Nat) (h : badTag tag = false) :
    (postedEntry kind pass low high tips chutes breaker tag settleTime).lawful = true := by
  have htag := badTag_eq_false_iff.mp h
  rw [Entry.lawful_iff_of_inUse rfl]
  simpa [postedEntry, Entry.reset] using htag

theorem postedEntry_pass {kind : ClearanceKind} {pass : Option PassIdx} {low high : Nat} {tips : BitVec 16}
    {chutes : BitVec 8} {breaker : Bool} {tag settleTime : Nat} {p : PassIdx}
    (h : (postedEntry kind pass low high tips chutes breaker tag settleTime).pass = some p) : pass = some p := by
  cases kind with
  | equipment => cases h
  | entry => exact h
  | service => exact h

theorem State.freeEntry_free {s : State} {e : EntryIdx} (h : s.freeEntry = some e) : (s.entry e).inUse = false := by
  simpa using List.find?_some h

theorem State.posted_runs {s : State} {e : EntryIdx} {x : Entry} (he : s.freeEntry = some e)
    (hx : x.lawful = true) (hs : x.state = .pending) (hp : ∀ p, x.pass = some p → (s.pass p).defined = true) :
    (s.posted e x).Runs s :=
  Event.Runs.post (ev := Event.of s) (State.freeEntry_free he) hx hs hp

theorem State.postReply_runs (kind pass low high : Nat) (tips : BitVec 16) (chutes : BitVec 8) (breaker : Bool)
    (tag : Nat) (s : State) : (s.postReply kind pass low high tips chutes breaker tag).Runs s := by
  unfold State.postReply
  split
  case h_1 => exact trivial
  case h_2 e he =>
    split
    case h_1 => exact trivial
    case h_2 =>
      refine .unless fun ht => ?_
      exact State.posted_runs he (postedEntry_lawful _ _ _ _ _ _ _ _ (by simpa using ht)) rfl
        fun p hp => by cases postedEntry_pass hp
    case h_3 =>
      split
      case h_1 => exact trivial
      case h_2 p _ =>
        refine .unless fun ht => .unless fun hd => ?_
        refine State.posted_runs he (postedEntry_lawful _ _ _ _ _ _ _ _ (by simpa using ht)) rfl fun p' hp => ?_
        obtain rfl := Option.some.inj (postedEntry_pass hp)
        simpa using hd
    case h_4 =>
      split
      case h_1 => exact trivial
      case h_2 p _ =>
        refine .unless fun ht => .unless fun hd => .unless fun _ => ?_
        simp only [Bool.or_eq_true, not_or, Bool.not_eq_true] at ht
        refine State.posted_runs he (postedEntry_lawful _ _ _ _ _ _ _ _ ht.1) rfl fun p' hp => ?_
        obtain rfl := Option.some.inj (postedEntry_pass hp)
        simpa using hd

/-! ## JOIN, LEAVE and CANCEL -/

theorem Entry.Evolves.holders {x : Entry} (hu : x.inUse = true) {tags : List Nat}
    (h : 1 ≤ x.holders.length ∧ x.holders.length ≤ 4 ∧ x.holders.Nodup
        ∧ (∀ tag ∈ x.holders, 1 ≤ tag ∧ tag ≤ 65534) →
      1 ≤ tags.length ∧ tags.length ≤ 4 ∧ tags.Nodup ∧ ∀ tag ∈ tags, 1 ≤ tag ∧ tag ≤ 65534) :
    x.Evolves { x with holders := tags } := by
  refine .of_inUse hu rfl rfl rfl rfl rfl rfl rfl rfl .rfl ?_
  rintro ⟨h1, h2, h3, h4, h5⟩
  obtain ⟨h1', h2', h3', h4'⟩ := h ⟨h1, h2, h3, h4⟩
  exact ⟨h1', h2', h3', h4', h5⟩

theorem State.joinReply_runs (entry tag : Nat) (s : State) : (s.joinReply entry tag).Runs s := by
  refine .of_withIndex fun e => .unless fun hu => .unless fun ht => .unless fun hd => .unless fun hl => ?_
  refine Event.Runs.modEntry_touch (ev := Event.of s) e (.holders (by simpa using hu) ?_)
  rintro ⟨h1, -, h3, h4⟩
  have htag := badTag_eq_false_iff.mp (Bool.not_eq_true _ ▸ ht)
  refine ⟨by simp, by simp [Config.holdersMax] at hl ⊢; omega, ?_, ?_⟩
  · simpa [List.nodup_append] using ⟨h3, fun t h => (fun he => hd (he ▸ h) : t ≠ tag)⟩
  · simp only [List.mem_append, List.mem_singleton]
    rintro t (h | rfl)
    · exact h4 t h
    · exact htag

theorem State.leaveReply_runs (entry tag : Nat) (s : State) : (s.leaveReply entry tag).Runs s := by
  refine .of_withIndex fun e => .unless fun hu => .unless fun _ => .unless fun _ => ?_
  split
  · exact Event.Runs.retire (ev := Event.of s) (by simpa using hu)
  case isFalse hne =>
    refine Event.Runs.modEntry_touch (ev := Event.of s) e (.holders (by simpa using hu) ?_)
    rintro ⟨-, h2, h3, h4⟩
    exact ⟨List.length_pos_iff.mpr hne, (List.length_erase_le ..).trans h2, h3.erase _,
      fun t ht => h4 t (List.mem_of_mem_erase ht)⟩

theorem State.cancelReply_runs (entry : Nat) (s : State) : (s.cancelReply entry).Runs s :=
  .of_withIndex fun e => .unless fun hu => .unless fun _ => Event.Runs.retire (ev := Event.of s) (by simpa using hu)

end Sys2Proof.Machine
end

section
/-! What the events of the station modes are made of, and the debits and measurements that reach a pass. -/

namespace Sys2Proof.Machine

/-! ## START, RESUME and SETUP -/

theorem Event.Runs.enterRun (ev : Event) : ev.Runs ev.enterRun := .trigger rfl fun _ => id

theorem Event.Runs.start {ev : Event} (hm : ev.st.station.mode = .setup) : ev.Runs ev.start := by
  have h : ev.Runs (ev.update fun s => (s.modStation fun x => { x with mode := .run }).mapPasses fun _ q => q.start) :=
    .update (.start hm) fun e => (State.HardensAt.control _ e).trans (.passes _ e)
  exact h.trans (.enterRun _)

theorem State.startReply_runs (s : State) : s.startReply.Runs s := by
  refine .unless fun hm => ?_
  split
  · exact trivial
  · exact .unless fun _ => Event.Runs.start (ev := Event.of s) (by simpa using hm)

theorem State.enterSetup_hardensAt (s : State) (e : EntryIdx) : s.HardensAt s.enterSetup e := by
  let s1 := (s.modStation fun x => { x with mode := .setup }).mapPasses fun _ q => { q with waiting := [] }
  let s2 := s1.mapTips fun _ x => { x with state := if x.state = .waiting then .idle else x.state }
  have h1 : s.HardensAt s1 e := (State.HardensAt.control _ e).trans (.passes _ e)
  have h2 : s1.HardensAt s2 e := by
    refine .tips (ts := s2.tips) (fun t => ?_) fun t _ hg => ?_
    · change (s2.tip t).defined = _ ∧ (s2.tip t).pass = _ ∧ (s2.tip t).elevation = _
      rw [show s2.tip t = _ from State.mapTips_tip ..]
      exact ⟨rfl, rfl, rfl⟩
    · change (s2.tip t).state = .granted
      rw [show s2.tip t = _ from State.mapTips_tip ..]
      simp [hg]
  have hchute (c : ChuteIdx) : Chute.Evolves s2 c (s2.chute c) (s.enterSetup.chute c) := by
    rw [show s.enterSetup.chute c = _ from State.mapChutes_chute ..]
    exact .of_same rfl rfl rfl rfl rfl rfl rfl rfl rfl id
  refine h1.trans (h2.trans (.chutes (cs := s.enterSetup.chutes) hchute fun c _ hc => ?_))
  change (s.enterSetup.chute c).state = .closed at hc
  rwa [show s.enterSetup.chute c = _ from State.mapChutes_chute ..] at hc

theorem State.setupReply_runs (s : State) : s.setupReply.Runs s :=
  .unless fun hm => .update (.setup (by simpa using hm)) s.enterSetup_hardensAt

theorem State.resumeReply_runs (s : State) : s.resumeReply.Runs s := by
  refine .unless fun _ => ?_
  have hclear : (Event.of s).Runs ((Event.of s).update (State.modStation fun x => { x with causes := HaltCauses.empty })) :=
    .control rfl
  dsimp only
  split
  case h_1 hm =>
    exact hclear.trans ((Event.Runs.update (f := State.modStation fun x => { x with mode := .run }) (.resume hm)
      fun e => .control _ e).trans (.enterRun _))
  case h_2 => exact hclear
  case h_3 => exact .refl _

/-! ## Halts -/

theorem Event.Runs.halt (cause : HaltCause) (ev : Event) : ev.Runs (ev.halt cause) := by
  refine ⟨.single (.halt cause rfl), fun {X} hX => ?_⟩
  have hmode : (ev.update (State.modStation fun x =>
      { x with mode := .halted, causes := x.causes.add cause, conds := raise .halted x.conds })).Seen X :=
    hX.of_hardens (fun e => .inr (.inr (.control _ e))) fun _ => id
  exact (Event.Runs.haltBreaker _).seen ((Event.Runs.abortWhere _ _).seen ((Event.Runs.revokeWhere _ _).seen hmode))

theorem Event.Runs.callHalt (cause : HaltCause) (ev : Event) : ev.Runs (ev.callHalt cause) := by
  unfold Event.callHalt
  split
  · exact .halt cause ev
  · exact .control rfl
  · exact .refl ev

theorem State.stopReply_runs (s : State) : s.stopReply.Runs s := .unless fun _ => Event.Runs.callHalt _ _

end Sys2Proof.Machine
end

section
/-! What the edges of lines are made of (R171). -/

namespace Sys2Proof.Machine

/-! ## Edges at a tip point -/

theorem Event.Runs.callEdge (t : TipIdx) (rising : Bool) (ev : Event) : ev.Runs (ev.callEdge t rising) := by
  unfold Event.callEdge
  dsimp only
  split
  · split
    case isTrue h =>
      simp only [Bool.and_eq_true, decide_eq_true_eq] at h
      exact .placeCall h.1 h.2
    case isFalse => exact .refl ev
  · split
    case isTrue h =>
      simp only [Bool.and_eq_true, decide_eq_true_eq] at h
      exact .withdrawCall h.2.1
    case isFalse => exact .refl ev

theorem Event.Runs.lapse {t : TipIdx} {ev : Event} (h : (ev.st.tip t).state = .granted) : ev.Runs (ev.lapse t) :=
  (Event.Runs.endGrant h).trans (.modTip t (.conds _ _))

theorem Event.Runs.tipArrives (t : TipIdx) (ev : Event) : ev.Runs (ev.tipArrives t) := by
  have h1 : ∃ ev1, ev.Runs ev1 ∧ ev1.st.entries = ev.st.entries ∧ ev.tipArrives t
      = (ev1.changeFill (ev.st.tip t).pass (Pass.credit (ev.st.tip t).load)).update
          (State.recordBreach (ev.st.coversTip · t) .tipSensed t) := by
    by_cases hg : (ev.st.tip t).state = .granted
    · exact ⟨_, .endGrant hg, rfl, by simp [Event.tipArrives, hg]⟩
    · exact ⟨_, .modTip t (f := fun x => { x with conds := raise .ungrantedTip x.conds }) (.conds _ _), rfl,
        by simp [Event.tipArrives, hg]⟩
  obtain ⟨ev1, hruns, hentries, heq⟩ := h1
  rw [heq]
  refine (hruns.trans (.changeFill _ (.credit _ _))).trans (.recordBreach _ _ fun e he => ?_)
  rw [Event.changeFill_st]
  change (ev1.st.entries[e]).inUse = true
  rw [hentries]
  exact (State.inUse_of_coversTip he).1

theorem Event.Runs.sensorEdge (t : TipIdx) (rising : Bool) (ev : Event) : ev.Runs (ev.sensorEdge t rising) := by
  unfold Event.sensorEdge
  split
  · exact .tipArrives t ev
  · exact .refl ev

theorem Event.Runs.judgeBlocking (t : TipIdx) (ev : Event) : ev.Runs (ev.judgeBlocking t) := by
  unfold Event.judgeBlocking
  split
  · exact .refl ev
  · exact .triggerArbiter _ ev

theorem State.levelsLawful_iff {s : State} : s.levelsLawful = true ↔ ∀ t, (s.tip t).level ≤ 7 := by
  simp [State.levelsLawful]

theorem Event.Runs.oversizeEdge (t : TipIdx) (rising : Bool) (ev : Event) : ev.Runs (ev.oversizeEdge t rising) := by
  unfold Event.oversizeEdge
  dsimp only
  split
  case h_1 => exact .refl ev
  case h_2 k _ =>
    split
    · exact .refl ev
    · split
      · split
        case isTrue => exact .refl ev
        case isFalse h =>
          simp only [Bool.or_eq_true, not_or, Bool.not_eq_true, Bool.not_eq_false', decide_eq_false_iff_not] at h
          obtain ⟨⟨hd, -⟩, hl⟩ := h
          exact .arrive .oversize hd fun hlevels =>
            ⟨Nat.one_le_iff_ne_zero.mpr hl, State.levelsLawful_iff.mp hlevels t⟩
      · exact (Event.Runs.modBst k ⟨rfl, rfl⟩).trans (.judgeBlocking t _)

/-! ## Edges at a chute -/

theorem Event.Runs.openLimitEdge (c : ChuteIdx) (rising : Bool) (ev : Event) :
    ev.Runs (ev.openLimitEdge c rising) := by
  unfold Event.openLimitEdge
  dsimp only
  split
  case isTrue h =>
    simp only [Bool.and_eq_true, decide_eq_true_eq] at h
    exact .modChute_touchChute c (.hold h.2)
  case isFalse => exact .refl ev

theorem Event.Runs.loadCallEdge (c : ChuteIdx) (rising : Bool) (ev : Event) : ev.Runs (ev.loadCallEdge c rising) := by
  have hmod (b : Bool) : ev.Runs (ev.update (State.modChute c fun x =>
      { x with callPending := b, emptyReported := false, cushionReported := false })) :=
    .modChute c (.of_same rfl rfl rfl rfl rfl rfl rfl rfl rfl id) id
  unfold Event.loadCallEdge
  dsimp only
  split
  · exact .refl ev
  · split
    · exact .refl ev
    · split
      · exact (hmod _).trans (.triggerTries _ _)
      · split
        · exact hmod _
        · exact .refl ev

theorem Event.Runs.noteRestart (c : ChuteIdx) {waits : Bool} {ev : Event}
    (hw : waits = true → ev.st.waitsNext (.strokeTimerExpiry c) = true) : ev.Runs (ev.noteRestart c waits) := by
  refine .modChute c ⟨rfl, rfl, rfl, id, .inl, .inl, fun h => .inr (hw ?_)⟩ id
  simp only [Bool.and_eq_true] at h
  exact h.1

theorem State.waitsNext_of_strokeExpiryWaits {s : State} {c : ChuteIdx} (h : s.strokeExpiryWaits c = true) :
    s.waitsNext (.strokeTimerExpiry c) = true := by
  simp only [State.strokeExpiryWaits, Bool.and_eq_true] at h
  exact h.2

theorem State.modChute_coversChute_of_place {s : State} {c : ChuteIdx} {f : Chute → Chute}
    (hd : (f (s.chute c)).defined = (s.chute c).defined) (hp : (f (s.chute c)).pass = (s.chute c).pass)
    (he : (f (s.chute c)).elevation = (s.chute c).elevation) (e : EntryIdx) (i : ChuteIdx) :
    (s.modChute c f).coversChute e i = s.coversChute e i := by
  have hi : (s.modChute c f).chutes[i] = (s.modChute c f).chute i := rfl
  refine State.coversChute_of_chutes (cs := (s.modChute c f).chutes) ?_ ?_ ?_ e
  all_goals rw [hi, State.modChute_chute]; split
  case refine_1.isTrue h' => exact h' ▸ hd
  case refine_2.isTrue h' => exact h' ▸ hp
  case refine_3.isTrue h' => exact h' ▸ he
  all_goals rfl

theorem Event.noteRestart_coversChute (c : ChuteIdx) (waits : Bool) (ev : Event) (e : EntryIdx) (i : ChuteIdx) :
    (ev.noteRestart c waits).st.coversChute e i = ev.st.coversChute e i :=
  State.modChute_coversChute_of_place rfl rfl rfl e i

/-- A gate that has closed (R88). -/
def Chute.seated (x : Chute) : Chute := { x with state := .closed, strokeTimer := none, reachedOpen := false }

theorem Event.closedLimitRises_of_closing {c : ChuteIdx} {ev : Event} (h : (ev.st.chute c).state = .closing) :
    ev.closedLimitRises c = ((ev.update (State.modChute c Chute.seated)).triggerTries [c]).noteRestart c
      (ev.st.strokeExpiryWaits c) := by
  simp only [Event.closedLimitRises, h]
  rfl

theorem Event.closedLimitRises_of_reclosing {c : ChuteIdx} {ev : Event} (h : (ev.st.chute c).state = .reclosing) :
    ev.closedLimitRises c = (ev.finalise c ((ev.st.chute c).pendingProof.getD .fail)).noteRestart c
      (ev.st.strokeExpiryWaits c) := by
  simp only [Event.closedLimitRises, h]

theorem Event.closedLimitRises_of_closed {c : ChuteIdx} {ev : Event} (h : (ev.st.chute c).state = .closed) :
    ev.closedLimitRises c = ev.triggerTries [c] := by
  simp only [Event.closedLimitRises, h]

theorem Event.closedLimitRises_of_moving {c : ChuteIdx} {ev : Event} (h : (ev.st.chute c).state.moving = true) :
    ev.closedLimitRises c = ev := by
  cases hx : (ev.st.chute c).state with
  | closed => rw [hx] at h; cases h
  | closing => rw [hx] at h; cases h
  | reclosing => rw [hx] at h; cases h
  | opening => simp only [Event.closedLimitRises, hx]
  | holding => simp only [Event.closedLimitRises, hx]
  | nudging => simp only [Event.closedLimitRises, hx]

/-- A step of an event that only the entries covering one chute have still to see. -/
structure Event.RunsAt (c : ChuteIdx) (a b : Event) : Prop where
  stages : Stages a.st b.st
  seen : ∀ {X : EntryIdx → Prop}, a.Seen (a.st.orCovers X c) → b.Seen (a.st.orCovers X c)
  covers : ∀ e, b.st.coversChute e c = a.st.coversChute e c

theorem Event.Runs.runsAt {c : ChuteIdx} {a b : Event} (h : a.Runs b)
    (hc : ∀ e, b.st.coversChute e c = a.st.coversChute e c) : a.RunsAt c b := ⟨h.stages, h.seen, hc⟩

theorem Event.RunsAt.trans {c : ChuteIdx} {a b d : Event} (h : a.RunsAt c b) (h' : b.RunsAt c d) : a.RunsAt c d where
  stages := h.stages.trans h'.stages
  seen {X} hX := by
    have he : b.st.orCovers X c = a.st.orCovers X c := by
      funext e
      simp only [State.orCovers, h.covers]
    exact he ▸ h'.seen (he.symm ▸ h.seen hX)
  covers e := (h'.covers e).trans (h.covers e)

/-- A chute changes, which the entries that cover it have still to see. -/
theorem Event.RunsAt.modChute {c : ChuteIdx} {ev : Event} {f : Chute → Chute}
    (h : Chute.Evolves ev.st c (ev.st.chute c) (f (ev.st.chute c))) : ev.RunsAt c (ev.update (State.modChute c f)) where
  stages := (Change.modChute c h).stages
  seen hX := (hX.modChute h).mono fun _ he => he.elim id .inr
  covers e := State.modChute_coversChute h e c

theorem Event.RunsAt.noteRestart {c : ChuteIdx} {waits : Bool} {ev : Event}
    (hw : waits = true → ev.st.waitsNext (.strokeTimerExpiry c) = true) : ev.RunsAt c (ev.noteRestart c waits) :=
  (Event.Runs.noteRestart c hw).runsAt fun e => ev.noteRestart_coversChute c waits e c

theorem Event.RunsAt.finalise {c : ChuteIdx} {ev : Event}
    (h : (ev.st.chute c).state = .nudging ∨ (ev.st.chute c).state = .reclosing) (result : NudgeResult) :
    ev.RunsAt c (ev.finalise c result) :=
  (Event.Runs.finalise h result).runsAt fun e => State.modChute_coversChute (.finalise h result) e c

theorem Event.RunsAt.closedLimitRises (c : ChuteIdx) (ev : Event) : ev.RunsAt c (ev.closedLimitRises c) := by
  cases hx : (ev.st.chute c).state with
  | closed =>
    rw [Event.closedLimitRises_of_closed hx]
    exact (Event.Runs.triggerTries _ _).runsAt fun _ => rfl
  | closing =>
    rw [Event.closedLimitRises_of_closing hx]
    refine (Event.RunsAt.modChute (f := Chute.seated) (.seat hx)).trans
      (((Event.Runs.triggerTries _ _).runsAt fun _ => rfl).trans (.noteRestart ?_))
    exact State.waitsNext_of_strokeExpiryWaits (s := ev.st)
  | reclosing =>
    rw [Event.closedLimitRises_of_reclosing hx]
    exact (Event.RunsAt.finalise (.inr hx) _).trans (.noteRestart (State.waitsNext_of_strokeExpiryWaits (s := ev.st)))
  | opening | holding | nudging =>
    rw [Event.closedLimitRises_of_moving (by rw [hx]; rfl)]
    exact (Event.Runs.refl ev).runsAt fun _ => rfl

theorem Event.RunsAt.closedLimitFalls (c : ChuteIdx) (ev : Event) : ev.RunsAt c (ev.closedLimitFalls c) := by
  unfold Event.closedLimitFalls
  split
  · exact .modChute (.of_same rfl rfl rfl rfl rfl rfl rfl rfl rfl id)
  case h_2 hx => exact .modChute (.reclose hx .pass)
  all_goals exact (Event.Runs.refl ev).runsAt fun _ => rfl

theorem Event.closedLimitFalls_entries (c : ChuteIdx) (ev : Event) :
    (ev.closedLimitFalls c).st.entries = ev.st.entries := by
  unfold Event.closedLimitFalls
  split <;> rfl

/-- The breach of a gate that moves leaves coverage. -/
theorem State.recordBreach_coversChute {s : State} {covers : EntryIdx → Bool}
    (h : ∀ e, covers e = true → (s.entry e).inUse = true) (cause : BreachCause) (actuator : Nat) (e : EntryIdx)
    (c : ChuteIdx) : (s.recordBreach covers cause actuator).coversChute e c = s.coversChute e c := by
  refine State.coversChute_of_entries (es := (s.recordBreach covers cause actuator).entries) ?_ c
  change (s.entry e).Evolves ((s.recordBreach covers cause actuator).entry e)
  rw [State.recordBreach_entry]
  split
  case isTrue hc =>
    simp only [Bool.and_eq_true] at hc
    exact .breach cause actuator (h e hc.1)
  case isFalse => exact .refl _

/-- The closed limit's change is an exception for the entries that cover its chute, which the edge then touches. -/
theorem Event.closedLimitEdge_sees {X : EntryIdx → Prop} (c : ChuteIdx) (rising : Bool) {ev : Event}
    (hX : ev.Seen (ev.st.orCovers X c)) :
    Stages ev.st (ev.closedLimitEdge c rising).st ∧ (ev.closedLimitEdge c rising).Seen X := by
  unfold Event.closedLimitEdge
  split
  case isTrue hd =>
    refine ⟨.refl, hX.mono fun e he => he.elim id fun hc => ?_⟩
    simp [(State.inUse_of_coversChute hc).2] at hd
  case isFalse =>
    split
    · have h := Event.RunsAt.closedLimitRises c ev
      exact ⟨h.stages, (h.seen hX).touchChute h.covers⟩
    · have h := Event.RunsAt.closedLimitFalls c ev
      have huse (e : EntryIdx) (he : ev.st.coversChute e c = true) :
          ((ev.closedLimitFalls c).st.entry e).inUse = true := by
        change ((ev.closedLimitFalls c).st.entries[e]).inUse = true
        rw [Event.closedLimitFalls_entries]
        exact (State.inUse_of_coversChute he).1
      have h' := h.trans ((Event.Runs.recordBreach .gateMoved c huse).runsAt fun e =>
        State.recordBreach_coversChute huse _ _ e c)
      exact ⟨h'.stages, (h'.seen hX).touchChute h'.covers⟩

/-! ## Edges at the breaker and the station -/

theorem Event.Runs.inPositionEdge (rising : Bool) (ev : Event) : ev.Runs (ev.inPositionEdge rising) := by
  unfold Event.inPositionEdge
  split
  case isTrue h =>
    simp only [Bool.and_eq_true, decide_eq_true_eq] at h
    exact .moveBreaker (.inPosition h.2 _ rfl)
  case isFalse => exact .refl ev

/-- A job that ends in BREAKING: the breaker moves on, and every entry sees it. -/
theorem Event.Runs.breakEnds {s : State} {j : Job} {ev : Event} (high : Bool) {found : Option Job}
    (hfound : ∀ i, found = some i → i ∈ s.breaker.jobs ∧ s.startable i = true)
    (hstate : s.breaker.state = .breaking) (hj : s.breaker.current = some j)
    (hst : ev.st = (s.modBreaker fun b => (b.relisted high j).chainOrReturn found).wakeScanner)
    (ht : ∀ e, e ∈ ev.touched) : (Event.of s).Runs ev := by
  refine ⟨?_, fun _ e _ => .inl (ht e)⟩
  rw [hst]
  exact (Change.wokenBreaker (s := s) (.chainOrReturn high hfound hstate hj)).stages

theorem Event.Runs.grizzlyClearEdge (rising : Bool) (s : State) :
    (Event.of s).Runs ((Event.of s).grizzlyClearEdge rising) := by
  unfold Event.grizzlyClearEdge
  split
  case h_1 j hj =>
    split
    case isTrue h =>
      simp only [Bool.and_eq_true, decide_eq_true_eq] at h
      rw [Event.finishBreak_of_breaking (s := s) j h.2 rfl]
      exact .breakEnds _ (fun i hi => State.pickJob_mem hi) h.2 hj rfl fun e => List.mem_finRange e
    case isFalse => exact .refl _
  case h_2 => exact .refl _

theorem Event.Runs.parkedEdge (rising : Bool) (ev : Event) : ev.Runs (ev.parkedEdge rising) := by
  unfold Event.parkedEdge
  split
  · split
    case isTrue h => exact (Event.Runs.moveBreaker (.park h)).trans (.triggerChoice _)
    case isFalse => exact .refl ev
  · exact .recordBreach _ _ fun e he => State.inUse_of_carriesBreaker he

theorem Event.Runs.deliver {f : LineFn} (rising : Bool) {s : State} (hf : ∀ c, f ≠ .closedLimit c) :
    (Event.of s).Runs ((Event.of s).deliver f rising) := by
  cases f with
  | call t => exact .callEdge t rising _
  | tipSensor t => exact .sensorEdge t rising _
  | oversize t => exact .oversizeEdge t rising _
  | openLimit c => exact .openLimitEdge c rising _
  | closedLimit c => exact absurd rfl (hf c)
  | loadCall c => exact .loadCallEdge c rising _
  | inPosition => exact .inPositionEdge rising _
  | grizzlyClear => exact .grizzlyClearEdge rising s
  | parked => exact .parkedEdge rising _
  | estop =>
    change (Event.of s).Runs (if rising then (Event.of s).callHalt .estopLine else Event.of s)
    split
    · exact .callHalt _ _
    · exact .refl _
  | lamp | openValve | closeValve | go | code0 | code1 | test => exact .refl _

/-! ## Debounced levels -/

/-- The event is made of stages, and where no settled entry waited before it misses none that awaits its settling
test. -/
def Event.Complete (s : State) (ev : Event) : Prop :=
  Stages s ev.st ∧ (s.noneSettled = true → ev.Seen fun _ => False)

theorem Event.seen_of_noneSettled {s : State} (hs : s.noneSettled = true) : (Event.of s).Seen fun _ => False :=
  fun e he => by
    change s.awaits e = true at he
    simp [State.noneSettled_iff.mp hs e] at he

theorem Event.Runs.complete {s : State} {ev : Event} (h : (Event.of s).Runs ev) : ev.Complete s :=
  ⟨h.stages, fun hs => h.seen (Event.seen_of_noneSettled hs)⟩

/-- A debounced level that was the raw level already changes none. -/
theorem State.debounced_hardensAt_of_same {s : State} {i : LineIdx} {e : EntryIdx}
    (h : (s.line i).raw = (s.line i).debounced) : s.HardensAt (s.debounced i) e := by
  refine .lines (ls := (s.debounced i).lines) (db := s.debounce) fun c _ hh => ?_
  refine (State.level_congr (s := s.debounced i) (t := s) (fun j => ?_) (fun j => ?_) _).symm.trans hh
  all_goals
    simp only [State.debounced, State.modLine_line]
    split
    case isTrue hj => simp [hj, h]
    case isFalse => rfl

/-- A debounced level that was the raw level, or that no function hears, is taken (R170). -/
theorem State.debounced_complete_of_unheard {s : State} {i : LineIdx}
    (h : (s.line i).raw = (s.line i).debounced ∨ (s.line i).binding = none) :
    (Event.of (s.debounced i)).Complete s := by
  refine ⟨(Change.debounced s i).stages, fun hs => ?_⟩
  refine (Event.seen_of_noneSettled hs).of_hardens (fun e => .inr (.inr ?_)) fun _ => id
  rcases h with hsame | hb
  · exact State.debounced_hardensAt_of_same hsame
  · exact State.debounced_hardensAt fun c _ hc => by simp [hb] at hc

/-- A debounced level is taken, and its edge delivered (R170, R171). -/
theorem State.debounced_complete_of_edge {s : State} {i : LineIdx} {f : LineFn} (hb : (s.line i).binding = some f)
    (rising : Bool) : ((Event.of (s.debounced i)).deliver f rising).Complete s := by
  have hstage : Stages s (s.debounced i) := (Change.debounced s i).stages
  by_cases hf : ∃ c, f = .closedLimit c
  · obtain ⟨c, rfl⟩ := hf
    refine ⟨hstage.trans (Event.closedLimitEdge_sees c rising (ev := Event.of (s.debounced i)) (X := fun _ => True)
      fun _ _ => .inr (.inl trivial)).1, fun hs => ?_⟩
    refine (Event.closedLimitEdge_sees c rising (ev := Event.of (s.debounced i)) ?_).2
    refine ((Event.seen_of_noneSettled hs).mono (Y := (s.debounced i).orCovers (fun _ => False) c)
      fun _ h => h.elim).of_hardens (fun e => ?_) fun _ => id
    by_cases hc : s.coversChute e c = true
    · exact .inr (.inl (.inr hc))
    · refine .inr (.inr (State.debounced_hardensAt fun c' hc' hb' => hc ?_))
      obtain rfl : c = c' := by simpa using hb.symm.trans hb'
      exact hc'
  · have h := Event.Runs.deliver (s := s.debounced i) rising (f := f) fun c hc => hf ⟨c, hc⟩
    refine ⟨hstage.trans h.stages, fun hs => h.seen ?_⟩
    refine (Event.seen_of_noneSettled hs).of_hardens (fun e => ?_) fun _ => id
    refine .inr (.inr (State.debounced_hardensAt fun c _ hb' => hf ⟨c, ?_⟩))
    exact Option.some.inj (hb.symm.trans hb')

end Sys2Proof.Machine
end

section
/-! What the expiries of timers and the conversions are made of. -/

namespace Sys2Proof.Machine

/-! ## Chutes -/

theorem Event.Runs.holdExpiry {c : ChuteIdx} {ev : Event} (h : (ev.st.chute c).state = .holding) :
    ev.Runs (((ev.update (State.modChute c Chute.close)).touchChute c).takeDebit c) :=
  (Event.Runs.modChute_touchChute c (.close (.inr h) (w := false) (fun h => by cases h))).trans (.takeDebit c _)

theorem Chute.Evolves.closeFault {s : State} {c : ChuteIdx} {x : Chute} (h : x.state = .opening) :
    Chute.Evolves s c x x.close.strokeFault :=
  (Chute.Evolves.close (.inl h) (w := false) (fun h => by cases h)).trans (t := s)
    (.of_same rfl rfl rfl rfl rfl rfl rfl rfl rfl id) rfl rfl id rfl

/-- A closing fault leaves the gate where it is, its stroke timer stopped (R91, R148). -/
theorem Chute.Evolves.strokeFault {s : State} {c : ChuteIdx} {x : Chute} (hx : x.state ≠ .opening)
    (pending : Option NudgeResult) (hp : pending.isSome = x.pendingProof.isSome) :
    Chute.Evolves s c x { x.strokeFault with strokeTimer := none, pendingProof := pending } where
  defined := rfl
  pass := rfl
  elevation := rfl
  lawful := by
    simp only [Chute.lawful_iff, Chute.strokeFault, hp]
    rintro ⟨h1, h2, -, -, h5, h6⟩
    exact ⟨h1, h2, fun h => absurd h hx, by simp, h5, h6⟩
  starts := .inl
  leaves := .inl
  stale := .inl

theorem Event.Runs.strokeExpires (c : ChuteIdx) (ev : Event) : ev.Runs (ev.strokeExpires c) := by
  unfold Event.strokeExpires
  dsimp only
  split
  case h_1 h => exact .modChute_touchChute c (.closeFault h)
  case h_2 h => exact .modChute c (.strokeFault (by simp [h]) _ rfl) id
  case h_3 h =>
    refine .modChute c (.strokeFault (by simp [h]) _ ?_) id
    split
    case isTrue hp => simp [hp]
    case isFalse => rfl
  all_goals exact .refl ev

theorem Event.Runs.clearStale (c : ChuteIdx) (ev : Event) :
    ev.Runs (ev.update (State.modChute c fun x => { x with staleExpiry := false })) :=
  .modChute c (.of_same rfl rfl rfl rfl rfl rfl rfl rfl rfl (by simp)) id

/-! ## Channels -/

theorem Event.Runs.applyMeasurement {p : PassIdx} {m : Nat} {ev : Event}
    (hm : m ≤ capacityOf (ev.st.pass p).profile) : ev.Runs (ev.applyMeasurement p m) := by
  have hself : (ev.st.modPass p (Pass.measure m)).pass p = (ev.st.pass p).measure m := State.modPass_pass_self ..
  have hand (b : Event) (h : ev.Runs b) (c : Prop) [Decidable c] : ev.Runs (if c then b.handOn p else b) := by
    split
    · exact h.trans (.handOn p b)
    · exact h
  refine hand _ ?_ _
  split
  case isTrue h =>
    refine ⟨.single (.hang p m (ev := ev.update (State.modPass p (Pass.measure m))) rfl hm h.1 (hself ▸ h.2)),
      fun {X} hX => ?_⟩
    have hpass : (ev.update (State.modPass p (Pass.measure m))).Seen X :=
      hX.of_hardens (fun e => .inr (.inr (.passes _ e))) fun _ => id
    exact (Event.Runs.abortWhere _ _).seen ((Event.Runs.revokeWhere _ _).seen hpass)
  case isFalse h => exact .modPass p (.measure hm fun hr hh => h ⟨hr, hself.symm ▸ hh⟩)

theorem Event.Runs.handMeasurement (p : PassIdx) (ch : ChannelIdx) (ev : Event) :
    ev.Runs (ev.handMeasurement p ch) := by
  unfold Event.handMeasurement
  dsimp only
  split
  case isTrue =>
    refine (Event.Runs.modPass p (f := fun q => { q with conds := raiseIf _ .disagree q.conds }) (.conds _ _)).trans
      (.applyMeasurement ?_)
    have hprofile (c : Pass → CondSet) :
        ((ev.st.modPass p fun q => { q with conds := c q }).pass p).profile = (ev.st.pass p).profile := by simp
    refine le_trans (formMeasurement_le (n := capacityOf (ev.st.pass p).profile) (volumeAt_le _ _) fun v hv => ?_)
      (le_of_eq (congrArg capacityOf (hprofile _)).symm)
    obtain ⟨o, -, rfl⟩ := Option.map_eq_some_iff.mp hv
    exact volumeAt_le _ _
  case isFalse => exact .refl ev

theorem Event.Runs.keepConversion (ch : ChannelIdx) (r : Nat) (ev : Event) : ev.Runs (ev.keepConversion ch r) := by
  have hkeep : ev.Runs (ev.update (State.changeChannel ch (Channel.keep r))) := .changeChannel ch rfl rfl rfl
  unfold Event.keepConversion
  dsimp only
  split
  · split
    · exact hkeep.trans (.handMeasurement _ _ _)
    · exact hkeep
  · exact hkeep
  · refine hkeep.trans (.modChannel ch ?_ ?_ ?_)
    all_goals
      unfold Channel.offered
      split <;> rfl
  · exact hkeep

theorem Event.Runs.conversion (current : Nat) (s : State) : (Event.of s).Runs
    ((if s.enabled s.scanner.position then
      (Event.of s).keepConversion s.scanner.position (min current Config.readingMax) else Event.of s).update
        State.chooseConversion) := by
  refine Event.Runs.trans ?_ (.chooseConversion _)
  split
  · exact .keepConversion _ _ _
  · exact .refl _

/-! ## Entries and the breaker -/

theorem Entry.Evolves.late {x : Entry} (hu : x.inUse = true) (hs : x.state = .pending) :
    x.Evolves { x with state := .late, timer := none, conds := raise .late x.conds } := by
  refine .of_inUse hu rfl rfl rfl rfl rfl rfl rfl rfl (by simp [hs]) ?_
  rintro ⟨h1, h2, h3, h4, -, h6⟩
  exact ⟨h1, h2, h3, h4, by simp, h6⟩

theorem Event.Runs.failTravel {j : Job} {ev : Event} (h : ev.st.breaker.state = .travelling) :
    ev.Runs (ev.failTravel j) := by
  have hbst : ev.Runs (ev.update (State.modBst j.station fun x => { x with conds := raise .travelTimeout x.conds })) :=
    .modBst j.station ⟨rfl, rfl⟩
  refine hbst.trans ((Event.Runs.moveBreaker ?_).trans (.reportEnd _ _))
  have hgoes : ev.st.breaker.state.goes = true := by simp [h, BreakerState.goes]
  refine .sendHome (b := ev.st.breaker) hgoes (fun ht => (Breaker.returns_of_goes ht hgoes).2) fun _ hl => ?_
  obtain ⟨hn, -, hf⟩ := State.jobsLawful_iff.mp hl
  simp only [Breaker.held, List.map_append, List.mem_append] at hn hf
  exact ⟨hn.of_append_right, fun i hi => hf i (.inr hi)⟩

/-- The choice of an abandoned break is made with the job gone, which the choice does not read (R115). -/
theorem Event.failBreak_eq (j : Job) (ev : Event) : ev.failBreak j =
    (((ev.update (State.modBst j.station fun x =>
        { x with retryHeld := true, conds := raise .unfinished x.conds })).update
      (State.modBreaker Breaker.finished)).reportEnd j.station).chainOrReturn (ev.st.modBst j.station fun x =>
        { x with retryHeld := true, conds := raise .unfinished x.conds }).pickJob := by
  refine congrArg (fun found => Event.chainOrReturn found _) ?_
  rw [Event.reportEnd_eq]
  exact State.modBreaker_pickJob (f := Breaker.finished) rfl rfl

theorem Event.Runs.failBreak {j : Job} {s : State} (h : s.breaker.state = .breaking)
    (hj : s.breaker.current = some j) : (Event.of s).Runs ((Event.of s).failBreak j) := by
  have hbst : (Event.of s).Runs ((Event.of s).update
      (State.modBst j.station fun x => { x with retryHeld := true, conds := raise .unfinished x.conds })) :=
    .modBst j.station ⟨rfl, rfl⟩
  refine hbst.trans ?_
  rw [Event.failBreak_eq, Event.reportEnd_eq, Event.chainOrReturn_of_breaking _ (by exact h)]
  exact .breakEnds (s := s.modBst j.station fun x => { x with retryHeld := true, conds := raise .unfinished x.conds })
    (j := j) false (fun i hi => State.pickJob_mem hi) (by simpa using h) (by simpa using hj) rfl
    fun e => by simp [Event.touchAll]

theorem Event.Runs.overdue {ev : Event} (h : ev.st.breaker.state = .returning) :
    ev.Runs (ev.update (State.modBreaker fun b =>
      { b with returnTimer := none, returnOverdue := true, conds := raise .returnOverdue b.conds })) :=
  .modBreaker (.overdue h _) rfl rfl

end Sys2Proof.Machine
end

section
/-! The end of an event: after the settling tests, the arbiters, the start tries and the choice no entry that waits is
settled. -/

namespace Sys2Proof.Machine

/-! ## Entering force -/

/-- The entry IN_FORCE (R130). -/
def Entry.forced (x : Entry) : Entry := { x with state := .inForce, timer := none, conds := raise .inForce x.conds }

/-- An entry becomes IN_FORCE, and a first SERVICE entry takes its pass out of service (R130, R139). -/
theorem Event.enterForce_cases (e : EntryIdx) (ev : Event) :
    (ev.enterForce e = ev.update (State.modEntry e Entry.forced) ∧ ∀ p, (ev.st.entry e).kind = .service →
        (ev.st.entry e).pass = some p → ev.st.serviceInForce p = true)
      ∨ ∃ p, (ev.st.entry e).kind = .service ∧ (ev.st.entry e).pass = some p ∧ ev.st.serviceInForce p = false
        ∧ ev.enterForce e = (ev.update (State.modEntry e Entry.forced)).startService p := by
  unfold Event.enterForce
  dsimp only
  split
  case h_1 p hk hp =>
    split
    case isTrue h =>
      refine .inl ⟨rfl, fun p' _ hp' => ?_⟩
      obtain rfl : p = p' := Option.some.inj (hp.symm.trans hp')
      exact h
    case isFalse h => exact .inr ⟨p, hk, hp, by simpa using h, rfl⟩
  case h_2 hk hp => exact .inl ⟨rfl, fun p' _ hp' => by simp [hp] at hp'⟩
  case h_3 hk => exact .inl ⟨rfl, fun p' hk' _ => by simp [hk] at hk'⟩
  case h_4 hk => exact .inl ⟨rfl, fun p' hk' _ => by simp [hk] at hk'⟩

theorem Event.revoke_defined (t : TipIdx) (ev : Event) (i : TipIdx) :
    ((ev.revoke t).st.tip i).defined = (ev.st.tip i).defined := by
  have hend (state : TipState) : ((ev.endGrant t state).st.tip i).defined = (ev.st.tip i).defined := by
    change ((ev.st.modTip t fun x => { x with state := state, timer := none }).tip i).defined = _
    rw [State.modTip_tip]
    split
    case isTrue h => rw [h]
    case isFalse => rfl
  unfold Event.revoke
  split
  · split
    · exact hend .waiting
    · exact hend .idle
  · rfl

/-- The revocation of an undefined tip point is seen by no entry. -/
theorem Event.revoke_hardensAt {t : TipIdx} {ev : Event} (hd : (ev.st.tip t).defined = false) (e : EntryIdx) :
    ev.st.HardensAt (ev.revoke t).st e := by
  have hcov : ev.st.coversTip e t = false := by simp [State.coversTip, hd]
  unfold Event.revoke
  split
  · split
    · exact (State.ungrant_hardensAt hcov).trans (.passes _ e)
    · exact State.ungrant_hardensAt hcov
  · exact .refl _ e

theorem Event.revokeWhere_hardensAt {which : TipIdx → Bool} {ev : Event}
    (h : ∀ t, which t = true → (ev.st.tip t).defined = false) (e : EntryIdx) :
    ev.st.HardensAt (ev.revokeWhere which).st e :=
  (Event.revokeWhere_induct
    (P := fun ev' => ev.st.HardensAt ev'.st e ∧ ∀ t, (ev'.st.tip t).defined = (ev.st.tip t).defined) which
    (fun ev' t ht ⟨hh, hd⟩ => ⟨hh.trans (Event.revoke_hardensAt ((hd t).trans (h t ht)) e),
      fun i => (ev'.revoke_defined t i).trans (hd i)⟩) ev ⟨.refl _ e, fun _ => rfl⟩).1

theorem Event.revokeWhere_entries (which : TipIdx → Bool) (ev : Event) :
    (ev.revokeWhere which).st.entries = ev.st.entries :=
  Event.revokeWhere_induct (P := fun ev' => ev'.st.entries = ev.st.entries) which (fun ev' t _ h => by
    unfold Event.revoke
    split
    · split <;> exact h
    · exact h) ev rfl

/-- A settled SERVICE entry covers every defined tip point of its pass, so its start of service revokes no grant that
an entry could see. -/
theorem Event.enterForce_hardensAt {e i : EntryIdx} {ev : Event} (hu : (ev.st.entry e).inUse = true)
    (hs : ev.st.settled e = true) (hi : i ≠ e) : ev.st.HardensAt (ev.enterForce e).st i := by
  have hforce : ev.st.HardensAt (ev.st.modEntry e Entry.forced) i := State.modEntry_hardensAt hi
  rcases ev.enterForce_cases e with ⟨h, -⟩ | ⟨p, hk, hp, -, h⟩
  · rw [h]
    exact hforce
  · rw [h]
    have hservice : (ev.st.modEntry e Entry.forced).HardensAt ((ev.st.modEntry e Entry.forced).modPass p
      Pass.enterService) i := .passes _ i
    refine (hforce.trans hservice).trans (Event.revokeWhere_hardensAt (ev := (ev.update
      (State.modEntry e Entry.forced)).update (State.modPass p Pass.enterService)) (fun t ht => ?_) i)
    change (ev.st.tip t).defined = false
    have ht' : (ev.st.tip t).pass = p ∧ (ev.st.tip t).state = .granted := by simpa using ht
    by_contra hd
    refine (State.settled_iff.mp hs).2.1 t ?_ ht'.2
    simp [State.coversTip, hu, hk, hp, ht'.1, Bool.not_eq_false _ ▸ hd]

theorem Event.enterForce_entry_self (e : EntryIdx) (ev : Event) :
    ((ev.enterForce e).st.entry e).state = .inForce := by
  have hforce : ((ev.st.modEntry e Entry.forced).entry e).state = .inForce := by simp [Entry.forced]
  rcases ev.enterForce_cases e with ⟨h, -⟩ | ⟨p, -, -, -, h⟩
  · rw [h]
    exact hforce
  · rw [h]
    unfold Event.startService
    refine Eq.trans (congrArg (fun es : Vector Entry 24 => es[e].state) (Event.revokeWhere_entries ..)) hforce

/-! ## The settling tests -/

theorem Event.settleTest_awaits {e : EntryIdx} {ev : Event} {i : EntryIdx}
    (h : (ev.settleTest e).st.awaits i = true) : i ≠ e ∧ ev.st.awaits i = true := by
  by_cases hawaits : ev.st.awaits e = true
  · obtain ⟨⟨hu, -⟩, hs⟩ : ((ev.st.entry e).inUse = true ∧ (ev.st.entry e).state ≠ .inForce)
        ∧ ev.st.settled e = true := by
      simpa only [State.awaits, Bool.and_eq_true, decide_eq_true_eq] using hawaits
    have hforce : ev.settleTest e = ev.enterForce e := if_pos hawaits
    rw [hforce] at h
    have hi : i ≠ e := by
      rintro rfl
      simp [State.awaits, ev.enterForce_entry_self] at h
    exact ⟨hi, (Event.enterForce_hardensAt hu hs hi).awaits h⟩
  · have hstay : ev.settleTest e = ev := if_neg hawaits
    rw [hstay] at h
    exact ⟨fun hi => hawaits (hi ▸ h), h⟩

theorem Event.settleTest_stages (e : EntryIdx) (ev : Event) : Stages ev.st (ev.settleTest e).st := by
  rcases ev.settleTest_cases e with h | ⟨hu, hw, hs, h⟩
  · rw [h]
  · rw [h]
    exact .single (.force e rfl hu hw hs)

/-- The state is reached by stages, and leaves no settled entry waiting where none waited. -/
def State.Reached (s t : State) : Prop := Stages s t ∧ (s.noneSettled = true → t.noneSettled = true)

theorem Event.Complete.settleTests {s : State} {ev : Event} (h : ev.Complete s) : s.Reached ev.settleTests.st := by
  have hstages (es : List EntryIdx) (ev : Event) : Stages ev.st (es.foldl (fun ev e => ev.settleTest e) ev).st := by
    induction es generalizing ev with
    | nil => exact .refl
    | cons e es ih => exact (ev.settleTest_stages e).trans (ih _)
  have hsettled (es : List EntryIdx) (ev : Event) (he : ∀ e, ev.st.awaits e = true → e ∈ es) :
      (es.foldl (fun ev e => ev.settleTest e) ev).st.noneSettled = true := by
    induction es generalizing ev with
    | nil => exact State.noneSettled_iff.mpr fun e => Bool.eq_false_iff.mpr fun ha => by cases he e ha
    | cons e es ih =>
      refine ih _ fun i hi => ?_
      obtain ⟨hne, ha⟩ := Event.settleTest_awaits hi
      exact (List.mem_cons.mp (he i ha)).resolve_left hne
  refine ⟨h.1.trans (hstages _ ev), fun hs => hsettled _ ev fun e he => ?_⟩
  have := (h.2 hs e he).resolve_right id
  simpa using this

/-! ## The arbiters, the tries and the choice -/

theorem State.Reached.change {s t u : State} (h : s.Reached t) (hc : Change t u) (hh : ∀ e, t.HardensAt u e) :
    s.Reached u := by
  refine ⟨h.1.trans hc.stages, fun hs => State.noneSettled_iff.mpr fun e => Bool.eq_false_iff.mpr fun ha => ?_⟩
  have := (hh e).awaits ha
  simp [State.noneSettled_iff.mp (h.2 hs) e] at this

theorem State.Reached.grant {s t : State} {p : PassIdx} {i : TipIdx} (h : s.Reached t)
    (hc : t.chooseCall p = some i) : s.Reached (t.grant p i) := by
  refine h.change (.grant p i hc) fun e => ?_
  have hpass : t.HardensAt (t.modPass p fun q =>
      { q with reserved := q.reserved + (t.tip i).load, waiting := q.waiting.filter (· ≠ i) }) e := .passes _ e
  exact hpass.trans (State.modTip_hardensAt rfl rfl rfl fun _ _ => rfl)

theorem State.startTry_hardensAt (s : State) (c : ChuteIdx) (e : EntryIdx) : s.HardensAt (s.startTry c) e := by
  rcases s.startTry_cases c with h | ⟨-, -, hr, ⟨-, h⟩ | ⟨-, -, h⟩ | ⟨-, -, h⟩⟩
  · rw [h]; exact .refl s e
  · rw [h]; exact State.modChute_hardensAt (.of_same rfl rfl rfl rfl rfl rfl rfl rfl rfl id) fun _ => id
  · rw [h]; exact State.modChute_hardensAt (.of_same rfl rfl rfl rfl rfl rfl rfl rfl rfl id) fun _ => id
  · rw [h]
    simp only [State.startReady, State.chuteSafe, Bool.and_eq_true, Bool.not_eq_true', decide_eq_true_eq] at hr
    obtain ⟨⟨⟨⟨⟨⟨hsafe, -⟩, -⟩, -⟩, hm⟩, hp⟩, hc⟩ := hr
    exact State.modChute_hardensAt (.start hsafe.1 hm (by simp [hp]) hc) fun _ hclosed => by
      simp [Chute.startCycle] at hclosed

theorem State.Reached.startTry {s t : State} (h : s.Reached t) (c : ChuteIdx) : s.Reached (t.startTry c) := by
  rcases Change.startTry t c with heq | hc
  · rwa [heq]
  · exact h.change hc (t.startTry_hardensAt c)

theorem State.chooseJob_hardensAt (s : State) (e : EntryIdx) : s.HardensAt s.chooseJob e := by
  rcases s.chooseJob_cases with h | ⟨j, hp, -, h⟩
  · rw [h]; exact .refl s e
  · rw [h]
    refine .modBreaker (b := s.breaker.take j) (by simp [Breaker.take]) fun k hk => ?_
    obtain ⟨hg, -⟩ := State.breakerAt_iff.mp hk
    simp [hp, BreakerState.goes] at hg

theorem State.Reached.chooseJob {s t : State} (h : s.Reached t) : s.Reached t.chooseJob := by
  rcases Change.chooseJob t with heq | hc
  · rwa [heq]
  · exact h.change hc t.chooseJob_hardensAt

/-- An event that misses no entry ends, before the pins and ATTN, where no settled entry waits (R129). -/
theorem Event.Complete.finish {s : State} {ev : Event} (h : ev.Complete s) :
    ∃ u, ev.finish = u.endEvent ∧ s.Reached u := by
  have harb := State.runArbiters_induct (P := s.Reached) ev.settleTests.arb
    (fun t p _ h => State.runArbiter_induct p (fun t i h hc _ => State.Reached.grant h hc) t h) _ h.settleTests
  have htries := State.runTries_induct (P := s.Reached) ev.settleTests.tries (fun t c _ h => State.Reached.startTry h c) _ harb
  refine ⟨_, ev.finish_eq, ?_⟩
  split
  · exact htries.chooseJob
  · exact htries

end Sys2Proof.Machine
end

section
/-! What every command makes of the state: nothing, a word on the link, a reset, a release, a level at a pin, the
passage of time, or one event that ends with the pins and ATTN. -/

namespace Sys2Proof.Machine

/-! ## The passage of time -/

theorem tick_isSome (t : Timer) : (tick t).isSome = t.isSome := by
  cases t <;> rfl

/-- The ticked channels. -/
def State.tickChannels (s : State) : State := s.mapChannels fun _ x => x.grow
def State.tickTips (s : State) : State := s.mapTips fun _ x => { x with timer := tick x.timer }
def State.tickChutes (s : State) : State := s.mapChutes fun _ x =>
  { x with strokeTimer := tick x.strokeTimer, holdTimer := tick x.holdTimer, nudgeTimer := tick x.nudgeTimer }
def State.tickEntries (s : State) : State := s.mapEntries fun _ x => { x with timer := tick x.timer }
def State.tickLines (s : State) : State := s.mapLines fun _ l => { l with timer := tickDebounce l.timer }
def State.tickBreaker (s : State) : State := s.modBreaker fun b =>
  { b with travelTimer := tick b.travelTimer, breakTimer := tick b.breakTimer, returnTimer := tick b.returnTimer }

theorem State.Reached.refl (s : State) : s.Reached s := ⟨.refl, id⟩

theorem State.Reached.tickChannels {s t : State} (h : s.Reached t) : s.Reached t.tickChannels := by
  refine h.change (.channels t.tickChannels.channels t.scanner fun hl => ?_) fun e => .channels _ _ e
  refine (State.scannerLawful_congr (s := t) (t := t.tickChannels) rfl fun ch => ?_).trans hl
  have hch : t.tickChannels.channel ch = (t.channel ch).grow := State.mapChannels_channel ..
  unfold State.enabled
  rw [hch]
  rfl

theorem State.Reached.tickTips {s t : State} (h : s.Reached t) : s.Reached t.tickTips := by
  have htip (i : TipIdx) : t.tickTips.tips[i] = { t.tip i with timer := tick (t.tip i).timer } := State.mapTips_tip ..
  refine h.change (.tips t.tickTips.tips fun i => ?_) fun e => .tips (ts := t.tickTips.tips) (fun i => ?_) fun i _ hg => ?_
  · rw [htip]
    exact ⟨rfl, rfl, rfl, rfl, rfl, tick_isSome _, id⟩
  · rw [htip]
    exact ⟨rfl, rfl, rfl⟩
  · rw [htip]
    exact hg

theorem Chute.Evolves.tick (s : State) (c : ChuteIdx) (x : Chute) : Chute.Evolves s c x { x with
    strokeTimer := tick x.strokeTimer, holdTimer := tick x.holdTimer, nudgeTimer := tick x.nudgeTimer } where
  defined := rfl
  pass := rfl
  elevation := rfl
  lawful h := by simpa only [Chute.lawful, tick_isSome, ← Option.not_isSome] using h
  starts := .inl
  leaves := .inl
  stale := .inl

theorem State.Reached.tickChutes {s t : State} (h : s.Reached t) : s.Reached t.tickChutes := by
  have hchute (c : ChuteIdx) : t.tickChutes.chutes[c] = { t.chute c with
      strokeTimer := tick (t.chute c).strokeTimer, holdTimer := tick (t.chute c).holdTimer
      nudgeTimer := tick (t.chute c).nudgeTimer } := State.mapChutes_chute ..
  have hevolves (c : ChuteIdx) : Chute.Evolves t c (t.chute c) t.tickChutes.chutes[c] := hchute c ▸ .tick ..
  refine h.change (.chutes t.tickChutes.chutes hevolves) fun e => .chutes (cs := t.tickChutes.chutes) hevolves fun c _ hc => ?_
  rw [hchute] at hc
  exact hc

theorem Entry.Evolves.tick (x : Entry) : x.Evolves { x with timer := Machine.tick x.timer } where
  inUse := rfl
  kind := rfl
  pass := rfl
  low := rfl
  high := rfl
  maskTips := rfl
  maskChutes := rfl
  maskBreaker := rfl
  state := .rfl
  lawful := by
    by_cases hu : x.inUse = true
    case pos =>
      rw [Entry.lawful_iff_of_inUse hu, Entry.lawful_iff_of_inUse (x := { x with timer := Machine.tick x.timer }) hu]
      simp only [tick_isSome, imp_self]
    case neg =>
      have hf : x.inUse = false := by simpa using hu
      rw [Entry.lawful_iff_of_free hf, Entry.lawful_iff_of_free (x := { x with timer := Machine.tick x.timer }) hf]
      rintro rfl
      rfl

theorem State.Reached.tickEntries {s t : State} (h : s.Reached t) : s.Reached t.tickEntries := by
  have hevolves (e : EntryIdx) : (t.entry e).Evolves t.tickEntries.entries[e] := by
    have : t.tickEntries.entries[e] = { t.entry e with timer := tick (t.entry e).timer } := State.mapEntries_entry ..
    exact this ▸ .tick _
  exact h.change (.entries t.tickEntries.entries hevolves) fun e => .entries (hevolves e)

theorem State.tickLines_line (s : State) (i : LineIdx) :
    s.tickLines.line i = { s.line i with timer := tickDebounce (s.line i).timer } := State.mapLines_line ..

theorem State.Reached.tickLines {s t : State} (h : s.Reached t) : s.Reached t.tickLines := by
  have hb (i : LineIdx) : (t.tickLines.line i).binding = (t.line i).binding := by rw [State.tickLines_line]
  have hd (i : LineIdx) : (t.tickLines.line i).debounced = (t.line i).debounced := by rw [State.tickLines_line]
  refine h.change (.lines t.tickLines.lines t.debounce fun hl => ?_) fun e => .lines (db := t.debounce) fun c _ hh => ?_
  · exact (State.bindingsLawful_congr (s := t) (t := t.tickLines) hb).trans hl
  · exact (State.level_congr (s := t.tickLines) (t := t) hb hd _).symm.trans hh

theorem State.Reached.tickBreaker {s t : State} (h : s.Reached t) : s.Reached t.tickBreaker := by
  refine h.change (.modBreaker (.of_same rfl rfl rfl fun ht => ?_) .rfl) fun e => .modBreaker id fun k => id
  simpa only [Breaker.timed, tick_isSome] using ht

theorem State.passTime_reached (s : State) : s.Reached s.passTime :=
  (State.Reached.refl s).tickChannels.tickTips.tickChutes.tickEntries.tickLines.tickBreaker

/-! ## The effect of a command -/

/-- The state with another link. -/
def State.withLink (l : Link) (s : State) : State := { s with link := l }

theorem State.withLink_self (s : State) : s.withLink s.link = s := rfl

theorem answered_eq_withLink (rq : Request) (status : Status) (body : List Byte) (s : State) :
    s.answered rq status body = s.withLink (s.linkAnswered rq status body) := rfl

/-- What a command makes of the state. An event acts on the state with the link as it stands, ends with the pins and
ATTN, and may leave an answer. -/
inductive Effect (s : State) : State → Prop
  | link (l : Link) : Effect s (s.withLink l)
  | reset (f : Line → Line) (hf : ∀ l, (f l).binding = none) : Effect s (s.resetHeld f)
  | release (address baud : Nat) (hr : s.inReset = true) : Effect s (s.release address baud)
  | level (i : LineIdx) (b : Bool) : Effect s (s.modLine i fun l => { l with plant := b }).refreshLines
  | time (hr : s.inReset = false) : Effect s s.passTime
  | event (l l' : Link) (u : State) (hr : s.inReset = false) (hu : (s.withLink l).Reached u) :
      Effect s (u.endEvent.withLink l')

theorem Effect.refl (s : State) : Effect s s := .link s.link

theorem Effect.of_eq {s t t' : State} (h : Effect s t) (he : t = t') : Effect s t' := he ▸ h

theorem Effect.ended {s u : State} (l : Link) (hr : s.inReset = false) (hu : (s.withLink l).Reached u) :
    Effect s u.endEvent :=
  (Effect.event l u.endEvent.link u hr hu).of_eq (State.withLink_self u.endEvent)

theorem State.inReset_of_listening {s : State} (h : s.listening = true) : s.inReset = false := by
  simp only [State.listening, Bool.and_eq_true, Bool.not_eq_true'] at h
  exact h.1

theorem Effect.request {rq : Request} {n : Nat} {owner : State → Reply} {s : State} (h : (owner s).Runs s) :
    Effect s (request rq n owner s) := by
  by_cases hl : s.listening = true
  · rcases request_cases rq n owner s with heq | heq | ⟨status, body, heq⟩ | ⟨ev, body, hown, heq⟩
    · rw [heq]; exact .refl s
    · rw [heq]; exact .link _
    · rw [heq]; exact .link _
    · rw [hown] at h
      obtain ⟨u, hu, hreached⟩ := (Event.Runs.complete h).finish
      rw [heq, answered_eq_withLink, hu]
      exact .event s.link _ u (State.inReset_of_listening hl) hreached
  · rw [request_of_not_listening (by simpa using hl)]
    exact .refl s

theorem Effect.occur {s : State} {f : State → Option Event}
    (h : s.inReset = false → ∀ ev, f s = some ev → ev.Complete s) : Effect s (occur s f) := by
  by_cases hr : s.inReset = true
  · rw [occur_held hr]
    exact .refl s
  · have hr' : s.inReset = false := by simpa using hr
    cases hev : f s with
    | none =>
      rw [occur_none hev]
      exact .refl s
    | some ev =>
      rw [occur_some hr' hev]
      obtain ⟨u, hu, hreached⟩ := (h hr' ev hev).finish
      rw [hu]
      exact .ended s.link hr' hreached

/-- An expiry or a conversion whose event is one run of stages. -/
theorem Effect.occur_runs {s : State} {f : State → Option Event}
    (h : ∀ ev, f s = some ev → (Event.of s).Runs ev) : Effect s (Machine.occur s f) :=
  .occur fun _ ev hev => (h ev hev).complete

theorem Effect.broadcastStop (s : State) :
    Effect s (if s.listening then ((Event.of s.frameOver).callHalt .broadcastStop).finish else s) := by
  split
  case isTrue hl =>
    obtain ⟨u, hu, hreached⟩ := (Event.Runs.callHalt .broadcastStop (Event.of s.frameOver)).complete.finish
    rw [hu]
    exact .ended s.frameOver.link (State.inReset_of_listening hl) hreached
  case isFalse => exact .refl s

theorem Effect.debounceExpiry (i : LineIdx) (s : State) : ∃ t, execDebounceExpiry i s = .next t ∧ Effect s t := by
  refine ⟨_, rfl, .occur fun _ ev hev => ?_⟩
  dsimp only at hev
  split at hev
  · split at hev
    case isTrue hsame =>
      obtain rfl := Option.some.inj hev
      exact State.debounced_complete_of_unheard (.inl hsame)
    case isFalse =>
      split at hev
      case h_1 f hb =>
        obtain rfl := Option.some.inj hev
        exact State.debounced_complete_of_edge hb _
      case h_2 hb =>
        obtain rfl := Option.some.inj hev
        exact State.debounced_complete_of_unheard (.inr hb)
  · cases hev

end Sys2Proof.Machine
end

section
/-! The effect of each command. -/

namespace Sys2Proof.Machine

theorem State.linesReadReply_runs (bank : Nat) (s : State) :
    (withIndex 6 bank fun b => .report (s.bankBody b)).Runs s := .of_withIndex fun _ => trivial

theorem Effect.discardFrame (s : State) : Effect s s.discardFrame := by
  unfold State.discardFrame
  split
  · exact .link _
  · exact .refl s

theorem Effect.link_if {s : State} (P : Prop) [Decidable P] (l : Link) :
    Effect s (if P then s.withLink l else s) := by
  split
  · exact .link l
  · exact .refl s

theorem Effect.answerSend (s : State) : Effect s (if s.listening then
    match s.link.answer with
    | some a => s.modLink fun l => { l with answer := none, sending := some (a.frame l.address) }
    | none => s
  else s) := by
  split
  · split
    · exact .link _
    · exact .refl s
  · exact .refl s

theorem Effect.answerSent (s : State) :
    Effect s (if s.inReset then s else s.modLink fun l => { l with sending := none }) := by
  split
  · exact .refl s
  · exact .link _

theorem Effect.ageTick (s : State) : Effect s (if s.inReset then s else s.passTime) := by
  split
  · exact .refl s
  case isFalse hr => exact .time (by simpa using hr)

theorem Effect.resetRelease (address baud : Nat) (s : State) :
    Effect s (if s.inReset then s.release address baud else s) := by
  split
  case isTrue hr => exact .release address baud hr
  case isFalse => exact .refl s

/-- What an event returned under a condition is. -/
theorem eq_of_ite_some {P : Prop} [Decidable P] {ev ev' : Event} (h : (if P then some ev else none) = some ev') :
    P ∧ ev = ev' := by
  split at h
  case isTrue hP => exact ⟨hP, Option.some.inj h⟩
  case isFalse => cases h

theorem Effect.holdExpiry (c : ChuteIdx) (s : State) : ∃ t, execHoldTimerExpiry c s = .next t ∧ Effect s t := by
  refine ⟨_, rfl, .occur_runs fun ev hev => ?_⟩
  obtain ⟨h, rfl⟩ := eq_of_ite_some hev
  exact .holdExpiry (ev := Event.of s) h.1

theorem Effect.strokeExpiry (c : ChuteIdx) (s : State) : ∃ t, execStrokeTimerExpiry c s = .next t ∧ Effect s t := by
  refine ⟨_, rfl, .occur_runs fun ev hev => ?_⟩
  split at hev
  · obtain rfl := Option.some.inj hev
    exact .clearStale c _
  · obtain ⟨-, rfl⟩ := eq_of_ite_some hev
    exact .strokeExpires c _

theorem Effect.nudgeExpiry (c : ChuteIdx) (s : State) : ∃ t, execNudgeTimerExpiry c s = .next t ∧ Effect s t := by
  refine ⟨_, rfl, .occur_runs fun ev hev => ?_⟩
  obtain ⟨h, rfl⟩ := eq_of_ite_some hev
  exact .finalise (ev := Event.of s) (.inl h.1) .fail

theorem Effect.grantExpiry (t : TipIdx) (s : State) : ∃ u, execGrantTimerExpiry t s = .next u ∧ Effect s u := by
  refine ⟨_, rfl, .occur_runs fun ev hev => ?_⟩
  obtain ⟨h, rfl⟩ := eq_of_ite_some hev
  exact .lapse (ev := Event.of s) h.1

theorem Effect.conversion (current : Nat) (s : State) :
    ∃ t, execConversionCompletion current s = .next t ∧ Effect s t := by
  refine ⟨_, rfl, .occur_runs fun ev hev => ?_⟩
  obtain ⟨-, rfl⟩ := eq_of_ite_some hev
  exact .conversion current s

theorem Effect.stalenessExpiry (ch : ChannelIdx) (s : State) :
    ∃ t, execStalenessExpiry ch s = .next t ∧ Effect s t := by
  refine ⟨_, rfl, .occur_runs fun ev hev => ?_⟩
  split at hev
  · obtain ⟨-, rfl⟩ := eq_of_ite_some hev
    exact .makeStale ch _
  · cases hev

theorem Effect.windowExpiry (ch : ChannelIdx) (s : State) :
    ∃ t, execWindowTimerExpiry ch s = .next t ∧ Effect s t := by
  refine ⟨_, rfl, .occur_runs fun ev hev => ?_⟩
  obtain ⟨-, rfl⟩ := eq_of_ite_some hev
  exact .modChannel ch rfl rfl rfl

theorem Effect.settleMarkExpiry (ch : ChannelIdx) (s : State) :
    ∃ t, execSettleMarkExpiry ch s = .next t ∧ Effect s t := by
  refine ⟨_, rfl, .occur_runs fun ev hev => ?_⟩
  obtain ⟨-, rfl⟩ := eq_of_ite_some hev
  exact .modChannel ch rfl rfl rfl

theorem Effect.settleTimerExpiry (e : EntryIdx) (s : State) :
    ∃ t, execSettleTimerExpiry e s = .next t ∧ Effect s t := by
  refine ⟨_, rfl, .occur_runs fun ev hev => ?_⟩
  obtain ⟨h, rfl⟩ := eq_of_ite_some hev
  exact .modEntry (ev := Event.of s) e (.late h.1 h.2.1)

theorem Effect.travelExpiry (s : State) : ∃ t, execTravelTimerExpiry s = .next t ∧ Effect s t := by
  refine ⟨_, rfl, .occur_runs fun ev hev => ?_⟩
  split at hev
  · obtain ⟨h, rfl⟩ := eq_of_ite_some hev
    exact .failTravel (ev := Event.of s) h.1
  · cases hev

theorem Effect.breakExpiry (s : State) : ∃ t, execBreakTimerExpiry s = .next t ∧ Effect s t := by
  refine ⟨_, rfl, .occur_runs fun ev hev => ?_⟩
  split at hev
  case h_1 j hj =>
    obtain ⟨h, rfl⟩ := eq_of_ite_some hev
    exact .failBreak h.1 hj
  · cases hev

theorem Effect.returnExpiry (s : State) : ∃ t, execReturnTimerExpiry s = .next t ∧ Effect s t := by
  refine ⟨_, rfl, .occur_runs fun ev hev => ?_⟩
  obtain ⟨h, rfl⟩ := eq_of_ite_some hev
  exact .overdue (ev := Event.of s) h.1

/-- Every command ends in a next state, and has one of the effects. -/
theorem exec_effect (c : Instr) (s : State) : ∃ t, exec c s = .next t ∧ Effect s t := by
  cases c with
  | powerOn => exact ⟨_, rfl, .reset Line.powerOn fun _ => rfl⟩
  | resetLine => exact ⟨_, rfl, .reset Line.resetLine fun _ => rfl⟩
  | resetRelease address baud => exact ⟨_, rfl, .resetRelease address baud s⟩
  | definePass => exact ⟨_, rfl, .request (State.definePassReply_runs ..)⟩
  | defineTip => exact ⟨_, rfl, .request (State.defineTipReply_runs ..)⟩
  | defineChute => exact ⟨_, rfl, .request (State.defineChuteReply_runs ..)⟩
  | defineBreakerStation => exact ⟨_, rfl, .request (State.defineStationReply_runs ..)⟩
  | defineBreaker => exact ⟨_, rfl, .request (State.defineBreakerReply_runs ..)⟩
  | defineChannel => exact ⟨_, rfl, .request (State.defineChannelReply_runs ..)⟩
  | defineStation => exact ⟨_, rfl, .request (State.defineEstopReply_runs ..)⟩
  | read => exact ⟨_, rfl, .request (State.readReply_runs ..)⟩
  | tunePass => exact ⟨_, rfl, .request (State.tunePassReply_runs ..)⟩
  | tuneTip => exact ⟨_, rfl, .request (State.tuneTipReply_runs ..)⟩
  | tuneChute => exact ⟨_, rfl, .request (State.tuneChuteReply_runs ..)⟩
  | tuneStation => exact ⟨_, rfl, .request (State.tuneStationReply_runs ..)⟩
  | setFill => exact ⟨_, rfl, .request (State.setFillReply_runs ..)⟩
  | clearHang => exact ⟨_, rfl, .request (State.clearHangReply_runs ..)⟩
  | callTip => exact ⟨_, rfl, .request (State.callTipReply_runs ..)⟩
  | withdraw => exact ⟨_, rfl, .request (State.withdrawReply_runs ..)⟩
  | order => exact ⟨_, rfl, .request (State.orderReply_runs ..)⟩
  | hold => exact ⟨_, rfl, .request (State.holdReply_runs ..)⟩
  | free => exact ⟨_, rfl, .request (State.freeReply_runs ..)⟩
  | breakJob => exact ⟨_, rfl, .request (State.breakReply_runs ..)⟩
  | floor => exact ⟨_, rfl, .request (State.floorReply_runs ..)⟩
  | postClearance => exact ⟨_, rfl, .request (State.postReply_runs ..)⟩
  | join => exact ⟨_, rfl, .request (State.joinReply_runs ..)⟩
  | leave => exact ⟨_, rfl, .request (State.leaveReply_runs ..)⟩
  | cancel => exact ⟨_, rfl, .request (State.cancelReply_runs ..)⟩
  | proveChute => exact ⟨_, rfl, .request (State.proveChuteReply_runs ..)⟩
  | proveChannel => exact ⟨_, rfl, .request (State.proveChannelReply_runs ..)⟩
  | acceptProof => exact ⟨_, rfl, .request (State.acceptProofReply_runs ..)⟩
  | linesRead => exact ⟨_, rfl, .request (State.linesReadReply_runs ..)⟩
  | linesWrite => exact ⟨_, rfl, .request (State.linesWriteReply_runs ..)⟩
  | scanList => exact ⟨_, rfl, .request (State.scanListReply_runs ..)⟩
  | start => exact ⟨_, rfl, .request (State.startReply_runs _)⟩
  | stop => exact ⟨_, rfl, .request (State.stopReply_runs _)⟩
  | resume => exact ⟨_, rfl, .request (State.resumeReply_runs _)⟩
  | setup => exact ⟨_, rfl, .request (State.setupReply_runs _)⟩
  | acknowledge => exact ⟨_, rfl, .request (State.acknowledgeReply_runs ..)⟩
  | summary => exact ⟨_, rfl, .request trivial⟩
  | attentionMask => exact ⟨_, rfl, .request (State.attentionMaskReply_runs ..)⟩
  | unknownRequest => exact ⟨_, rfl, .request trivial⟩
  | broadcastStop => exact ⟨_, rfl, .broadcastStop s⟩
  | ignoredFrame => exact ⟨_, rfl, .link_if _ _⟩
  | frameGapTimeout => exact ⟨_, rfl, .discardFrame s⟩
  | framingError => exact ⟨_, rfl, .discardFrame s⟩
  | lengthAbove240 => exact ⟨_, rfl, .discardFrame s⟩
  | answerSend => exact ⟨_, rfl, .answerSend s⟩
  | answerSent => exact ⟨_, rfl, .answerSent s⟩
  | frameStartByte => exact ⟨_, rfl, .link_if _ _⟩
  | rawLevelChange i b => exact ⟨_, rfl, .level i b⟩
  | debounceExpiry i => exact Effect.debounceExpiry i s
  | grantTimerExpiry t => exact Effect.grantExpiry t s
  | holdTimerExpiry c => exact Effect.holdExpiry c s
  | strokeTimerExpiry c => exact Effect.strokeExpiry c s
  | nudgeTimerExpiry c => exact Effect.nudgeExpiry c s
  | conversionCompletion current => exact Effect.conversion current s
  | stalenessExpiry ch => exact Effect.stalenessExpiry ch s
  | windowTimerExpiry ch => exact Effect.windowExpiry ch s
  | settleMarkExpiry ch => exact Effect.settleMarkExpiry ch s
  | settleTimerExpiry e => exact Effect.settleTimerExpiry e s
  | travelTimerExpiry => exact Effect.travelExpiry s
  | breakTimerExpiry => exact Effect.breakExpiry s
  | returnTimerExpiry => exact Effect.returnExpiry s
  | ageTick => exact ⟨_, rfl, .ageTick s⟩

end Sys2Proof.Machine
end

section
/-! The revocations, the aborts and the breaker's end that belong to a hang, a halt or a posting are changes too, so a
law that every change keeps holds through them. -/

namespace Sys2Proof.Machine

theorem Event.revoke_changes (t : TipIdx) (ev : Event) : Changes ev.st (ev.revoke t).st := by
  unfold Event.revoke
  split
  case isTrue h =>
    split
    · exact .single (.requeue t h)
    · exact .single (.ungrant t h)
  case isFalse => exact .refl

theorem Event.revokeWhere_changes (which : TipIdx → Bool) (ev : Event) : Changes ev.st (ev.revokeWhere which).st :=
  Event.revokeWhere_induct (P := fun ev' => Changes ev.st ev'.st) which
    (fun ev' t _ h => h.trans (ev'.revoke_changes t)) ev .refl

theorem Change.debit (s : State) (p : PassIdx) (volume : Nat) : Change s (s.modPass p (Pass.debit volume)) :=
  .modPass p (.debit _ _)

theorem Event.takeDebit_st (c : ChuteIdx) (ev : Event) : (ev.takeDebit c).st =
    (ev.st.modChute c fun x => x.countDown.cycleDone).modPass (ev.st.chute c).pass
      (Pass.debit (ev.st.chute c).volume) := by
  refine (Event.changeFill_st ..).trans ?_
  rfl

theorem Event.abortChute_changes (c : ChuteIdx) (ev : Event) : Changes ev.st (ev.abortChute c).st := by
  cases h : (ev.st.chute c).state with
  | closed => rw [Event.abortChute_of_still (.inl h)]
  | closing => rw [Event.abortChute_of_still (.inr (.inl h))]
  | reclosing => rw [Event.abortChute_of_still (.inr (.inr h))]
  | opening =>
    rw [Event.abortChute_of_opening h]
    exact .single (.modChute c (f := fun x => { x.close with staleExpiry := ev.st.strokeExpiryWaits c })
      (.close (.inl h) State.waitsNext_of_strokeExpiryWaits))
  | holding =>
    rw [Event.abortChute_of_holding h]
    have hclose : Change ev.st (ev.st.modChute c Chute.close) :=
      .modChute c (.close (.inr h) (w := false) (fun h => by cases h))
    have hcount : Change (ev.st.modChute c Chute.close)
        ((ev.st.modChute c Chute.close).modChute c fun x => x.countDown.cycleDone) := .modChute c (.takeDebit ..)
    refine ((Relation.ReflTransGen.single hclose).tail hcount).tail ?_
    change Change _ (Event.takeDebit c ((ev.update (State.modChute c Chute.close)).touchChute c)).st
    rw [Event.takeDebit_st]
    exact .debit ..
  | nudging =>
    by_cases hf : ev.st.closedHigh c = true ∧ ev.st.limitFallWaits c = false
    · rw [Event.abortChute_of_seated h hf.1 hf.2]
      exact .single (.modChute c (f := (·.finalise .aborted)) (.finalise (.inl h) .aborted))
    · rw [Event.abortChute_of_unseated h (by
        rw [not_and, Bool.not_eq_false] at hf
        cases hh : ev.st.closedHigh c
        · exact .inl rfl
        · exact .inr (hf hh))]
      exact .single (.modChute c (f := fun x =>
        { x with state := .reclosing, nudgeTimer := none, pendingProof := some .aborted,
                 strokeTimer := some x.strokeTime }) (.reclose h .aborted))

theorem Event.abortWhere_changes (which : ChuteIdx → Bool) (ev : Event) : Changes ev.st (ev.abortWhere which).st :=
  Event.abortWhere_induct (P := fun ev' => Changes ev.st ev'.st) which
    (fun ev' c _ h => h.trans (ev'.abortChute_changes c)) ev .refl

theorem Event.abortBreaker_change {ev : Event} (h : ev.st.breaker.state.goes = true) :
    Change ev.st ev.abortBreaker.st := by
  refine .moveBreaker (.sendHome (b := { ev.st.breaker with
    jobs := ev.st.breaker.current.toList ++ ev.st.breaker.jobs }) h (fun ht => (Breaker.returns_of_goes ht h).2)
    fun _ hl => ?_)
  obtain ⟨hn, -, hf⟩ := State.jobsLawful_iff.mp hl
  exact ⟨hn, hf⟩

/-- The breaker a halt leaves: no job is left, and a working one goes home (R120). -/
def Event.haltedBreaker (ev : Event) : Event :=
  if ev.st.breaker.state = .travelling ∨ ev.st.breaker.state = .breaking then
    ev.moveBreaker fun b => { b.sendHome with jobs := [] }
  else ev.update (State.modBreaker fun b => { b with jobs := [] })

theorem Event.haltBreaker_st (ev : Event) : ev.haltBreaker.st = ev.haltedBreaker.st := by
  have hreports (ks : List StationIdx) (b : Event) : (ks.foldl (fun ev k => ev.reportEnd k) b).st = b.st := by
    induction ks generalizing b with
    | nil => rfl
    | cons k ks ih => exact (ih _).trans (Event.reportEnd_st k b)
  exact hreports _ _

theorem Event.haltBreaker_change (ev : Event) : Change ev.st ev.haltBreaker.st := by
  rw [Event.haltBreaker_st]
  unfold Event.haltedBreaker
  split
  case isTrue h =>
    have hg : ev.st.breaker.state.goes = true := BreakerState.goes_iff.mpr h
    exact .moveBreaker (.sendHome (b := { ev.st.breaker with jobs := [] }) hg
      (fun ht => (Breaker.returns_of_goes ht hg).2) fun _ _ => by simp)
  case isFalse =>
    refine .modBreaker (f := fun b => { b with jobs := [] }) (.of_list (counter := ev.st.breaker.counter) fun _ hl => ?_) .rfl
    obtain ⟨hn, -, hf⟩ := State.jobsLawful_iff.mp hl
    rw [Breaker.held, List.map_append] at hn
    simp only [Breaker.held, List.mem_append] at hf
    simp only [List.append_nil]
    exact ⟨hn.of_append_left, fun j hj => hf j (.inl hj)⟩

/-! ## The openings of the stages -/

/-- The state a stage opens with, from which changes lead to its end. -/
inductive Opens (s : State) : State → Prop
  | change {t : State} (h : Change s t) : Opens s t
  | hang (p : PassIdx) (m : Nat) (hm : m ≤ capacityOf (s.pass p).profile) (hr : (s.pass p).state = .running)
      (hh : ((s.pass p).measure m).state = .hung) : Opens s (s.modPass p (Pass.measure m))
  | halt (cause : HaltCause) : Opens s (s.modStation fun x =>
      { x with mode := .halted, causes := x.causes.add cause, conds := raise .halted x.conds })
  | post (e : EntryIdx) (x : Entry) (hfree : (s.entry e).inUse = false) (hx : x.lawful = true)
      (hs : x.state = .pending) (hp : ∀ p, x.pass = some p → (s.pass p).defined = true) :
      Opens s (s.modEntry e fun _ => x)
  | force (e : EntryIdx) (hu : (s.entry e).inUse = true) (hs : s.settled e = true)
      (hservice : ∀ p, (s.entry e).kind = .service → (s.entry e).pass = some p → s.serviceInForce p = true) :
      Opens s (s.modEntry e Entry.forced)
  | service (e : EntryIdx) (p : PassIdx) (hu : (s.entry e).inUse = true) (hs : s.settled e = true)
      (hk : (s.entry e).kind = .service) (hp : (s.entry e).pass = some p) (hn : s.serviceInForce p = false) :
      Opens s ((s.modEntry e Entry.forced).modPass p Pass.enterService)

theorem Event.hang_changes (which : TipIdx → Bool) (whose : ChuteIdx → Bool) (ev : Event) :
    Changes ev.st ((ev.revokeWhere which).abortWhere whose).st :=
  (ev.revokeWhere_changes which).trans (Event.abortWhere_changes whose _)

theorem Event.post_changes (e : EntryIdx) (x : Entry) (ev : Event) :
    Changes (ev.st.modEntry e fun _ => x) (ev.post e x).st := by
  have hstill := Event.hang_changes (fun t => (ev.update (State.modEntry e fun _ => x)).st.coversTip e t
    && decide (((ev.update (State.modEntry e fun _ => x)).st.tip t).state = .granted))
    ((ev.update (State.modEntry e fun _ => x)).st.coversChute e) (ev.update (State.modEntry e fun _ => x))
  unfold Event.post
  dsimp only
  rw [Event.touch_st]
  split
  case isTrue h =>
    refine hstill.tail (Event.abortBreaker_change (BreakerState.goes_iff.mpr ?_))
    simp only [State.breakerReached, Bool.and_eq_true, decide_eq_true_eq] at h
    exact h.1
  case isFalse => exact hstill

theorem Event.halt_changes (cause : HaltCause) (ev : Event) : Changes (ev.st.modStation fun x =>
    { x with mode := .halted, causes := x.causes.add cause, conds := raise .halted x.conds }) (ev.halt cause).st :=
  (Event.hang_changes _ _ (ev.update (State.modStation fun x => { x with
    mode := .halted, causes := x.causes.add cause, conds := raise .halted x.conds }))).tail
    (Event.haltBreaker_change _)

theorem Event.startService_changes (p : PassIdx) (ev : Event) :
    Changes (ev.st.modPass p Pass.enterService) (ev.startService p).st :=
  Event.revokeWhere_changes _ (ev.update (State.modPass p Pass.enterService))

theorem Stage.opens {s t : State} (h : Stage s t) : ∃ s1, Opens s s1 ∧ Changes s1 t := by
  cases h with
  | change h => exact ⟨t, .change h, .refl⟩
  | @hang p m ev hev hm hr hh => exact ⟨_, .hang p m hm hr hh, hev ▸ ev.hang_changes _ _⟩
  | @halt cause ev hev =>
    subst hev
    exact ⟨_, .halt cause, ev.halt_changes cause⟩
  | @post e x ev hev hfree hx hs hp =>
    subst hev
    exact ⟨_, .post e x hfree hx hs hp, ev.post_changes e x⟩
  | @force e ev hev hu hw hs =>
    subst hev
    rcases ev.enterForce_cases e with ⟨h, hservice⟩ | ⟨p, hk, hp, hn, h⟩
    · rw [h]
      exact ⟨_, .force e hu hs hservice, .refl⟩
    · rw [h]
      exact ⟨_, .service e p hu hs hk hp hn, Event.startService_changes p (ev.update (State.modEntry e Entry.forced))⟩

/-- What every opening keeps, every stage keeps. -/
theorem Stage.keep_of_opens {P : State → Prop} (hP : ∀ s t, Opens s t → P s → P t) {s t : State} (h : Stage s t)
    (hs : P s) : P t := by
  obtain ⟨s1, hopen, hchanges⟩ := h.opens
  exact hchanges.keep (fun s t hc => hP s t (.change hc)) (hP s s1 hopen hs)

theorem Stages.keep_of_opens {P : State → Prop} (hP : ∀ s t, Opens s t → P s → P t) {s t : State} (h : Stages s t)
    (hs : P s) : P t := h.keep (fun _ _ hst => hst.keep_of_opens hP) hs

/-! ## What no stage changes -/

theorem Change.frame {s t : State} (h : Change s t) : t.pending = s.pending ∧ t.inReset = s.inReset := by
  cases h with
  | retire e hev hu =>
    subst hev
    rw [Event.retire_st]
    rcases Event.cleared_cases e _ with ⟨h, -⟩ | ⟨p, -, -, h⟩
    · rw [h]; exact ⟨rfl, rfl⟩
    · rw [h, Event.endService_st]; exact ⟨rfl, rfl⟩
  | defineTip => split <;> exact ⟨rfl, rfl⟩
  | _ => exact ⟨rfl, rfl⟩

theorem Opens.frame {s t : State} (h : Opens s t) : t.pending = s.pending ∧ t.inReset = s.inReset := by
  cases h with
  | change h => exact h.frame
  | _ => exact ⟨rfl, rfl⟩

theorem Stages.frame {s t : State} (h : Stages s t) : t.pending = s.pending ∧ t.inReset = s.inReset :=
  h.keep_of_opens (P := fun u => u.pending = s.pending ∧ u.inReset = s.inReset)
    (fun _ _ hopen hu => ⟨hopen.frame.1.trans hu.1, hopen.frame.2.trans hu.2⟩) ⟨rfl, rfl⟩

theorem State.withLink_pending (l : Link) (s : State) : (s.withLink l).pending = s.pending := rfl

theorem Effect.pending {s t : State} (h : Effect s t) : t.pending = s.pending := by
  cases h with
  | link => rfl
  | reset => exact State.refreshLines_pending _
  | release => rfl
  | level => exact State.refreshLines_pending _
  | time => exact s.passTime_reached.1.frame.1
  | event l l' u hr hu =>
    rw [State.withLink_pending, State.endEvent_pending]
    exact hu.1.frame.1

/-- Settles O2: every command has one of a few effects, and no effect reaches the queue. -/
theorem commandsCompleteAndKeepTheQueue : Obligations.CommandsCompleteAndKeepTheQueue := by
  intro c s
  obtain ⟨t, ht, heffect⟩ := exec_effect c s
  exact ⟨t, ht, heffect.pending⟩

end Sys2Proof.Machine
end

section
/-! A law of the records holds after every step where it holds at reset and every stage of an event keeps it; and the
ranges of the estimates (R4, R6 to R8). -/

namespace Sys2Proof.Machine

/-- A law that no line, link, level of ATTN or queue is read by, that holds at reset, and that every stage keeps. -/
structure Law (P : State → Prop) : Prop where
  outer : ∀ (s : State) (r : Bool) (ls : Vector Line 48) (lk : Link) (at' : Bool) (pd : List Instr),
    P s → P { s with inReset := r, lines := ls, link := lk, attn := at', pending := pd }
  reset : P State.reset
  stage : ∀ s t, Stage s t → P s → P t

theorem Law.stages {P : State → Prop} (h : Law P) {s t : State} (hst : Stages s t) (hs : P s) : P t :=
  hst.keep h.stage hs

theorem Law.withLink {P : State → Prop} (h : Law P) (l : Link) {s : State} (hs : P s) : P (s.withLink l) :=
  h.outer s s.inReset s.lines l s.attn s.pending hs

theorem Law.refreshLines {P : State → Prop} (h : Law P) {s : State} (hs : P s) : P s.refreshLines :=
  h.outer s s.inReset _ s.link s.attn s.pending hs

theorem Law.judgeAttn {P : State → Prop} (h : Law P) {s : State} (hs : P s) : P s.judgeAttn :=
  h.outer s s.inReset s.lines s.link s.attention s.pending hs

theorem Law.effect {P : State → Prop} (h : Law P) {s t : State} (he : Effect s t) (hs : P s) : P t := by
  cases he with
  | link l => exact h.withLink l hs
  | reset f hf => exact h.refreshLines (h.outer State.reset true _ _ State.reset.attn s.pending h.reset)
  | release => exact h.outer s _ _ _ s.attn s.pending hs
  | level => exact h.refreshLines (h.outer s s.inReset _ s.link s.attn s.pending hs)
  | time => exact h.stages s.passTime_reached.1 hs
  | event l l' u hr hu => exact h.withLink l' (h.judgeAttn (h.refreshLines (h.stages hu.1 (h.withLink l hs))))

/-- A step is the effect of the command at the front of the queue. -/
theorem step_effect {s t : State} (h : step s = .next t) :
    t = s ∨ ∃ c rest, s.pending = c :: rest ∧ exec c { s with pending := rest } = .next t
      ∧ Effect { s with pending := rest } t := by
  unfold step at h
  split at h
  case h_1 c rest hp =>
    obtain ⟨u, hu, he⟩ := exec_effect c { s with pending := rest }
    obtain rfl : u = t := by simpa using hu.symm.trans h
    exact .inr ⟨c, rest, hp, hu, he⟩
  case h_2 => exact .inl (by simpa using h.symm)

theorem Law.step {P : State → Prop} (h : Law P) {s t : State} (hstep : Machine.step s = .next t) (hs : P s) : P t := by
  rcases step_effect hstep with rfl | ⟨c, rest, -, -, he⟩
  · exact hs
  · exact h.effect he (h.outer s s.inReset s.lines s.link s.attn rest hs)

/-! ## The estimates -/

theorem State.estimatesLawful_iff {s : State} : s.estimatesLawful = true ↔ ∀ p, (s.pass p).lawful = true := by
  simp [State.estimatesLawful]

theorem Pass.start_lawful {q : Pass} (h : q.lawful = true) : q.start.lawful = true := by
  obtain ⟨h1, h2, h3, h4, h5, h6, h7, h8, h9⟩ := Pass.lawful_iff.mp h
  unfold Pass.start
  split
  · split
    case isTrue hk =>
      refine Pass.lawful_iff.mpr ⟨h1, h2, h3, h4, h5, ?_, Nat.zero_le _, .inl rfl, .inl hk⟩
      dsimp only
      split <;> omega
    case isFalse hk =>
      have hd : q.d = 0 := h8.resolve_left fun hr => (h9.resolve_left hk).1 hr
      exact Pass.lawful_iff.mpr ⟨h1, h2, h3, h4, h5, h6, h7, .inr hd, .inr ⟨by simp, by simp⟩⟩
  · exact h

theorem Pass.enterService_lawful {q : Pass} (h : q.lawful = true) : q.enterService.lawful = true := by
  obtain ⟨h1, h2, h3, h4, h5, h6, -, -, -⟩ := Pass.lawful_iff.mp h
  exact Pass.lawful_iff.mpr ⟨h1, h2, h3, h4, h5, h6, Nat.zero_le _, .inr rfl,
    .inr ⟨by simp [Pass.enterService], by simp [Pass.enterService]⟩⟩

theorem Pass.leaveService_lawful {q : Pass} (h : q.lawful = true) : q.leaveService.lawful = true := by
  obtain ⟨h1, h2, h3, h4, h5, h6, h7, h8, h9⟩ := Pass.lawful_iff.mp h
  unfold Pass.leaveService
  split
  · exact Pass.lawful_iff.mpr ⟨h1, h2, h3, h4, h5, h6, Nat.zero_le _, .inr rfl, .inr ⟨by simp, by simp⟩⟩
  · split
    case isTrue hk =>
      exact Pass.lawful_iff.mpr ⟨h1, h2, h3, h4, h5, by change q.e ≤ _; omega, Nat.zero_le _, .inl rfl, .inl hk⟩
    case isFalse hk =>
      have hd : q.d = 0 := h8.resolve_left fun hr => (h9.resolve_left hk).1 hr
      exact Pass.lawful_iff.mpr ⟨h1, h2, h3, h4, h5, h6, h7, .inr hd, .inr ⟨by simp, by simp⟩⟩

/-- A profile DEFINE PASS takes holds at most 600000 (R2, R3). -/
theorem capacityOf_le {height : Nat} {profile : List Segment} (h : passOutOfRange height profile = false) :
    capacityOf profile ≤ 600000 := by
  have hsum (gs : List Segment) (hg : ∀ g ∈ gs, g.area ≤ 2000) :
      (gs.map fun g => g.area * g.height).sum ≤ 2000 * (gs.map Segment.height).sum := by
    induction gs with
    | nil => simp
    | cons g gs ih =>
      have := ih fun g' hg' => hg g' (by simp [hg'])
      have := Nat.mul_le_mul_right g.height (hg g (by simp))
      simp only [List.map_cons, List.sum_cons]
      omega
  simp only [passOutOfRange, outside, Bool.or_eq_false_iff, List.any_eq_false, Bool.or_eq_true,
    decide_eq_true_eq, decide_eq_false_iff_not, not_or, not_lt] at h
  obtain ⟨⟨-, hg⟩, hheight⟩ := h
  have := hsum profile fun g hmem => (hg g hmem).2.2
  unfold capacityOf profileHeight at *
  omega

theorem Pass.define_lawful {height : Nat} {profile : List Segment} {q : Pass}
    (hr : passOutOfRange height profile = false) (h : q.lawful = true) : (Pass.define height profile q).lawful = true := by
  obtain ⟨-, -, -, -, -, h6, h7, h8, h9⟩ := Pass.lawful_iff.mp h
  have hcap := capacityOf_le hr
  rw [Pass.lawful_iff]
  unfold Pass.define Pass.clampTuning
  dsimp only
  have hlimit : min q.tipLimit (capacityOf profile) ≤ capacityOf profile := Nat.min_le_right ..
  have hcushion : min q.cushion (min q.tipLimit (capacityOf profile)) ≤ min q.tipLimit (capacityOf profile) :=
    Nat.min_le_right ..
  split
  · exact ⟨rfl, hcap, Nat.zero_le _, hlimit, hcushion, Nat.zero_le _, Nat.zero_le _, .inr rfl, .inr ⟨by simp, by simp⟩⟩
  · split
    case isTrue hs =>
      exact ⟨rfl, hcap, Nat.min_le_right .., hlimit, hcushion, h6, h7, .inr (by simpa [hs] using h8),
        .inr ⟨by simp [hs], by simp [hs]⟩⟩
    case isFalse =>
      exact ⟨rfl, hcap, Nat.min_le_right .., hlimit, hcushion, h6, Nat.zero_le _, .inr rfl, .inr ⟨by simp, by simp⟩⟩

/-- A change of a pass's list and reservation alone. -/
inductive Pass.CallsOnly (q : Pass) : Pass → Prop
  | mk (waiting : List TipIdx) (reserved : Nat) : CallsOnly q { q with waiting := waiting, reserved := reserved }

theorem Pass.CallsOnly.refl (q : Pass) : q.CallsOnly q := .mk q.waiting q.reserved

theorem Pass.CallsOnly.trans {q q' q'' : Pass} (h : q.CallsOnly q') (h' : q'.CallsOnly q'') : q.CallsOnly q'' := by
  cases h
  cases h'
  exact .mk _ _

theorem State.modPass_callsOnly {s u : State} (h : ∀ p, (s.pass p).CallsOnly (u.pass p)) {j : PassIdx}
    {f : Pass → Pass} (hf : ∀ q : Pass, q.CallsOnly (f q)) (p : PassIdx) :
    (s.pass p).CallsOnly ((u.modPass j f).pass p) := by
  rw [State.modPass_pass]
  split
  case isTrue hp => exact hp ▸ (h p).trans (hf _)
  case isFalse => exact h p

theorem State.modTip_callsOnly {s u : State} (h : ∀ p, (s.pass p).CallsOnly (u.pass p)) (t : TipIdx)
    (f : Tip → Tip) (p : PassIdx) : (s.pass p).CallsOnly ((u.modTip t f).pass p) := by
  rw [State.modTip_pass]
  exact h p

theorem State.withdrawCall_callsOnly (t : TipIdx) (s : State) (p : PassIdx) :
    (s.pass p).CallsOnly ((s.withdrawCall t).pass p) :=
  State.modTip_callsOnly (State.modPass_callsOnly (fun _ => .refl _) fun _ => .mk _ _) t _ p

theorem State.ungrant_callsOnly (t : TipIdx) (state : TipState) (s : State) (p : PassIdx) :
    (s.pass p).CallsOnly ((s.ungrant t state).pass p) :=
  State.modPass_callsOnly (State.modTip_callsOnly (fun _ => .refl _) t _) (fun _ => .mk _ _) p

theorem State.grant_callsOnly (q : PassIdx) (t : TipIdx) (s : State) (p : PassIdx) :
    (s.pass p).CallsOnly ((s.grant q t).pass p) :=
  State.modTip_callsOnly (State.modPass_callsOnly (fun _ => .refl _) fun _ => .mk _ _) t _ p

/-- What one change makes of one pass. -/
inductive Pass.Steps (s : State) (p : PassIdx) : Pass → Prop
  | evolves {q : Pass} (h : (s.pass p).Evolves q) : Pass.Steps s p q
  | calls {q : Pass} (h : (s.pass p).CallsOnly q) : Pass.Steps s p q
  | define (height : Nat) (profile : List Segment) (hm : s.station.mode = .setup ∨ (s.pass p).state = .outOfService)
      (hr : passOutOfRange height profile = false) : Pass.Steps s p (Pass.define height profile (s.pass p))
  | start (hm : s.station.mode = .setup) : Pass.Steps s p (s.pass p).start
  | leave (e : EntryIdx) (hu : (s.entry e).inUse = true) (hs : (s.entry e).serves p) :
      Pass.Steps s p (s.pass p).leaveService

theorem Pass.Steps.refl (s : State) (p : PassIdx) : Pass.Steps s p (s.pass p) := .evolves (.refl _)

theorem Change.pass_steps {s t : State} (hc : Change s t) (p : PassIdx) : Pass.Steps s p (t.pass p) := by
  cases hc with
  | passes ps hp => exact .evolves (hp p)
  | placeCall t =>
    exact .calls (State.modPass_callsOnly (State.modTip_callsOnly (fun _ => .refl _) t _) (fun _ => .mk _ _) p)
  | withdraw t => exact .calls (s.withdrawCall_callsOnly t p)
  | ungrant t => exact .calls (s.ungrant_callsOnly t _ p)
  | requeue t => exact .calls (State.modPass_callsOnly (s.ungrant_callsOnly t _) (fun _ => .mk _ _) p)
  | grant q t => exact .calls (s.grant_callsOnly q t p)
  | definePass q height profile hm hr =>
    rw [State.modPass_pass]
    split
    case isTrue hp => subst hp; exact .define height profile hm hr
    case isFalse => exact .refl s p
  | defineTip t =>
    refine .calls (State.modTip_callsOnly (fun p => ?_) t _ p)
    split
    · exact s.withdrawCall_callsOnly t p
    · exact .refl _
  | start hm =>
    rw [State.mapPasses_pass]
    exact .start hm
  | setup =>
    refine .calls ?_
    rw [State.enterSetup, State.mapChutes_pass, State.mapTips_pass, State.mapPasses_pass]
    exact .mk _ _
  | retire e hev hu =>
    subst hev
    rw [Event.retire_st]
    rcases Event.cleared_cases e _ with ⟨hcl, -⟩ | ⟨q, hq, -, hcl⟩
    · rw [hcl, Event.update_st, State.modEntry_pass]
      exact .refl _ p
    · rw [hcl, Event.endService_st, Event.update_st, State.modPass_pass, State.modEntry_pass]
      split
      case isTrue hp => subst hp; exact .leave e hu hq
      case isFalse => exact (State.modEntry_pass e _ _ p).symm ▸ .refl _ p
  | _ => exact .refl s p

theorem Pass.Steps.lawful {s : State} {p : PassIdx} {q : Pass} (h : Pass.Steps s p q)
    (hs : (s.pass p).lawful = true) : q.lawful = true := by
  cases h with
  | evolves h => exact h.lawful hs
  | calls h => cases h; exact hs
  | define height profile hm hr => exact Pass.define_lawful hr hs
  | start => exact Pass.start_lawful hs
  | leave => exact Pass.leaveService_lawful hs

theorem State.modPass_lawful {s : State} {p : PassIdx} {f : Pass → Pass} (h : ∀ p, (s.pass p).lawful = true)
    (hf : (s.pass p).lawful = true → (f (s.pass p)).lawful = true) (i : PassIdx) :
    ((s.modPass p f).pass i).lawful = true := by
  rw [State.modPass_pass]
  split
  case isTrue hi => subst hi; exact hf (h _)
  case isFalse => exact h i

theorem Opens.pass_lawful {s t : State} (ho : Opens s t) (h : ∀ p, (s.pass p).lawful = true) (p : PassIdx) :
    (t.pass p).lawful = true := by
  cases ho with
  | change hc => exact (hc.pass_steps p).lawful (h p)
  | hang q m hm => exact State.modPass_lawful h (Pass.measure_lawful hm) p
  | halt => exact h p
  | post => exact h p
  | force => exact h p
  | service e q => exact State.modPass_lawful (s := s.modEntry e Entry.forced) h Pass.enterService_lawful p

theorem Law.estimates : Law fun s => ∀ p, (s.pass p).lawful = true where
  outer _ _ _ _ _ _ h := h
  reset := by decide
  stage _ _ hst := hst.keep_of_opens fun _ _ ho h => ho.pass_lawful h

/-- Settles O58: the ranges hold at reset, and every stage of an event keeps them for each pass. -/
theorem stepsKeepTheEstimates : Obligations.StepsKeepTheEstimates := by
  intro s t hs hstep
  rw [State.estimatesLawful_iff] at hs ⊢
  exact Law.estimates.step hstep hs

end Sys2Proof.Machine
end

section
/-! The revocations of one event (R66, R67). -/

namespace Sys2Proof.Machine

/-- The tip point after its grant is revoked (R67). -/
def State.revokedTip (s : State) (t : TipIdx) : Tip :=
  { s.tip t with state := if s.callPresent t then .waiting else .idle, timer := none }

/-- The tip point's grant is among those the list revokes. -/
def State.revokes (s : State) (ts : List TipIdx) (t : TipIdx) : Bool :=
  decide (t ∈ ts) && decide ((s.tip t).state = .granted)

/-- What the revocation of the GRANTED tip points of a list makes of an event (R66, R67). -/
structure Event.Revoked (ev : Event) (ts : List TipIdx) (a : Event) : Prop where
  frame : a.st = { ev.st with passes := a.st.passes, tips := a.st.tips }
  tip : ∀ t, a.st.tip t = if ev.st.revokes ts t then ev.st.revokedTip t else ev.st.tip t
  pass : ∀ p, a.st.pass p = { ev.st.pass p with
    waiting := (ev.st.pass p).waiting ++ ts.filter fun t =>
      ev.st.revokes ts t && ev.st.callPresent t && decide ((ev.st.tip t).pass = p)
    reserved := (ev.st.pass p).reserved - ((ts.filter fun t =>
      ev.st.revokes ts t && decide ((ev.st.tip t).pass = p)).map fun t => (ev.st.tip t).load).sum }
  arb : ∀ p, p ∈ a.arb ↔ p ∈ ev.arb ∨ ∃ t, ev.st.revokes ts t = true ∧ (ev.st.tip t).pass = p
  touched : ∀ e, e ∈ a.touched ↔ e ∈ ev.touched ∨ ∃ t, ev.st.revokes ts t = true ∧ ev.st.coversTip e t = true
  tries : a.tries = ev.tries
  choice : a.choice = ev.choice

theorem State.level_of_lines {s t : State} (h : t.lines = s.lines) (f : LineFn) : t.level f = s.level f :=
  State.level_congr (fun i => by simp only [State.line, h]) (fun i => by simp only [State.line, h]) f

theorem State.callPresent_congr {s t : State} {i : TipIdx} (hs : (t.tip i).source = (s.tip i).source)
    (hl : t.lines = s.lines) : t.callPresent i = s.callPresent i := by
  simp only [State.callPresent, hs, State.level_of_lines hl]

theorem State.coversTip_congr {s t : State} {e : EntryIdx} {i : TipIdx} (he : t.entries = s.entries)
    (hd : (t.tip i).defined = (s.tip i).defined) (hp : (t.tip i).pass = (s.tip i).pass)
    (hel : (t.tip i).elevation = (s.tip i).elevation) : t.coversTip e i = s.coversTip e i := by
  simp only [State.coversTip, State.entry, he, hd, hp, hel]
  rfl

theorem State.modPass_id (p : PassIdx) (s : State) : s.modPass p (fun q => q) = s := by
  simp [State.modPass, State.pass]

namespace Event.Revoked

variable {ev a b : Event} {ts us : List TipIdx}

theorem nil (ev : Event) : ev.Revoked [] ev where
  frame := rfl
  tip t := by simp [State.revokes]
  pass p := by simp
  arb p := by simp [State.revokes]
  touched e := by simp [State.revokes]
  tries := rfl
  choice := rfl

theorem entries (h : ev.Revoked ts a) : a.st.entries = ev.st.entries := by rw [h.frame]
theorem lines (h : ev.Revoked ts a) : a.st.lines = ev.st.lines := by rw [h.frame]

/-- A revocation leaves all of a tip point but its state and its timer. -/
theorem tip_rest (h : ev.Revoked ts a) (t : TipIdx) : (a.st.tip t).defined = (ev.st.tip t).defined
    ∧ (a.st.tip t).pass = (ev.st.tip t).pass ∧ (a.st.tip t).elevation = (ev.st.tip t).elevation
    ∧ (a.st.tip t).load = (ev.st.tip t).load ∧ (a.st.tip t).source = (ev.st.tip t).source := by
  rw [h.tip]
  split <;> exact ⟨rfl, rfl, rfl, rfl, rfl⟩

theorem callPresent (h : ev.Revoked ts a) (t : TipIdx) : a.st.callPresent t = ev.st.callPresent t :=
  State.callPresent_congr (h.tip_rest t).2.2.2.2 h.lines

theorem coversTip (h : ev.Revoked ts a) (e : EntryIdx) (t : TipIdx) : a.st.coversTip e t = ev.st.coversTip e t :=
  State.coversTip_congr h.entries (h.tip_rest t).1 (h.tip_rest t).2.1 (h.tip_rest t).2.2.1

/-- Of two lists with no tip point in common, the second finds what the first left of its tip points. -/
theorem revokes_right (h : ev.Revoked ts a) (hdisj : ts.Disjoint us) (t : TipIdx) :
    a.st.revokes us t = ev.st.revokes us t := by
  unfold State.revokes
  by_cases ht : t ∈ us
  · have hts : t ∉ ts := fun h => hdisj h ht
    rw [h.tip]
    simp [State.revokes, hts]
  · simp [ht]

theorem revokes_append (s : State) (ts us : List TipIdx) (t : TipIdx) :
    s.revokes (ts ++ us) t = (s.revokes ts t || s.revokes us t) := by
  simp only [State.revokes, List.mem_append, Bool.decide_or, Bool.and_or_distrib_right]

theorem filter_append (s : State) (P : TipIdx → Bool) (ts us : List TipIdx) :
    (ts ++ us).filter (fun t => s.revokes (ts ++ us) t && P t)
      = ts.filter (fun t => s.revokes ts t && P t) ++ us.filter fun t => s.revokes us t && P t := by
  rw [List.filter_append]
  congr 1 <;> refine List.filter_congr fun t ht => ?_ <;> simp [State.revokes, ht]

theorem append (h : ev.Revoked ts a) (h' : a.Revoked us b) (hdisj : ts.Disjoint us) : ev.Revoked (ts ++ us) b where
  frame := by
    have hf := h'.frame
    rw [h.frame] at hf
    exact hf
  tip t := by
    rw [h'.tip, h.revokes_right hdisj, revokes_append]
    by_cases hus : ev.st.revokes us t = true
    · have hts : ev.st.revokes ts t = false := by
        simp only [State.revokes, Bool.and_eq_true, decide_eq_true_eq] at hus
        simpa [State.revokes] using fun h => absurd hus.1 (hdisj h)
      have htip : a.st.tip t = ev.st.tip t := by rw [h.tip, hts]; rfl
      simp only [hus, Bool.or_true, if_true, State.revokedTip, htip, h.callPresent]
    · simp only [hus, Bool.or_false, Bool.false_eq_true, if_false]
      exact h.tip t
  pass p := by
    have hmove : (fun t => a.st.revokes us t && a.st.callPresent t && decide ((a.st.tip t).pass = p))
        = fun t => ev.st.revokes us t && (ev.st.callPresent t && decide ((ev.st.tip t).pass = p)) := by
      funext t
      rw [h.revokes_right hdisj, h.callPresent, (h.tip_rest t).2.1, Bool.and_assoc]
    have hfree : (fun t => a.st.revokes us t && decide ((a.st.tip t).pass = p))
        = fun t => ev.st.revokes us t && decide ((ev.st.tip t).pass = p) := by
      funext t
      rw [h.revokes_right hdisj, (h.tip_rest t).2.1]
    have hload : (fun t => (a.st.tip t).load) = fun t => (ev.st.tip t).load :=
      funext fun t => (h.tip_rest t).2.2.2.1
    rw [h'.pass, hmove, hfree, hload, h.pass]
    simp only [Bool.and_assoc, filter_append, List.map_append, List.sum_append, List.append_assoc, Nat.sub_sub]
  arb p := by
    rw [h'.arb, h.arb]
    simp only [h.revokes_right hdisj, (h.tip_rest _).2.1, revokes_append, Bool.or_eq_true, or_and_right, exists_or,
      or_assoc]
  touched e := by
    rw [h'.touched, h.touched]
    simp only [h.revokes_right hdisj, h.coversTip, revokes_append, Bool.or_eq_true, or_and_right, exists_or, or_assoc]
  tries := h'.tries.trans h.tries
  choice := h'.choice.trans h.choice

theorem revokes_singleton (s : State) (t i : TipIdx) :
    s.revokes [t] i = true ↔ i = t ∧ (s.tip i).state = .granted := by
  simp [State.revokes]

theorem of_not_granted {t : TipIdx} (h : (ev.st.tip t).state ≠ .granted) : ev.Revoked [t] (ev.revoke t) := by
  have hnone (i : TipIdx) : ev.st.revokes [t] i = false := by
    rw [Bool.eq_false_iff, Ne, revokes_singleton]
    rintro ⟨rfl, hg⟩
    exact h hg
  rw [Event.revoke_of_not_granted h]
  exact {
    frame := rfl
    tip := fun i => by simp [hnone]
    pass := fun p => by simp [hnone]
    arb := fun p => by simp [hnone]
    touched := fun e => by simp [hnone]
    tries := rfl
    choice := rfl }

/-- The end of a grant, and the list where the call stands again. -/
theorem of_endGrant {t : TipIdx} {state : TipState} {waiting : List TipIdx}
    (hg : (ev.st.tip t).state = .granted)
    (hs : state = if ev.st.callPresent t then .waiting else .idle)
    (hw : waiting = if ev.st.callPresent t then [t] else []) :
    ev.Revoked [t] ((ev.endGrant t state).update (State.modPass (ev.st.tip t).pass fun q =>
      { q with waiting := q.waiting ++ waiting })) where
  frame := rfl
  tip i := by
    rw [Event.update_st, State.modPass_tip, Event.endGrant_st, State.modPass_tip, State.modTip_tip]
    by_cases hi : i = t
    · subst hi
      have hr : ev.st.revokes [i] i = true := (revokes_singleton ..).mpr ⟨rfl, hg⟩
      rw [if_pos rfl, if_pos hr, hs, State.revokedTip]
    · have hr : ¬ ev.st.revokes [t] i = true := by
        rw [revokes_singleton]
        exact fun h => hi h.1
      rw [if_neg hi, if_neg hr]
  pass p := by
    have hr : ev.st.revokes [t] t = true := (revokes_singleton ..).mpr ⟨rfl, hg⟩
    rw [Event.update_st, State.modPass_pass, Event.endGrant_st, State.modPass_pass_self, State.modTip_pass]
    by_cases hp : p = (ev.st.tip t).pass
    · subst hp
      rw [if_pos rfl]
      cases hcall : ev.st.callPresent t <;> simp [hr, hcall, hw]
    · have hp' : ¬ (ev.st.tip t).pass = p := fun h => hp h.symm
      rw [if_neg hp, State.modPass_pass_ne _ _ _ hp, State.modTip_pass]
      simp [hp']
  arb p := by
    change p ∈ (ev.st.tip t).pass :: ev.arb ↔ _
    simp only [revokes_singleton, List.mem_cons]
    constructor
    · rintro (rfl | h)
      · exact .inr ⟨t, ⟨rfl, hg⟩, rfl⟩
      · exact .inl h
    · rintro (h | ⟨i, ⟨rfl, -⟩, h⟩)
      · exact .inr h
      · exact .inl h.symm
  touched e := by
    change e ∈ (List.finRange 24).filter ((ev.st.ungrant t state).coversTip · t) ++ ev.touched ↔ _
    simp only [State.ungrant_coversTip, revokes_singleton, List.mem_append, List.mem_filter, List.mem_finRange,
      true_and]
    constructor
    · rintro (h | h)
      · exact .inr ⟨t, ⟨rfl, hg⟩, h⟩
      · exact .inl h
    · rintro (h | ⟨i, ⟨rfl, -⟩, h⟩)
      · exact .inr h
      · exact .inl h
  tries := rfl
  choice := rfl

/-- The revocation of one tip point. -/
theorem revoke (t : TipIdx) (ev : Event) : ev.Revoked [t] (ev.revoke t) := by
  by_cases hg : (ev.st.tip t).state = .granted
  · have heq : ev.revoke t = (ev.endGrant t (if ev.st.callPresent t then .waiting else .idle)).update
        (State.modPass (ev.st.tip t).pass fun q =>
          { q with waiting := q.waiting ++ if ev.st.callPresent t then [t] else [] }) := by
      rw [Event.revoke, if_pos hg]
      cases ev.st.callPresent t with
      | true => rfl
      | false =>
        simp only [Bool.false_eq_true, if_false, List.append_nil, Event.update, State.modPass_id]
    rw [heq]
    exact of_endGrant hg rfl rfl
  · exact of_not_granted hg

theorem foldl_revoke (ts : List TipIdx) (hn : ts.Nodup) (ev : Event) :
    ev.Revoked ts (ts.foldl (fun ev t => ev.revoke t) ev) := by
  induction ts generalizing ev with
  | nil => exact .nil ev
  | cons t ts ih =>
    obtain ⟨ht, hn⟩ := List.nodup_cons.mp hn
    exact (Event.Revoked.revoke t ev).append (us := ts) (ih hn _) (by simpa using ht)

end Event.Revoked

theorem Event.revokeWhere_revoked (which : TipIdx → Bool) (ev : Event) :
    ev.Revoked ((List.finRange 16).filter which) (ev.revokeWhere which) :=
  .foldl_revoke _ ((List.nodup_finRange 16).filter _) ev

theorem State.revokes_filter (s : State) (which : TipIdx → Bool) (t : TipIdx) :
    s.revokes ((List.finRange 16).filter which) t = (which t && decide ((s.tip t).state = .granted)) := by
  simp [State.revokes]

/-- The lists and reservations the revocations of one event leave (R67). -/
theorem Event.revokeWhere_pass (which : TipIdx → Bool) (ev : Event) (p : PassIdx) :
    (ev.revokeWhere which).st.pass p = { ev.st.pass p with
      waiting := (ev.st.pass p).waiting ++ (List.finRange 16).filter fun t =>
        which t && decide ((ev.st.tip t).state = .granted) && ev.st.callPresent t && decide ((ev.st.tip t).pass = p)
      reserved := (ev.st.pass p).reserved - (((List.finRange 16).filter fun t =>
        which t && decide ((ev.st.tip t).state = .granted) && decide ((ev.st.tip t).pass = p)).map fun t =>
          (ev.st.tip t).load).sum } := by
  have hmove : (fun t => ev.st.revokes ((List.finRange 16).filter which) t && ev.st.callPresent t
        && decide ((ev.st.tip t).pass = p) && which t)
      = fun t => which t && decide ((ev.st.tip t).state = .granted) && ev.st.callPresent t
        && decide ((ev.st.tip t).pass = p) := by
    funext t
    rw [State.revokes_filter]
    cases which t <;> simp
  have hfree : (fun t => ev.st.revokes ((List.finRange 16).filter which) t && decide ((ev.st.tip t).pass = p)
        && which t)
      = fun t => which t && decide ((ev.st.tip t).state = .granted) && decide ((ev.st.tip t).pass = p) := by
    funext t
    rw [State.revokes_filter]
    cases which t <;> simp
  rw [(Event.revokeWhere_revoked which ev).pass, List.filter_filter, List.filter_filter, hmove, hfree]

theorem Event.revokeWhere_tip (which : TipIdx → Bool) (ev : Event) (t : TipIdx) :
    (ev.revokeWhere which).st.tip t = if which t = true ∧ (ev.st.tip t).state = .granted then ev.st.revokedTip t
      else ev.st.tip t := by
  rw [(Event.revokeWhere_revoked which ev).tip, State.revokes_filter]
  exact if_congr (by simp) rfl rfl

/-- Settles O33: one tip point's revocation, and the revocations of two lists that share no tip point, composed along
the list in ascending order. -/
theorem revocationsRequeueInIndexOrder : Obligations.RevocationsRequeueInIndexOrder := by
  intro s which
  have h := Event.revokeWhere_revoked (fun t => which.getLsbD t) (Event.of s)
  refine ⟨h.frame, fun t => ?_, fun p => Event.revokeWhere_pass _ _ p, fun p => ?_, fun e => ?_, h.tries, h.choice⟩
  · rw [h.tip, State.revokes_filter]
    rfl
  · rw [h.arb]
    simp [State.revokes_filter, Event.of]
  · rw [h.touched]
    simp [State.revokes_filter, Event.of]

end Sys2Proof.Machine
end

section
/-! The machine's step and the link (chapter 10). -/

namespace Sys2Proof.Machine

/-- Settles O1. -/
theorem stepRunsTheFrontCommand : Obligations.StepRunsTheFrontCommand :=
  fun _ _ _ => ⟨rfl, rfl⟩

/-- Settles O56: every law is a check of the finite reset state. -/
theorem resetObeysEveryLaw : Obligations.ResetObeysEveryLaw := by
  unfold Obligations.ResetObeysEveryLaw
  decide

/-! ## How a request is taken -/

/-- The command is a request of this length, which its owner's rule answers whatever its tag. -/
structure TakenBy (i : Instr) (rq : Request) (n : Nat) (owner : State → Reply) : Prop where
  runs : ∀ s, exec i s = .next (request rq n owner s)
  retagged : ∀ tag s, exec (i.withTag tag) s = .next (request (rq.withTag tag) n owner s)
  length : ∀ code body, i.wellFormed = true → encodeRequest i = some (code, body) → n = body.length

/-- The length of a segment's bytes, of all segments of a profile. -/
theorem encodeSegments_length (gs : List Segment) : (encodeSegments gs).length = 4 * gs.length := by
  induction gs with
  | nil => rfl
  | cons g gs ih =>
    rw [encodeSegments, List.flatMap_cons, List.length_append, ← encodeSegments, ih]
    simp only [List.length_append, bigEndian_length, List.length_cons]
    omega

theorem TakenBy.definePass (rq : Request) (pass height count : Nat) (gs : List Segment) :
    TakenBy (.definePass rq pass height count gs) rq (4 + 4 * count) (State.definePassReply pass height gs) where
  runs _ := rfl
  retagged _ _ := rfl
  length code body hwf h := by
    obtain ⟨rfl, rfl⟩ := Prod.mk.inj (Option.some.inj h)
    simp only [Instr.wellFormed, Bool.and_eq_true, decide_eq_true_eq] at hwf
    obtain ⟨-, hcount⟩ := hwf
    simp only [List.length_append, bigEndian_length, encodeSegments_length, hcount]

/-- Every request of the link is taken by its owner, whose length is that of the encoding: only the body of
DEFINE PASS has no fixed length. -/
theorem takenBy_of_request {i : Instr} {rq : Request} (h : i.request? = some rq) :
    ∃ n owner, TakenBy i rq n owner := by
  cases i
  case definePass => obtain rfl := Option.some.inj h; exact ⟨_, _, .definePass ..⟩
  all_goals first
    | cases h; done
    | obtain rfl := Option.some.inj h
      refine ⟨_, _, fun _ => rfl, fun _ _ => rfl, fun code body _ hb => ?_⟩
      cases hb <;> simp [optionByte]

/-- A request acts as with any other tag; the tag alone says whether an answer waits (R177). -/
theorem request_retagged (rq : Request) (tag n : Nat) (owner : State → Reply) (s : State) :
    let t := request (rq.withTag 0xFFFF) n owner s
    let u := request (rq.withTag tag) n owner s
    u = { t with link := { t.link with answer := u.link.answer } }
      ∧ (s.listening = true → t.link.answer = none) := by
  have answered (status : Status) (body : List Byte) (x : State) :
      x.answered (rq.withTag tag) status body = { x.answered (rq.withTag 0xFFFF) status body with
        link := { (x.answered (rq.withTag 0xFFFF) status body).link with
          answer := (x.answered (rq.withTag tag) status body).link.answer } } := rfl
  unfold request
  split
  case isFalse hl => exact ⟨rfl, fun h => absurd h hl⟩
  split
  case h_2 => exact ⟨rfl, fun _ => rfl⟩
  by_cases hn : rq.length = n
  · simp only [Request.withTag, hn, if_true]
    cases owner s with
    | refuse status body => exact ⟨answered status body s, fun _ => rfl⟩
    | report body => exact ⟨answered .accepted body s, fun _ => rfl⟩
    | take ev body => exact ⟨answered .accepted (body ev.finish) ev.finish, fun _ => rfl⟩
  · simp only [Request.withTag, hn, if_false]
    exact ⟨answered .badLength [] s, fun _ => rfl⟩

/-- Settles O7. -/
theorem tagFFFFActsInFullWithoutAnswer : Obligations.TagFFFFActsInFullWithoutAnswer := by
  intro i tag s hi
  obtain ⟨rq, hrq⟩ := Option.isSome_iff_exists.mp hi
  obtain ⟨n, owner, htaken⟩ := takenBy_of_request hrq
  obtain ⟨hsame, hnone⟩ := request_retagged rq tag n owner s
  exact ⟨_, htaken.retagged 0xFFFF s, ⟨_, htaken.retagged tag s, hsame⟩, hnone⟩

/-- Settles O8. -/
theorem receiverDiscardsAndHunts : Obligations.ReceiverDiscardsAndHunts := by
  intro s hl
  have hdiscard : s.discardFrame = { s with link := { s.link with receiver := .hunting } } := by
    rw [State.discardFrame, if_pos hl]; rfl
  refine ⟨congrArg _ hdiscard, congrArg _ hdiscard, congrArg _ hdiscard, ?_, fun hr => ?_⟩
  · show execIgnoredFrame s = _
    rw [execIgnoredFrame, if_pos hl, frameOver_eq]
  · show execFrameStartByte s = _
    rw [execFrameStartByte, if_pos (by simp [hl, hr])]
    rfl

/-! ## Sending -/

theorem State.not_listening_of_sending {s : State} (h : s.link.sending.isSome = true) : s.listening = false := by
  simp [State.listening, Option.isNone_eq_false_iff.mpr h]

theorem State.not_listening_of_inReset {s : State} (h : s.inReset = true) : s.listening = false := by
  simp [State.listening, h]

/-- A part that does not receive takes no request, no frame and no byte, and sends no answer (R156, R177). -/
theorem exec_of_not_listening {s : State} (hl : s.listening = false) :
    (∀ i : Instr, i.request?.isSome = true → exec i s = .next s)
      ∧ exec .broadcastStop s = .next s ∧ exec .ignoredFrame s = .next s
      ∧ exec .frameStartByte s = .next s ∧ exec .framingError s = .next s
      ∧ exec .lengthAbove240 s = .next s ∧ exec .frameGapTimeout s = .next s
      ∧ exec .answerSend s = .next s := by
  have hif (t : State) : (if s.listening then t else s) = s := by simp [hl]
  have hand (b : Bool) (t : State) : (if s.listening && b then t else s) = s := by simp [hl]
  refine ⟨fun i hi => ?_, congrArg _ (hif _), congrArg _ (hif _), congrArg _ (hand _ _), congrArg _ (hif _),
    congrArg _ (hif _), congrArg _ (hif _), congrArg _ (hif _)⟩
  obtain ⟨rq, hrq⟩ := Option.isSome_iff_exists.mp hi
  obtain ⟨n, owner, htaken⟩ := takenBy_of_request hrq
  rw [htaken.runs, request_of_not_listening hl]

/-- Settles O9. -/
theorem answersAreSentAndNothingIsReceivedMeanwhile :
    Obligations.AnswersAreSentAndNothingIsReceivedMeanwhile := by
  intro s a i code head
  refine ⟨fun hl ha => ?_, fun hr => ?_, fun hsending => ?_⟩
  · have hcode : code = a.status.code := rfl
    have hframe : a.frame s.link.address = 0x5A :: (head ++ crcBytes head) := by
      have hhead : bigEndian 1 s.link.address ++ bigEndian 2 a.tag ++ bigEndian 1 a.status.code
          ++ bigEndian 1 a.body.length ++ a.body = head := by
        simp [head, hcode, bigEndian]
      rw [Answer.frame, hhead]
      rfl
    show execAnswerSend s = _
    rw [execAnswerSend, if_pos hl, ha, ← hframe]
    rfl
  · show execAnswerSent s = _
    rw [execAnswerSent, if_neg (by simp [hr])]
    rfl
  · obtain ⟨hrequest, hrest⟩ := exec_of_not_listening (State.not_listening_of_sending hsending)
    exact ⟨hrequest i, hrest⟩

/-- Settles O10: no event occurs at a part held in reset, and it does not receive. -/
theorem heldInResetNothingActs : Obligations.HeldInResetNothingActs := by
  intro c s hr hc
  have hoccur (f : State → Option Event) : Host.Outcome.next (occur s f) = (.next s : Result) :=
    congrArg _ (occur_held hr f)
  have hif (t : State) : Host.Outcome.next (if s.inReset then s else t) = (.next s : Result) := by simp [hr]
  obtain ⟨hrequest, hstop, hignored, hstart, hframing, hlength, hgap, hsend⟩ :=
    exec_of_not_listening (State.not_listening_of_inReset hr)
  cases hreq : c.request? with
  | some rq => exact hrequest c (by simp [hreq])
  | none =>
    cases c
    case broadcastStop => exact hstop
    case ignoredFrame => exact hignored
    case frameStartByte => exact hstart
    case framingError => exact hframing
    case lengthAbove240 => exact hlength
    case frameGapTimeout => exact hgap
    case answerSend => exact hsend
    case answerSent => exact hif _
    case ageTick => exact hif _
    all_goals first
      | cases hc; done
      | cases hreq; done
      | exact hoccur _

end Sys2Proof.Machine
end

section
/-! The common checks and the encodings of the requests (sections 10.1, 10.2). -/

namespace Sys2Proof.Machine

/-! ## The common checks -/

/-- A request for a record beyond the range of its type is refused (R178). -/
theorem request_beyond {rq : Request} {n k i : Nat} {owner : State → Reply} {act : Fin k → Reply} {s : State}
    (hi : k ≤ i) (howner : owner s = withIndex k i act) (ht : s.takes rq n = true) :
    (.next (request rq n owner s) : Result) = .next (s.answered rq .noRecord []) := by
  rw [request_of_takes ht, howner, withIndex_ge hi, replied_no]

/-- Settles O6. -/
theorem commonChecksRefuse : Obligations.CommonChecksRefuse := by
  intro i rq code n body g v1 v2 v3 v4 v5 v6 o1 o2 o3 o4 o5 b1 b2 b3 b4 set s missing
  refine ⟨fun hwf hrq hl => ?_, fun h => ?_, fun h => ?_, fun h => ?_, fun h => ?_, fun h => ?_, fun h => ?_⟩
  · obtain ⟨len, owner, htaken⟩ := takenBy_of_request hrq
    refine ⟨fun ha hcode hlen => ?_, fun ha => ?_, fun ha => ?_⟩
    · rw [htaken.runs, request_of_badLength hl ha (htaken.length _ _ hwf hcode ▸ hlen)]
    · have ht : s.takes rq rq.length = true := by simp [State.takes, hl, ha]
      exact congrArg _ (request_of_takes ht _)
    · rw [htaken.runs, request_of_noAddress hl ha]
  · exact ⟨request_beyond h rfl, request_beyond h rfl, request_beyond h rfl,
      fun ht => ⟨request_beyond h rfl ht, request_beyond h rfl ht⟩,
      fun ht => ⟨request_beyond h rfl ht, request_beyond h rfl ht⟩, request_beyond h rfl⟩
  · exact ⟨request_beyond h rfl, request_beyond h rfl,
      fun ht => ⟨request_beyond h rfl ht, request_beyond h rfl ht⟩, request_beyond h rfl, request_beyond h rfl⟩
  · exact ⟨request_beyond h rfl, request_beyond h rfl, request_beyond h rfl,
      fun ht => ⟨request_beyond h rfl ht, request_beyond h rfl ht⟩,
      fun ht => ⟨request_beyond h rfl ht, request_beyond h rfl ht⟩,
      fun ht => ⟨request_beyond h rfl ht, request_beyond h rfl ht, request_beyond h rfl ht,
        request_beyond h rfl ht, request_beyond h rfl ht⟩⟩
  · exact ⟨request_beyond h rfl, request_beyond h rfl,
      fun ht => ⟨request_beyond h rfl ht, request_beyond h rfl ht⟩⟩
  · exact ⟨fun ht => ⟨request_beyond h rfl ht, request_beyond h rfl ht⟩, request_beyond h rfl,
      request_beyond h rfl, request_beyond h rfl⟩
  · exact ⟨fun ht => ⟨request_beyond h rfl ht, request_beyond h rfl ht⟩,
      fun ht => ⟨request_beyond h rfl ht, request_beyond h rfl ht⟩⟩

/-! ## Written frames -/

/-- Settles O3, by running the check and the decoder on the bytes. -/
theorem writtenFramesSpellTheirCommands : Obligations.WrittenFramesSpellTheirCommands := by
  unfold Obligations.WrittenFramesSpellTheirCommands
  decide +kernel

end Sys2Proof.Machine
end

section
/-! The requests round trip through their bodies and frames (R175 to R178). -/

namespace Sys2Proof.Machine

/-! ## Fields of a body -/

theorem fitsByte_iff (v : Nat) : fitsByte v = true ↔ v % 256 = v := by
  rw [fitsByte, decide_eq_true_eq, Nat.mod_eq_iff_lt (by decide)]

theorem fitsWord_iff (v : Nat) : fitsWord v = true ↔ v % 65536 = v := by
  rw [fitsWord, decide_eq_true_eq, Nat.mod_eq_iff_lt (by decide)]

theorem fitsTriple_iff (v : Nat) : fitsTriple v = true ↔ v % 16777216 = v := by
  rw [fitsTriple, decide_eq_true_eq, Nat.mod_eq_iff_lt (by decide)]

theorem optionField_optionByte_append {o : Option Nat} (h : fitsOption o = true) (rest : List Byte) :
    optionField (optionByte o ++ rest) 0 = o := by
  unfold optionField optionByte
  rw [field_bigEndian_append]
  cases o with
  | none => simp
  | some v =>
    have hv : v < 255 := by simpa [fitsOption] using h
    simp [Nat.mod_eq_of_lt (by omega : v < 256), show v ≠ 255 by omega]

theorem optionField_optionByte {o : Option Nat} (h : fitsOption o = true) : optionField (optionByte o) 0 = o := by
  simpa using optionField_optionByte_append h []

theorem optionField_append_of_le {n start : Nat} (hle : n ≤ start) (v : Nat) (rest : List Byte) :
    optionField (bigEndian n v ++ rest) start = optionField rest (start - n) := by
  simp only [optionField, field_bigEndian_append_of_le hle]

theorem optionField_option_of_le {start : Nat} (hle : 1 ≤ start) (o : Option Nat) (rest : List Byte) :
    optionField (optionByte o ++ rest) start = optionField rest (start - 1) :=
  optionField_append_of_le hle _ rest

theorem field_option_of_le {start : Nat} (hle : 1 ≤ start) (o : Option Nat) (rest : List Byte) (len : Nat) :
    field (optionByte o ++ rest) start len = field rest (start - 1) len :=
  field_bigEndian_append_of_le hle _ rest len

/-- A byte in a body is the number it spells. -/
theorem singleton_append_eq (b : Byte) (rest : List Byte) : b :: rest = bigEndian 1 b.toNat ++ rest := by
  simp [bigEndian]

theorem ofNat_toNat_mod {w m : Nat} (b : BitVec w) (hm : m = 2 ^ w) : BitVec.ofNat w (b.toNat % m) = b := by
  rw [hm, Nat.mod_eq_of_lt b.isLt, BitVec.ofNat_toNat, BitVec.setWidth_eq]

theorem toNat_mod_two_beq (b : Bool) : (b.toNat % 2 == 1) = b := by cases b <;> rfl

theorem drop_bigEndian_append_of_le {n k : Nat} (hle : n ≤ k) (v : Nat) (rest : List Byte) :
    (bigEndian n v ++ rest).drop k = rest.drop (k - n) := by
  rw [List.drop_append, List.drop_eq_nil_of_le (by simpa using hle), List.nil_append, bigEndian_length]

/-- The segments of a profile are read back from its bytes. -/
theorem decodeSegments_encodeSegments {gs : List Segment} (h : gs.all Segment.fits = true) :
    decodeSegments gs.length (encodeSegments gs) = gs := by
  induction gs with
  | nil => rfl
  | cons g gs ih =>
    obtain ⟨hg, hgs⟩ : g.fits = true ∧ gs.all Segment.fits = true := by simpa using h
    obtain ⟨hh, ha⟩ : g.height % 65536 = g.height ∧ g.area % 65536 = g.area := by
      simpa only [Segment.fits, Bool.and_eq_true, fitsWord_iff] using hg
    have hbytes : encodeSegments (g :: gs) = bigEndian 2 g.height ++ (bigEndian 2 g.area ++ encodeSegments gs) := by
      rw [encodeSegments, List.flatMap_cons, List.append_assoc, ← encodeSegments]
    have hdrop : (encodeSegments (g :: gs)).drop 4 = encodeSegments gs := by
      rw [hbytes, drop_bigEndian_append_of_le (by decide), drop_bigEndian_append_of_le (by decide)]
      rfl
    rw [List.length_cons, decodeSegments, hdrop, ih hgs, hbytes, field_bigEndian_append,
      field_bigEndian_append_of_le (le_refl 2), Nat.sub_self, field_bigEndian_append]
    simp [hh, ha]

/-- Settles O4: each field is read back at its own offset. -/
theorem requestBodiesRoundTrip : Obligations.RequestBodiesRoundTrip := by
  intro i rq code body hwf hrq hcode
  cases i
  case definePass rq' pass height count gs =>
    obtain rfl := Option.some.inj hrq
    obtain ⟨rfl, rfl⟩ := Prod.mk.inj (Option.some.inj hcode)
    simp only [Instr.wellFormed, Bool.and_eq_true, fitsByte_iff, fitsWord_iff, decide_eq_true_eq] at hwf
    obtain ⟨⟨⟨⟨⟨-, hpass⟩, hheight⟩, hcount⟩, hgs⟩, rfl⟩ := hwf
    simp [decodeRequest, field_bigEndian_append_of_le, drop_bigEndian_append_of_le, hpass, hheight, hcount,
      decodeSegments_encodeSegments hgs]
  all_goals first
    | cases hrq; done
    | cases hcode; done
    | obtain rfl := Option.some.inj hrq
      obtain ⟨rfl, rfl⟩ := Prod.mk.inj (Option.some.inj hcode)
      simp only [Instr.wellFormed, Bool.and_eq_true, fitsByte_iff, fitsWord_iff, fitsTriple_iff] at hwf
      simp [decodeRequest, field_bigEndian_append_of_le, singleton_append_eq, optionField_append_of_le,
        optionField_option_of_le, field_option_of_le, optionField_optionByte, optionField_optionByte_append,
        ofNat_toNat_mod, toNat_mod_two_beq, hwf]

/-! ## Frames -/

theorem code_lt_of_encodeRequest {i : Instr} {code : Nat} {body : List Byte}
    (h : encodeRequest i = some (code, body)) : code < 256 := by
  cases i
  all_goals cases h
  all_goals decide

theorem wellFormed_of_request {i : Instr} {rq : Request} (hwf : i.wellFormed = true) (hrq : i.request? = some rq) :
    rq.wellFormed = true := by
  cases i
  all_goals cases hrq
  all_goals simp only [Instr.wellFormed, Bool.and_eq_true, and_assoc] at hwf
  all_goals simp only [hwf]

/-- The frame of a request with its bytes written one by one. -/
theorem encodeFrame_eq {i : Instr} {rq : Request} {code : Nat} {body : List Byte} (address : Nat)
    (hrq : i.request? = some rq) (hcode : encodeRequest i = some (code, body)) :
    let checked := BitVec.ofNat 8 address :: BitVec.ofNat 8 (rq.tag / 256) :: BitVec.ofNat 8 rq.tag
      :: BitVec.ofNat 8 code :: BitVec.ofNat 8 rq.length :: body
    encodeFrame address i = some (Config.requestStart :: (checked ++ crcBytes checked)) := by
  simp [encodeFrame, hrq, hcode, bigEndian]

/-- A frame whose check matches is taken for what its address and code say. -/
theorem decodeFrame_of_check {straps : Nat} {address tagHigh tagLow code n : Byte} {body : List Byte}
    (hmax : n.toNat ≤ Config.bodyMax) (hn : body.length = n.toNat) :
    decodeFrame straps (Config.requestStart :: address :: tagHigh :: tagLow :: code :: n
        :: (body ++ crcBytes (address :: tagHigh :: tagLow :: code :: n :: body)))
      = some (decodeAddressed straps address.toNat (bytesToNat [tagHigh, tagLow]) code.toNat body) := by
  have hlength : (body ++ crcBytes (address :: tagHigh :: tagLow :: code :: n :: body)).length = n.toNat + 2 := by
    rw [List.length_append, hn, crcBytes, bigEndian_length]
  simp only [decodeFrame, hmax, hlength, and_self, if_true]
  rw [← hn, List.drop_left, List.take_left, if_pos rfl]

/-- Settles O5. -/
theorem requestFramesRoundTrip : Obligations.RequestFramesRoundTrip := by
  intro i rq code body frame address other hwf hrq hcode hlength hlow hhigh hframe
  obtain ⟨htag, hmax⟩ : fitsWord rq.tag = true ∧ rq.length ≤ Config.bodyMax := by
    simpa [Request.wellFormed] using wellFormed_of_request hwf hrq
  have hmax' : rq.length < 256 := Nat.lt_of_le_of_lt hmax (by decide)
  obtain rfl := Option.some.inj ((encodeFrame_eq address hrq hcode).symm.trans hframe)
  have htoNat {v : Nat} (h : v < 256) : (BitVec.ofNat 8 v).toNat = v := by
    rw [BitVec.toNat_ofNat, Nat.mod_eq_of_lt h]
  have hdecode (straps : Nat) := decodeFrame_of_check (straps := straps) (address := BitVec.ofNat 8 address)
    (tagHigh := BitVec.ofNat 8 (rq.tag / 256)) (tagLow := BitVec.ofNat 8 rq.tag) (code := BitVec.ofNat 8 code)
    (n := BitVec.ofNat 8 rq.length) (body := body) (by rwa [htoNat hmax']) (by rw [htoNat hmax', hlength])
  have htagBytes : bytesToNat [BitVec.ofNat 8 (rq.tag / 256), BitVec.ofNat 8 rq.tag] = rq.tag := by
    have := (field_bigEndian 2 rq.tag).trans ((fitsWord_iff _).mp htag)
    simpa [field, bigEndian] using this
  have haddressed (straps : Nat) : decodeAddressed straps address rq.tag code body
      = if ownAddress straps = some address then i else .ignoredFrame := by
    rw [decodeAddressed, if_neg (by omega), ← hlength, requestBodiesRoundTrip i rq code body hwf hrq hcode]
  have hown (straps : Nat) : ownAddress straps = some address ↔ straps = address := by
    rw [ownAddress]
    split
    · simp
    · simp only [reduceCtorEq, false_iff]
      omega
  simp only [List.cons_append, hdecode, htoNat (by omega : address < 256), htoNat (code_lt_of_encodeRequest hcode),
    htagBytes, haddressed, hown, if_true, true_and]
  exact fun hne => by rw [if_neg hne]

end Sys2Proof.Machine
end

section
/-! The end of an event: settling tests, arbiters, start tries, the breaker's choice, pins and ATTN. -/

namespace Sys2Proof.Machine

/-! ## What an event's end may do to any record -/

/-- What the end of an event leaves of a pass. -/
def Pass.EndsAs (q q' : Pass) : Prop :=
  q' = { q with waiting := q'.waiting, reserved := q'.reserved, state := q'.state, d := q'.d }

/-- What the end of an event leaves of a tip point. -/
def Tip.EndsAs (x x' : Tip) : Prop := x' = { x with state := x'.state, timer := x'.timer }

theorem Pass.EndsAs.refl (q : Pass) : q.EndsAs q := rfl

theorem Tip.EndsAs.refl (x : Tip) : x.EndsAs x := rfl

theorem Pass.EndsAs.trans {q q' q'' : Pass} (h : q.EndsAs q') (h' : q'.EndsAs q'') : q.EndsAs q'' :=
  Eq.trans h' (by rw [h])

theorem Tip.EndsAs.trans {x x' x'' : Tip} (h : x.EndsAs x') (h' : x'.EndsAs x'') : x.EndsAs x'' :=
  Eq.trans h' (by rw [h])

theorem Pass.EndsAs.e {q q' : Pass} (h : q.EndsAs q') : q'.e = q.e := by rw [h]
theorem Pass.EndsAs.defined {q q' : Pass} (h : q.EndsAs q') : q'.defined = q.defined := by rw [h]
theorem Pass.EndsAs.capacity {q q' : Pass} (h : q.EndsAs q') : q'.capacity = q.capacity := by rw [h]
theorem Pass.EndsAs.tuning {q q' : Pass} (h : q.EndsAs q') : q'.tuning = q.tuning := by rw [h]; rfl

/-- What the end of an event, before the pins, leaves of a state. -/
structure State.EndsAs (s t : State) : Prop where
  frame : t = { s with passes := t.passes, tips := t.tips, chutes := t.chutes, breaker := t.breaker,
                       entries := t.entries }
  pass : ∀ p, (s.pass p).EndsAs (t.pass p)
  tip : ∀ i, (s.tip i).EndsAs (t.tip i)

namespace State.EndsAs

variable {s t u : State}

theorem refl (s : State) : s.EndsAs s := ⟨rfl, fun _ => .refl _, fun _ => .refl _⟩

theorem trans (h : s.EndsAs t) (h' : t.EndsAs u) : s.EndsAs u :=
  ⟨h'.frame.trans (by rw [h.frame]), fun p => (h.pass p).trans (h'.pass p), fun i => (h.tip i).trans (h'.tip i)⟩

theorem modPass (p : PassIdx) {f : Pass → Pass} (hf : ∀ q : Pass, q.EndsAs (f q)) (s : State) :
    s.EndsAs (s.modPass p f) where
  frame := rfl
  pass o := by
    rw [State.modPass_pass]
    split
    case isTrue h => exact h ▸ hf _
    case isFalse => exact .refl _
  tip _ := .refl _

theorem modTip (i : TipIdx) {f : Tip → Tip} (hf : ∀ x : Tip, x.EndsAs (f x)) (s : State) :
    s.EndsAs (s.modTip i f) where
  frame := rfl
  pass p := by rw [State.modTip_pass]; exact .refl _
  tip o := by
    rw [State.modTip_tip]
    split
    case isTrue h => exact h ▸ hf _
    case isFalse => exact .refl _

theorem modChute (c : ChuteIdx) (f : Chute → Chute) (s : State) : s.EndsAs (s.modChute c f) :=
  ⟨rfl, fun _ => .refl _, fun _ => .refl _⟩

theorem modEntry (e : EntryIdx) (f : Entry → Entry) (s : State) : s.EndsAs (s.modEntry e f) :=
  ⟨rfl, fun _ => .refl _, fun _ => .refl _⟩

theorem modBreaker (f : Breaker → Breaker) (s : State) : s.EndsAs (s.modBreaker f) :=
  ⟨rfl, fun _ => .refl _, fun _ => .refl _⟩

theorem revokeWhere (which : TipIdx → Bool) (ev : Event) : ev.st.EndsAs (ev.revokeWhere which).st := by
  have h := ev.revokeWhere_revoked which
  refine ⟨?_, fun p => ?_, fun i => ?_⟩
  · rw [h.frame]
  · rw [h.pass]; rfl
  · rw [h.tip]
    split <;> rfl

theorem enterForce (e : EntryIdx) (ev : Event) : ev.st.EndsAs (ev.enterForce e).st := by
  have hforce := modEntry e Entry.forced ev.st
  rcases ev.enterForce_cases e with ⟨h, -⟩ | ⟨p, -, -, -, h⟩
  · rw [h]
    exact hforce
  · rw [h]
    exact (hforce.trans (modPass p (f := Pass.enterService) (fun _ => rfl) _)).trans
      (revokeWhere _ ((ev.update (State.modEntry e Entry.forced)).update (State.modPass p Pass.enterService)))

theorem settleTest (e : EntryIdx) (ev : Event) : ev.st.EndsAs (ev.settleTest e).st := by
  rcases ev.settleTest_cases e with h | ⟨-, -, -, h⟩
  · rw [h]
    exact .refl _
  · rw [h]
    exact enterForce e ev

theorem grant (p : PassIdx) (i : TipIdx) (s : State) : s.EndsAs (s.grant p i) := by
  refine (modPass p ?_ s).trans (modTip i ?_ _)
  · exact fun _ => rfl
  · exact fun _ => rfl

theorem startTry (c : ChuteIdx) (s : State) : s.EndsAs (s.startTry c) := by
  rcases s.startTry_cases c with h | ⟨-, -, -, ⟨-, h⟩ | ⟨-, -, h⟩ | ⟨-, -, h⟩⟩
  · rw [h]
    exact .refl s
  all_goals
    rw [h]
    exact modChute c _ s

theorem chooseJob (s : State) : s.EndsAs s.chooseJob := by
  rcases s.chooseJob_cases with h | ⟨j, -, -, h⟩
  · rw [h]
    exact .refl s
  · rw [h]
    exact modBreaker _ s

theorem lines (h : s.EndsAs t) : t.lines = s.lines := by rw [h.frame]
theorem inReset (h : s.EndsAs t) : t.inReset = s.inReset := by rw [h.frame]

end State.EndsAs

/-! ## The stages of an event's end -/

/-- The state an event's end leaves to the pins (R128 step 6, R26, R110). -/
def Event.acted (ev : Event) : State :=
  let s := (ev.settleTests.st.runArbiters ev.settleTests.arb).runTries ev.settleTests.tries
  if ev.settleTests.choice then s.chooseJob else s

theorem Event.finish_acted (ev : Event) : ev.finish = ev.acted.endEvent := rfl

theorem State.runArbiters_endsAs (ps : List PassIdx) (s : State) : s.EndsAs (s.runArbiters ps) :=
  State.runArbiters_induct (P := s.EndsAs) ps (fun u p _ h => State.runArbiter_induct (P := s.EndsAs) p
    (fun v t hv _ _ => hv.trans (.grant p t v)) u h) s (.refl s)

theorem State.runTries_endsAs (cs : List ChuteIdx) (s : State) : s.EndsAs (s.runTries cs) :=
  State.runTries_induct (P := s.EndsAs) cs (fun u c _ h => h.trans (.startTry c u)) s (.refl s)

theorem Event.settleTests_endsAs (ev : Event) : ev.st.EndsAs ev.settleTests.st :=
  ev.settleTests_induct (P := fun a => ev.st.EndsAs a.st) (fun a e _ h => h.trans (.settleTest e a)) (.refl _)

/-- The end of an event keeps all of a state but what the settling tests, the arbiters, the tries and the choice
reach. -/
theorem Event.acted_endsAs (ev : Event) : ev.st.EndsAs ev.acted := by
  have h := (ev.settleTests_endsAs.trans (State.runArbiters_endsAs ev.settleTests.arb _)).trans
    (State.runTries_endsAs ev.settleTests.tries _)
  unfold Event.acted
  dsimp only
  split
  · exact h.trans (.chooseJob _)
  · exact h

theorem Event.finish_pass (ev : Event) (p : PassIdx) : (ev.st.pass p).EndsAs (ev.finish.pass p) := by
  rw [Event.finish_acted, State.endEvent_pass]
  exact ev.acted_endsAs.pass p

/-! ## What the triggers reach -/

theorem State.runArbiters_singleton (p : PassIdx) (s : State) : s.runArbiters [p] = s.runArbiter p := by
  have h : ((List.finRange 6).filter fun q => decide (q ∈ [p])) = [p] := by
    simp only [List.mem_singleton]
    revert p; decide
  rw [State.runArbiters, h]
  rfl

theorem State.runTries_singleton (c : ChuteIdx) (s : State) : s.runTries [c] = s.startTry c := by
  have h : ((List.finRange 8).filter fun q => decide (q ∈ [c])) = [c] := by
    simp only [List.mem_singleton]
    revert c; decide
  rw [State.runTries, h]
  rfl

/-- The arbiters change passes and tip points alone, and of the passes their own. -/
theorem State.runArbiters_reach (ps : List PassIdx) (s : State) :
    (s.runArbiters ps).chutes = s.chutes ∧ (s.runArbiters ps).entries = s.entries
      ∧ (s.runArbiters ps).breaker = s.breaker
      ∧ (∀ p, ((s.runArbiters ps).pass p).state = (s.pass p).state ∧ ((s.runArbiters ps).pass p).d = (s.pass p).d)
      ∧ ∀ p, p ∉ ps → (s.runArbiters ps).pass p = s.pass p := by
  refine State.runArbiters_induct (P := fun u => u.chutes = s.chutes ∧ u.entries = s.entries
      ∧ u.breaker = s.breaker ∧ (∀ p, (u.pass p).state = (s.pass p).state ∧ (u.pass p).d = (s.pass p).d)
      ∧ ∀ p, p ∉ ps → u.pass p = s.pass p) ps (fun u q hq h => ?_) s ⟨rfl, rfl, rfl, fun _ => ⟨rfl, rfl⟩, fun _ _ => rfl⟩
  refine State.runArbiter_induct (P := fun u => u.chutes = s.chutes ∧ u.entries = s.entries
      ∧ u.breaker = s.breaker ∧ (∀ p, (u.pass p).state = (s.pass p).state ∧ (u.pass p).d = (s.pass p).d)
      ∧ ∀ p, p ∉ ps → u.pass p = s.pass p) q (fun v t hv _ _ => ?_) u h
  obtain ⟨hc, he, hb, hs, hp⟩ := hv
  have hpass (p : PassIdx) : (v.grant q t).pass p = if p = q then { v.pass q with
      reserved := (v.pass q).reserved + (v.tip t).load, waiting := (v.pass q).waiting.filter (· ≠ t) }
      else v.pass p := by
    rw [State.grant, State.modTip_pass, State.modPass_pass]
  refine ⟨hc, he, hb, fun p => ?_, fun p hn => ?_⟩
  · rw [hpass]
    split
    case isTrue h => subst h; exact hs p
    case isFalse => exact hs p
  · rw [hpass, if_neg fun h : p = q => hn (h ▸ hq)]
    exact hp p hn

/-- The tries change chutes alone, and of these their own. -/
theorem State.runTries_reach (cs : List ChuteIdx) (s : State) :
    (s.runTries cs).passes = s.passes ∧ (s.runTries cs).entries = s.entries
      ∧ (s.runTries cs).breaker = s.breaker ∧ ∀ c, c ∉ cs → (s.runTries cs).chute c = s.chute c := by
  refine State.runTries_induct (P := fun u => u.passes = s.passes ∧ u.entries = s.entries
    ∧ u.breaker = s.breaker ∧ ∀ c, c ∉ cs → u.chute c = s.chute c) cs (fun u q hq h => ?_) s
    ⟨rfl, rfl, rfl, fun _ _ => rfl⟩
  have hmod (f : Chute → Chute) (hf : u.startTry q = u.modChute q f) : (u.startTry q).passes = s.passes
      ∧ (u.startTry q).entries = s.entries ∧ (u.startTry q).breaker = s.breaker
      ∧ ∀ c, c ∉ cs → (u.startTry q).chute c = s.chute c := by
    obtain ⟨hp, he, hb, hc⟩ := h
    rw [hf]
    refine ⟨hp, he, hb, fun c hn => ?_⟩
    rw [State.modChute_chute_ne _ _ _ fun heq : c = q => hn (heq ▸ hq)]
    exact hc c hn
  rcases u.startTry_cases q with h' | ⟨-, -, -, ⟨-, h'⟩ | ⟨-, -, h'⟩ | ⟨-, -, h'⟩⟩
  · rw [h']
    exact h
  all_goals exact hmod _ h'

/-- The settling tests change no chute and not the breaker, and of the entries those touched. -/
theorem Event.settleTests_reach (ev : Event) :
    ev.settleTests.st.chutes = ev.st.chutes ∧ ev.settleTests.st.breaker = ev.st.breaker
      ∧ ev.settleTests.tries = ev.tries ∧ ev.settleTests.choice = ev.choice
      ∧ ∀ e, e ∉ ev.touched → ev.settleTests.st.entry e = ev.st.entry e := by
  refine ev.settleTests_induct (P := fun a => a.st.chutes = ev.st.chutes ∧ a.st.breaker = ev.st.breaker
    ∧ a.tries = ev.tries ∧ a.choice = ev.choice ∧ ∀ e, e ∉ ev.touched → a.st.entry e = ev.st.entry e)
    (fun a e he h => ?_) ⟨rfl, rfl, rfl, rfl, fun _ _ => rfl⟩
  obtain ⟨hc, hb, ht, hch, hen⟩ := h
  have hentry (i : EntryIdx) (hi : i ∉ ev.touched) : (a.st.modEntry e Entry.forced).entry i = ev.st.entry i := by
    rw [State.modEntry_entry_ne _ _ _ fun heq : i = e => hi (heq ▸ he)]
    exact hen i hi
  rcases a.settleTest_cases e with h | ⟨-, -, -, h⟩
  · rw [h]
    exact ⟨hc, hb, ht, hch, hen⟩
  rcases a.enterForce_cases e with ⟨h', -⟩ | ⟨p, -, -, -, h'⟩
  · rw [h, h']
    exact ⟨hc, hb, ht, hch, hentry⟩
  · rw [h, h']
    have hrev := Event.revokeWhere_revoked (fun t => decide (((a.update (State.modEntry e Entry.forced)).st.tip t).pass = p
      ∧ ((a.update (State.modEntry e Entry.forced)).st.tip t).state = .granted))
      ((a.update (State.modEntry e Entry.forced)).update (State.modPass p Pass.enterService))
    have hframe := hrev.frame
    refine ⟨?_, ?_, hrev.tries.trans ht, hrev.choice.trans hch, fun i hi => ?_⟩
    · exact (congrArg State.chutes hframe).trans hc
    · exact (congrArg State.breaker hframe).trans hb
    · exact (congrArg (fun v : Vector Entry 24 => v[i]) hrev.entries).trans (hentry i hi)

theorem Event.settleTests_untouched {ev : Event} (h : ev.touched = []) : ev.settleTests = ev := by
  simp [Event.settleTests, h]

theorem State.chooseJob_of_not_parked {s : State} (h : s.breaker.state ≠ .parked) : s.chooseJob = s := by
  rcases s.chooseJob_cases with h' | ⟨j, hp, -, -⟩
  · exact h'
  · exact absurd hp h

/-- What each stage of an event's end reaches. -/
theorem Event.acted_reach (ev : Event) :
    (ev.choice = false ∨ ev.st.breaker.state ≠ .parked → ev.acted.breaker = ev.st.breaker)
      ∧ (∀ c, c ∉ ev.tries → ev.acted.chute c = ev.st.chute c)
      ∧ (∀ e, e ∉ ev.touched → ev.acted.entry e = ev.st.entry e)
      ∧ (ev.touched = [] → (∀ p, (ev.acted.pass p).state = (ev.st.pass p).state ∧ (ev.acted.pass p).d = (ev.st.pass p).d)
          ∧ ∀ p, p ∉ ev.arb → ev.acted.pass p = ev.st.pass p) := by
  obtain ⟨hc1, hb1, ht1, hch1, he1⟩ := ev.settleTests_reach
  obtain ⟨hc2, he2, hb2, hs2, hp2⟩ := State.runArbiters_reach ev.settleTests.arb ev.settleTests.st
  obtain ⟨hp3, he3, hb3, hc3⟩ := State.runTries_reach ev.settleTests.tries
    (ev.settleTests.st.runArbiters ev.settleTests.arb)
  have hacted : ev.acted.passes = (ev.settleTests.st.runArbiters ev.settleTests.arb).passes
      ∧ ev.acted.chutes = ((ev.settleTests.st.runArbiters ev.settleTests.arb).runTries ev.settleTests.tries).chutes
      ∧ ev.acted.entries = ev.settleTests.st.entries := by
    rw [← hp3, ← he2, ← he3]
    unfold Event.acted
    dsimp only
    split
    · generalize State.runTries _ _ = u
      rcases u.chooseJob_cases with h | ⟨j, -, -, h⟩
      · rw [h]; exact ⟨rfl, rfl, rfl⟩
      · rw [h]; exact ⟨rfl, rfl, rfl⟩
    · exact ⟨rfl, rfl, rfl⟩
  obtain ⟨hpasses, hchutes, hentries⟩ := hacted
  have hpass (p : PassIdx) : ev.acted.pass p = (ev.settleTests.st.runArbiters ev.settleTests.arb).pass p :=
    congrArg (fun v : Vector Pass 6 => v[p]) hpasses
  have hbreaker := hb3.trans (hb2.trans hb1)
  refine ⟨fun h => ?_, fun c hn => ?_, fun e hn => ?_, fun ht => ⟨fun p => ?_, fun p hn => ?_⟩⟩
  · unfold Event.acted
    dsimp only
    split
    case isTrue hchoice =>
      rw [State.chooseJob_of_not_parked, hbreaker]
      rw [hbreaker]
      exact h.resolve_left (by simp [← hch1, hchoice])
    case isFalse => exact hbreaker
  · calc ev.acted.chute c
        = ((ev.settleTests.st.runArbiters ev.settleTests.arb).runTries ev.settleTests.tries).chute c :=
          congrArg (fun v : Vector Chute 8 => v[c]) hchutes
      _ = (ev.settleTests.st.runArbiters ev.settleTests.arb).chute c := hc3 c (ht1 ▸ hn)
      _ = ev.st.chute c := congrArg (fun v : Vector Chute 8 => v[c]) (hc2.trans hc1)
  · exact (congrArg (fun v : Vector Entry 24 => v[e]) hentries).trans (he1 e hn)
  · rw [hpass, (hs2 p).1, (hs2 p).2, Event.settleTests_untouched ht]
    exact ⟨rfl, rfl⟩
  · rw [hpass, hp2 p (by rwa [Event.settleTests_untouched ht]), Event.settleTests_untouched ht]

/-! ## Pins and ATTN -/

theorem State.linesSettled_iff {s : State} : s.linesSettled = true ↔ ∀ i, (s.line i).raw = s.pinLevel i
    ∧ (s.line i).timer.isSome = (!s.inReset && ((s.line i).raw != (s.line i).debounced))
    ∧ (s.inReset = true → (s.line i).binding = none) := by
  simp [State.linesSettled, and_assoc, or_iff_not_imp_left]

theorem State.attnJudged_iff {s : State} : s.attnJudged = true ↔ s.attn = s.attention := by
  simp [State.attnJudged]

/-- A line that stands as its pin does is left by a look at it. -/
theorem State.refreshLine_of_settled {s : State} {i : LineIdx} (hraw : (s.line i).raw = s.pinLevel i)
    (htimer : (s.line i).timer.isSome = (!s.inReset && ((s.line i).raw != (s.line i).debounced))) :
    s.refreshLine i (s.line i) = s.line i := by
  have h : debounceTimer s.inReset (s.line i).raw (s.line i).debounced (s.bankTime (bankOf i)) (s.line i).timer
      = (s.line i).timer := by
    cases ht : (s.line i).timer with
    | none =>
      rw [ht] at htimer
      simp only [Option.isSome_none] at htimer
      have := (debounceTimer_isSome s.inReset (s.line i).raw (s.line i).debounced (s.bankTime (bankOf i)) none).trans
        htimer.symm
      simpa using this
    | some n =>
      rw [ht] at htimer
      simp only [Option.isSome_some, Bool.true_eq, Bool.and_eq_true, Bool.not_eq_true', bne_iff_ne] at htimer
      rw [htimer.1, debounceTimer_running htimer.2]
  rw [State.refreshLine, ← hraw, h]

/-- Settled lines and a judged ATTN are left by the end of an event. -/
theorem State.endEvent_of_settled {s : State} (hl : s.linesSettled = true) (ha : s.attnJudged = true) :
    s.endEvent = s := by
  have hlines : s.refreshLines = s := by
    unfold State.refreshLines State.mapLines
    have : (Vector.ofFn fun i => s.refreshLine i (s.line i)) = s.lines := by
      ext i hi
      rw [Vector.getElem_ofFn]
      obtain ⟨hraw, htimer, -⟩ := State.linesSettled_iff.mp hl ⟨i, hi⟩
      exact State.refreshLine_of_settled hraw htimer
    rw [this]
  rw [State.endEvent, hlines, State.judgeAttn, ← State.attnJudged_iff.mp ha]

theorem State.attention_iff {s : State} : s.attention = true
    ↔ (∃ o, (s.pass o).conds &&& s.station.mask ≠ 0)
      ∨ (∃ o, (s.tip o).conds &&& s.station.mask ≠ 0) ∨ (∃ o, (s.chute o).conds &&& s.station.mask ≠ 0)
      ∨ (∃ o, (s.bst o).conds &&& s.station.mask ≠ 0) ∨ s.breaker.conds &&& s.station.mask ≠ 0
      ∨ (∃ o, (s.entry o).conds &&& s.station.mask ≠ 0)
      ∨ (∃ o, (s.channel o).conds &&& s.station.mask ≠ 0) ∨ s.station.conds &&& s.station.mask ≠ 0 := by
  simp only [State.attention, callsAttention, Bool.or_eq_true, List.any_eq_true, List.mem_finRange, true_and,
    decide_eq_true_eq, or_assoc]

@[simp] theorem State.endEvent_attention (s : State) : s.endEvent.attention = s.attention := by
  simp only [State.attention, State.endEvent_station, State.endEvent_pass, State.endEvent_tip, State.endEvent_chute,
    State.endEvent_bst, State.endEvent_breaker, State.endEvent_entry, State.endEvent_channel]

@[simp] theorem State.endEvent_attn (s : State) : s.endEvent.attn = s.attention := by
  have h : s.refreshLines.attention = s.attention := by
    simp only [State.attention, State.refreshLines_station, State.refreshLines_pass, State.refreshLines_tip,
      State.refreshLines_chute, State.refreshLines_bst, State.refreshLines_breaker, State.refreshLines_entry,
      State.refreshLines_channel]
  exact h

/-- An event that triggers one arbiter, one try and the choice runs them in this order. -/
theorem Event.finish_one_each (p : PassIdx) (c : ChuteIdx) (s : State) :
    Event.finish ⟨s, [p], [c], true, []⟩ = (((s.runArbiter p).startTry c).chooseJob).endEvent := by
  rw [Event.finish_acted, Event.acted, Event.settleTests_nil]
  dsimp only
  rw [State.runArbiters_singleton, State.runTries_singleton, if_pos rfl]

/-- Settles O16. -/
theorem eventsEndWithinTheirTriggers : Obligations.EventsEndWithinTheirTriggers := by
  intro ev p c s t
  have hends := ev.acted_endsAs
  have hframe := hends.frame
  obtain ⟨hbreaker, hchute, hentry, hpass⟩ := ev.acted_reach
  have ht : t = ev.acted.endEvent := rfl
  simp only [ht, State.endEvent_inReset, State.endEvent_station, State.endEvent_stations, State.endEvent_channels,
    State.endEvent_scanner, State.endEvent_debounce, State.endEvent_link, State.endEvent_pending,
    State.endEvent_breaker, State.endEvent_chute, State.endEvent_entry, State.endEvent_pass, State.endEvent_tip,
    State.pinLevel_endEvent, State.endEvent_line]
  refine ⟨?_, hbreaker, hchute, hentry, hends.pass, hpass, hends.tip, fun i => ?_, ?_, State.attention_iff, ?_, ?_⟩
  · rw [hframe]
    exact ⟨rfl, rfl, rfl, rfl, rfl, rfl, rfl, rfl⟩
  · have hline : ev.acted.line i = s.line i := congrArg (fun v : Vector Line 48 => v[i]) hends.lines
    rw [hline]
    refine ⟨rfl, ?_⟩
    rw [← hends.inReset]
    exact debounceTimer_isSome ..
  · rw [State.endEvent_attn, State.endEvent_attention]
  · exact Event.finish_one_each p c s
  · intro harb htries hchoice htouched hl ha
    obtain ⟨u, arb, tries, choice, touched⟩ := ev
    obtain rfl : arb = [] := harb
    obtain rfl : tries = [] := htries
    obtain rfl : choice = false := hchoice
    obtain rfl : touched = [] := htouched
    exact (Event.finish_quiet u).trans (State.endEvent_of_settled hl ha)

end Sys2Proof.Machine
end

section
/-! Requests on passes and the measurement (chapter 1). -/

namespace Sys2Proof.Machine

theorem State.modPass_congr {p : PassIdx} {f g : Pass → Pass} {s : State} (h : f (s.pass p) = g (s.pass p)) :
    s.modPass p f = s.modPass p g := by
  unfold State.modPass
  exact congrArg (fun q => { s with passes := s.passes.set p q }) h

theorem State.modPass_chutesOf (p o : PassIdx) (f : Pass → Pass) (s : State) :
    (s.modPass p f).chutesOf o = s.chutesOf o := rfl

/-- A change of a pass that is handed on (R26). -/
theorem Event.handOn_update (p : PassIdx) (f : Pass → Pass) (s : State) :
    ((Event.of s).update (State.modPass p f)).handOn p = ⟨s.modPass p f, [p], s.chutesOf p, false, []⟩ := by
  simp [Event.handOn, Event.triggerArbiter, Event.triggerTries, State.modPass_chutesOf, Event.of]

/-! ## SET FILL and CLEAR HANG -/

theorem setFillReply_of_undefined {s : State} {p : PassIdx} (v : Nat) (hd : (s.pass p).defined = false) :
    s.setFillReply p v = .no .noRecord := by
  simp [State.setFillReply, withIndex_val, hd]

theorem setFillReply_of_defined {s : State} {p : PassIdx} (v : Nat) (hd : (s.pass p).defined = true) :
    s.setFillReply p v = .take (if (s.pass p).e = min v (s.pass p).capacity ∧ (s.pass p).state ≠ .unknown
        then Event.of (s.modPass p (Pass.setFill v))
        else ⟨s.modPass p (Pass.setFill v), [p], s.chutesOf p, false, []⟩) fun t => bigEndian 3 (t.pass p).e := by
  have hmoved : (Pass.setFill v (s.pass p)).e ≠ (s.pass p).e ∨ (Pass.setFill v (s.pass p)).state ≠ (s.pass p).state
      ↔ ¬ ((s.pass p).e = min v (s.pass p).capacity ∧ (s.pass p).state ≠ .unknown) := by
    unfold Pass.setFill
    by_cases hu : (s.pass p).state = .unknown
    · simp [hu]
    · simp [hu, eq_comm]
  unfold State.setFillReply
  rw [withIndex_val]
  simp only [hd, Event.update_st, Event.of_st, State.modPass_pass_self, hmoved, Bool.not_true, Bool.false_eq_true,
    if_false, decide_eq_true_eq, ite_not, Event.handOn_update]
  rfl

theorem clearHangReply_of_undefined {s : State} {p : PassIdx} (hd : (s.pass p).defined = false) :
    s.clearHangReply p = .no .noRecord := by
  simp [State.clearHangReply, withIndex_val, hd]

theorem clearHangReply_of_hung {s : State} {p : PassIdx} (hd : (s.pass p).defined = true)
    (hs : (s.pass p).state = .hung) : s.clearHangReply p
      = .done ⟨s.modPass p fun q => { q with state := .running, d := 0 }, [p], s.chutesOf p, false, []⟩ := by
  simp [State.clearHangReply, withIndex_val, hd, hs, Event.handOn_update]

theorem clearHangReply_of_not_hung {s : State} {p : PassIdx} (hd : (s.pass p).defined = true)
    (hs : (s.pass p).state ≠ .hung) : s.clearHangReply p = .no .wrongMode := by
  simp [State.clearHangReply, withIndex_val, hd, hs]

/-- Settles O21. -/
theorem setFillAndClearHang : Obligations.SetFillAndClearHang := by
  intro rq p v s
  refine ⟨fun hd => ⟨fun ht => congrArg _ (request_of_reply_no ht (setFillReply_of_undefined v hd)),
      fun ht => congrArg _ (request_of_reply_no ht (clearHangReply_of_undefined hd))⟩,
    fun hd ht => ?_, fun hd ht hs => ?_,
    fun hd ht hs => congrArg _ (request_of_reply_no ht (clearHangReply_of_not_hung hd hs))⟩
  · refine congrArg _ ((request_of_reply_take ht (setFillReply_of_defined v hd)).trans ?_)
    have hs1 : s.modPass p (Pass.setFill v) = s.modPass p fun q => { q with
        e := min v (s.pass p).capacity, r := min v (s.pass p).capacity, d := 0, known := true
        state := if q.state = .unknown then .running else q.state } := State.modPass_congr rfl
    rw [(Event.finish_pass _ p).e, hs1]
    split
    · simp
    · simp
  · exact congrArg _ ((request_of_reply_take ht (clearHangReply_of_hung hd hs)).trans rfl)

/-! ## Measurements -/

/-- Settles O18: the difference is cut off toward zero on either side of E. -/
theorem blendRoundsTowardZero : Obligations.BlendRoundsTowardZero := by
  intro k capacity e m
  rcases Nat.le_total e m with h | h
  · obtain ⟨d, rfl⟩ := Nat.exists_eq_add_of_le h
    have hdiff : ((e + d : Nat) : Int) - e = (d : Nat) := by omega
    have hdiv : ((d : Nat) : Int).tdiv (2 ^ k) = ((d / 2 ^ k : Nat) : Int) := by norm_cast
    rw [blend, if_pos h, hdiff, hdiv, Nat.add_sub_cancel_left]
    generalize d / 2 ^ k = q
    omega
  · obtain ⟨d, rfl⟩ := Nat.exists_eq_add_of_le h
    have hdiff : (m : Int) - ((m + d : Nat) : Int) = -(d : Nat) := by omega
    have hdiv : (-((d : Nat) : Int)).tdiv (2 ^ k) = -((d / 2 ^ k : Nat) : Int) := by
      rw [Int.neg_tdiv]; norm_cast
    have hle : d / 2 ^ k ≤ d := Nat.div_le_self ..
    rw [blend, hdiff, hdiv, Nat.add_sub_cancel_left]
    split
    case isTrue hd =>
      obtain rfl : d = 0 := by omega
      simp
    case isFalse =>
      generalize d / 2 ^ k = q at hle ⊢
      omega

theorem find?_eq_some_iff_of_sorted {n : Nat} {P : Fin n → Bool} {l : List (Fin n)} (h : l.Pairwise (· < ·))
    (o : Fin n) : l.find? P = some o ↔ o ∈ l ∧ P o = true ∧ ∀ c ∈ l, P c = true → o ≤ c := by
  induction l with
  | nil => simp
  | cons a l ih =>
    obtain ⟨ha, hl⟩ := List.pairwise_cons.mp h
    by_cases hP : P a = true
    · rw [List.find?_cons_of_pos hP, Option.some.injEq]
      constructor
      · rintro rfl
        exact ⟨.head _, hP, fun c hc _ => (List.mem_cons.mp hc).elim (·.ge) fun hc => (ha c hc).le⟩
      · rintro ⟨ho, -, hmin⟩
        refine le_antisymm ?_ (hmin a (.head _) hP)
        exact (List.mem_cons.mp ho).elim (·.ge) fun ho => (ha o ho).le
    · rw [List.find?_cons_of_neg hP, ih hl]
      constructor
      · rintro ⟨ho, hPo, hmin⟩
        refine ⟨.tail _ ho, hPo, fun c hc hPc => ?_⟩
        rcases List.mem_cons.mp hc with rfl | hc
        · exact absurd hPc hP
        · exact hmin c hc hPc
      · rintro ⟨ho, hPo, hmin⟩
        refine ⟨(List.mem_cons.mp ho).resolve_left fun h => hP (h ▸ hPo), hPo, fun c hc => hmin c (.tail _ hc)⟩

/-- The search in ascending order finds the lowest index. -/
theorem find?_finRange_eq_some_iff {n : Nat} {P : Fin n → Bool} (o : Fin n) :
    (List.finRange n).find? P = some o ↔ P o = true ∧ ∀ c, P c = true → o ≤ c := by
  rw [find?_eq_some_iff_of_sorted (List.pairwise_lt_finRange n)]
  simp

theorem ReadingState.live_iff {x : ReadingState} : x.live = true ↔ x = .valid ∨ x = .clamped := by
  cases x <;> simp [ReadingState.live]

theorem State.usableFor_iff {s : State} {p : PassIdx} {ch : ChannelIdx} : s.usableFor p ch = true
    ↔ (s.channel ch).defined = true ∧ (s.channel ch).assignment = some p
      ∧ ((s.channel ch).state = .valid ∨ (s.channel ch).state = .clamped) ∧ (s.channel ch).proof = .idle := by
  simp only [State.usableFor, Channel.usable, Bool.and_eq_true, decide_eq_true_eq, ReadingState.live_iff]
  constructor
  · rintro ⟨⟨⟨⟨hd, -⟩, hs⟩, hp⟩, ha⟩
    exact ⟨hd, ha, hs, hp⟩
  · rintro ⟨hd, ha, hs, hp⟩
    exact ⟨⟨⟨⟨hd, by simp [ha]⟩, hs⟩, hp⟩, ha⟩

theorem State.otherChannel_eq_some_iff {s : State} {p : PassIdx} {ch o : ChannelIdx} :
    s.otherChannel p ch = some o ↔ o ≠ ch ∧ s.usableFor p o = true ∧ ∀ c, c ≠ ch → s.usableFor p c = true → o ≤ c := by
  rw [State.otherChannel, find?_finRange_eq_some_iff]
  simp [and_assoc]

theorem State.otherChannel_eq_none_iff {s : State} {p : PassIdx} {ch : ChannelIdx} :
    s.otherChannel p ch = none ↔ ∀ c, c ≠ ch → s.usableFor p c = false := by
  simp [State.otherChannel]

/-- A measurement that hangs nothing only changes its pass, and is handed on exactly where the pass has moved. -/
theorem Event.applyMeasurement_of_not_hang {p : PassIdx} {m : Nat} {s : State}
    (h : ¬ ((s.pass p).state = .running ∧ ((s.pass p).measure m).state = .hung)) :
    (Event.of s).applyMeasurement p m = if (s.pass p).moved ((s.pass p).measure m)
      then ⟨s.modPass p (Pass.measure m), [p], s.chutesOf p, false, []⟩
      else Event.of (s.modPass p (Pass.measure m)) := by
  unfold Event.applyMeasurement
  simp only [Event.of_st, Event.update_st, State.modPass_pass_self, h, if_false, Event.handOn_update]
  rfl

/-- The judgement of a usable reading. -/
theorem judge_of_usable {r : Nat} (hlow : 360 ≤ r) (hhigh : r ≤ 2100) :
    judge r = if 400 ≤ r ∧ r ≤ 2000 then .valid else .clamped := by
  unfold judge
  split_ifs <;> first | rfl | omega

theorem State.changeChannel_of_usable {s : State} {ch : ChannelIdx} {f : Channel → Channel} {p : PassIdx}
    (h : (s.channel ch).assignment = some p) (hu : (s.modChannel ch f).usableFor p ch = true) :
    s.changeChannel ch f = s.modChannel ch f := by
  simp [State.changeChannel, h, hu]

theorem clamp_le_eq {low high : Nat} (hle : low ≤ high) (v : Nat) : clamp low high v = min (max v low) high := by
  unfold clamp
  split_ifs <;> omega

/-- A usable reading handed to its defined pass forms a measurement alone, with its agreeing fellow, or with a
fellow it disagrees with (R10). -/
theorem Event.handMeasurement_eq {p : PassIdx} {ch : ChannelIdx} {s : State} (hd : (s.pass p).defined = true) :
    (Event.of s).handMeasurement p ch = match s.otherChannel p ch with
      | none => (Event.of s).applyMeasurement p (s.channelVolume p ch)
      | some o =>
          if s.channelVolume p ch ≤ s.channelVolume p o + (s.pass p).disagreement
              ∧ s.channelVolume p o ≤ s.channelVolume p ch + (s.pass p).disagreement then
            (Event.of s).applyMeasurement p ((s.channelVolume p ch + s.channelVolume p o) / 2)
          else (Event.of (s.modPass p fun q => { q with conds := raise .disagree q.conds })).applyMeasurement
            p (max (s.channelVolume p ch) (s.channelVolume p o)) := by
  have hsame : s.modPass p (fun q => { q with conds := raiseIf false .disagree q.conds }) = s := s.modPass_id p
  unfold Event.handMeasurement
  simp only [Event.of_st, hd, if_true]
  cases s.otherChannel p ch with
  | none => exact congrArg (fun u => (Event.of u).applyMeasurement p _) hsame
  | some o =>
    simp only [Option.map_some, formMeasurement]
    have hagree : s.channelVolume p ch - s.channelVolume p o + (s.channelVolume p o - s.channelVolume p ch)
          ≤ (s.pass p).disagreement
        ↔ s.channelVolume p ch ≤ s.channelVolume p o + (s.pass p).disagreement
          ∧ s.channelVolume p o ≤ s.channelVolume p ch + (s.pass p).disagreement := by omega
    simp only [hagree]
    split
    · exact congrArg (fun u => (Event.of u).applyMeasurement p _) hsame
    · rfl

theorem State.modChannel_congr {ch : ChannelIdx} {f g : Channel → Channel} {s : State}
    (h : f (s.channel ch) = g (s.channel ch)) : s.modChannel ch f = s.modChannel ch g := by
  unfold State.modChannel
  exact congrArg (fun x => { s with channels := s.channels.set ch x }) h

/-- A conversion of an IDLE channel assigned to a defined pass, in the usable range, is handed to the pass. -/
theorem Event.keepConversion_of_usable {s : State} {ch : ChannelIdx} {p : PassIdx} {r : Nat}
    (hd : (s.channel ch).defined = true) (ha : (s.channel ch).assignment = some p)
    (hp : (s.channel ch).proof = .idle) (hlow : 360 ≤ r) (hhigh : r ≤ 2100) :
    (Event.of s).keepConversion ch r = (Event.of (s.modChannel ch fun x => { x with
      reading := r, age := 0, state := if 400 ≤ r ∧ r ≤ 2000 then .valid else .clamped })).handMeasurement p ch := by
  have hlive : judge r = .valid ∨ judge r = .clamped := by
    rw [judge_of_usable hlow hhigh]
    split
    · exact .inl rfl
    · exact .inr rfl
  have hfault : ¬ (judge r = .fault ∧ (s.channel ch).state ≠ .fault) := by
    rintro ⟨h, -⟩
    rw [h] at hlive
    simp at hlive
  have hkeep : s.modChannel ch (Channel.keep r) = s.modChannel ch fun x => { x with
      reading := r, age := 0, state := if 400 ≤ r ∧ r ≤ 2000 then .valid else .clamped } := by
    refine State.modChannel_congr ?_
    rw [Channel.keep, raiseIf, if_neg (by simpa using hfault), judge_of_usable hlow hhigh]
  have husable : (s.modChannel ch (Channel.keep r)).usableFor p ch = true := by
    rw [State.usableFor_iff, State.modChannel_channel_self]
    exact ⟨hd, ha, hlive, hp⟩
  have hchange : s.changeChannel ch (Channel.keep r) = s.modChannel ch (Channel.keep r) :=
    State.changeChannel_of_usable ha husable
  unfold Event.keepConversion
  simp only [Event.update_st, Event.of_st, hchange, State.modChannel_channel_self]
  have hp' : (Channel.keep r (s.channel ch)).proof = .idle := hp
  have ha' : (Channel.keep r (s.channel ch)).assignment = some p := ha
  have hl' : (Channel.keep r (s.channel ch)).state.live = true := ReadingState.live_iff.mpr hlive
  simp only [hp', ha', hl', if_true]
  rw [← hkeep, ← hchange]
  rfl

/-- Settles O22. -/
theorem measurementsFollowThePassState : Obligations.MeasurementsFollowThePassState := by
  intro q m r s p ch o
  refine ⟨fun hs => ?_, fun hs hd => ?_, fun hs hd hc => ?_, fun hs hd hc hh => ?_, fun hs hd hc hh => ?_,
    fun hs hc => ?_, fun hs hc => ?_, fun hs hk => ?_, fun hs hk => ?_, ?_, fun h => ?_, fun hr hscan he ha hp hd hlow hhigh => ?_⟩
  · simp [Pass.measure, hs]
  · simp [Pass.measure, hs, Pass.measureRunning, hd]
  · simp [Pass.measure, hs, Pass.measureRunning, drawConfirmed, hd.ne', hc]
  · simp [Pass.measure, hs, Pass.measureRunning, drawConfirmed, hd.ne', not_le.mpr hc, hh]
  · simp [Pass.measure, hs, Pass.measureRunning, drawConfirmed, hd.ne', not_le.mpr hc, not_lt.mpr hh]
  · simp [Pass.measure, hs, Pass.measureHung, hc]
  · simp [Pass.measure, hs, Pass.measureHung, not_le.mpr hc]
  · simp [Pass.measure, hs, Pass.measureService, hk]
  · simp [Pass.measure, hs, Pass.measureService, hk]
  · have husable (c : ChannelIdx) : ((s.channel c).defined && decide ((s.channel c).assignment = some p)
          && decide ((s.channel c).state = .valid ∨ (s.channel c).state = .clamped)
          && decide ((s.channel c).proof = .idle)) = s.usableFor p c := by
      rw [Bool.eq_iff_iff, State.usableFor_iff]
      simp [and_assoc]
    intro x distance usable
    refine ⟨?_, ?_, ?_⟩
    · rw [State.channelVolume, Channel.heightIn, Channel.distance, clampReading, clamp_le_eq (by decide)]
    · simp only [usable, husable]
      exact State.otherChannel_eq_some_iff
    · simp only [usable, husable]
      exact State.otherChannel_eq_none_iff
  · rw [Event.applyMeasurement_of_not_hang h]
    have hmoved : (s.pass p).moved ((s.pass p).measure m) = true ↔ ¬ (((s.pass p).measure m).e = (s.pass p).e
        ∧ ((s.pass p).measure m).r = (s.pass p).r ∧ ((s.pass p).measure m).d = (s.pass p).d
        ∧ ((s.pass p).measure m).state = (s.pass p).state) := by
      simp only [Pass.moved, decide_eq_true_eq]
      tauto
    simp only [hmoved, ite_not]
    rfl
  · intro s1 v1 limit
    have hchannel : (s.channel ch).defined = true := by
      rw [State.enabled, Bool.and_eq_true] at he
      exact he.1
    have hmin : min r Config.readingMax = r := min_eq_left (le_trans hhigh (by decide))
    refine congrArg _ ((occur_some (ev := ((Event.of s).keepConversion ch r).update State.chooseConversion) hr ?_).trans ?_)
    · simp only [hscan, if_true, he, hmin]
    · rw [Event.keepConversion_of_usable hchannel ha hp hlow hhigh, Event.handMeasurement_eq (s := s1) hd]
      cases s1.otherChannel p ch with
      | none => rfl
      | some o => rfl

end Sys2Proof.Machine
end

section
/-! TUNE PASS (R6, R40, R41) and DEFINE PASS (R1 to R4). -/

namespace Sys2Proof.Machine

/-! ## Readings that go STALE together -/

/-- A channel whose reading has gone STALE (R40). -/
def Channel.gone (x : Channel) : Channel := { x with state := .stale }

@[simp] theorem Channel.gone_gone (x : Channel) : x.gone.gone = x.gone := rfl

@[simp] theorem Channel.gone_usable (x : Channel) : x.gone.usable = false := by
  simp [Channel.gone, Channel.usable, ReadingState.live]

/-- The channels of the list take the last usable channel from the RUNNING pass (R41). -/
def State.Blinds (s : State) (p : PassIdx) (l : List ChannelIdx) : Prop :=
  (s.pass p).state = .running ∧ (∃ ch ∈ l, s.usableFor p ch = true) ∧ ∀ ch, s.usableFor p ch = true → ch ∈ l

/-- The readings of the channels of a list made STALE, and BLIND raised or not (R40, R41). -/
def State.staled (p : PassIdx) (l : List ChannelIdx) (blind : Bool) (s : State) : State :=
  (s.mapChannels fun ch x => if ch ∈ l then x.gone else x).modPass p
    fun y => { y with conds := raiseIf blind .blind y.conds }

theorem State.staled_nil (p : PassIdx) (s : State) : s.staled p [] false = s := by
  have h : s.mapChannels (fun ch x => if ch ∈ [] then x.gone else x) = s := by
    simp [State.mapChannels, State.channel]
  rw [State.staled, h]
  exact s.modPass_id p

theorem State.staled_channel (p : PassIdx) (l : List ChannelIdx) (blind : Bool) (s : State) (ch : ChannelIdx) :
    (s.staled p l blind).channel ch
      = if ch ∈ l then (s.channel ch).gone else s.channel ch := by
  rw [State.staled, State.modPass_channel, State.mapChannels_channel]

theorem State.staled_usableFor (p : PassIdx) (l : List ChannelIdx) (blind : Bool) (s : State) (ch : ChannelIdx) :
    (s.staled p l blind).usableFor p ch = (s.usableFor p ch && !decide (ch ∈ l)) := by
  unfold State.usableFor
  rw [State.staled_channel]
  split
  case isTrue h => simp [h]
  case isFalse h => simp [h]

/-- One more channel of the list goes STALE. -/
theorem State.staled_modChannel (p : PassIdx) (l : List ChannelIdx) (blind : Bool) (s : State) (c : ChannelIdx) :
    (s.staled p l blind).modChannel c (Channel.gone) = s.staled p (l ++ [c]) blind := by
  have hchannels : ((s.staled p l blind).modChannel c Channel.gone).channels
      = (s.staled p (l ++ [c]) blind).channels := by
    ext i hi
    change State.channel (State.modChannel c _ _) ⟨i, hi⟩ = State.channel _ ⟨i, hi⟩
    rw [State.modChannel_channel]
    by_cases hc : (⟨i, hi⟩ : ChannelIdx) = c
    · subst hc
      by_cases hl : (⟨i, hi⟩ : ChannelIdx) ∈ l
      · simp [State.staled_channel, hl]
      · simp [State.staled_channel, hl]
    · simp [State.staled_channel, hc]
  exact congrArg (fun v => { s.staled p (l ++ [c]) blind with channels := v }) hchannels

theorem State.staled_blind (p : PassIdx) (l : List ChannelIdx) (s : State) :
    (s.staled p l false).modPass p (fun q => { q with conds := raise .blind q.conds }) = s.staled p l true := by
  unfold State.staled
  generalize State.mapChannels _ s = u
  simp [State.modPass, State.pass, raiseIf]

theorem State.makeStale_eq {s : State} {p : PassIdx} {ch : ChannelIdx} (h : (s.channel ch).assignment = some p) :
    s.makeStale ch = if s.usableFor p ch then (s.modChannel ch Channel.gone).loseUse p
      else s.modChannel ch Channel.gone := by
  have hnot : (s.modChannel ch Channel.gone).usableFor p ch = false := by
    simp [State.usableFor]
  change s.changeChannel ch Channel.gone = _
  simp [State.changeChannel, h, hnot]

/-- Channels of a pass that go STALE one after the other leave it blind where they were its last usable ones. -/
theorem State.foldl_makeStale (p : PassIdx) (s : State) (l : List ChannelIdx)
    (h : ∀ ch ∈ l, (s.channel ch).assignment = some p) :
    ∃ blind, (blind = true ↔ s.Blinds p l) ∧ l.foldl (fun s ch => s.makeStale ch) s = s.staled p l blind := by
  induction l using List.reverseRecOn with
  | nil => exact ⟨false, by simp [State.Blinds], (s.staled_nil p).symm⟩
  | append_singleton l c ih =>
    obtain ⟨blind, hblind, heq⟩ := ih fun ch hch => h ch (by simp [hch])
    have hassign : ((s.staled p l blind).channel c).assignment = some p := by
      rw [State.staled_channel]
      split <;> exact h c (by simp)
    rw [List.foldl_append, heq, List.foldl_cons, List.foldl_nil, State.makeStale_eq hassign,
      State.staled_usableFor, State.staled_modChannel]
    by_cases hu : s.usableFor p c = true ∧ c ∉ l
    · obtain ⟨hu, hc⟩ := hu
      obtain rfl : blind = false := by
        rw [← Bool.not_eq_true, hblind]
        exact fun hb => hc (hb.2.2 c hu)
      rw [if_pos (by simp [hu, hc])]
      have hlast : ((s.staled p (l ++ [c]) false).pass p).state = .running
          ∧ (List.finRange 8).all (fun ch => !(s.staled p (l ++ [c]) false).usableFor p ch) = true
          ↔ s.Blinds p (l ++ [c]) := by
        have hstate : ((s.staled p (l ++ [c]) false).pass p).state = (s.pass p).state := by
          rw [State.staled, State.modPass_pass_self, State.mapChannels_pass]
        simp only [hstate, List.all_eq_true, List.mem_finRange, true_implies, State.staled_usableFor, State.Blinds,
          Bool.not_eq_true', Bool.and_eq_false_iff, Bool.not_eq_false', decide_eq_true_eq]
        constructor
        · rintro ⟨hr, hall⟩
          exact ⟨hr, ⟨c, by simp, hu⟩, fun ch hch => (hall ch).resolve_left (by simp [hch])⟩
        · rintro ⟨hr, -, hall⟩
          refine ⟨hr, fun ch => ?_⟩
          by_cases hch : s.usableFor p ch = true
          · exact .inr (hall ch hch)
          · exact .inl (by simpa using hch)
      rw [State.loseUse]
      split
      case isTrue hl => exact ⟨true, by simpa using hlast.mp hl, State.staled_blind ..⟩
      case isFalse hl => exact ⟨false, by simpa using fun hb => hl (hlast.mpr hb), rfl⟩
    · rw [if_neg (by simpa [Bool.and_eq_true] using hu)]
      refine ⟨blind, hblind.trans ?_, rfl⟩
      have hmem (ch : ChannelIdx) (hch : s.usableFor p ch = true) : ch ∈ l ++ [c] ↔ ch ∈ l := by
        rw [List.mem_append, List.mem_singleton, or_iff_left_iff_imp]
        rintro rfl
        exact not_not.mp fun hn => hu ⟨hch, hn⟩
      unfold State.Blinds
      refine and_congr_right fun _ => and_congr (exists_congr fun ch => ?_) (forall_congr' fun ch => ?_)
      · exact and_congr_left fun hch => (hmem ch hch).symm
      · exact imp_congr_right fun hch => (hmem ch hch).symm

/-! ## TUNE PASS -/

theorem tunePassReply_of_undefined {s : State} {p : PassIdx} (v1 v2 v3 v4 v5 v6 : Nat)
    (hd : (s.pass p).defined = false) : s.tunePassReply p v1 v2 v3 v4 v5 v6 = .no .noRecord := by
  simp [State.tunePassReply, withIndex_val, hd]

theorem tunePassReply_of_defined {s : State} {p : PassIdx} (v1 v2 v3 v4 v5 v6 : Nat)
    (hd : (s.pass p).defined = true) : s.tunePassReply p v1 v2 v3 v4 v5 v6
      = .take ((Event.of s).tunePass p (Pass.tune v1 v2 v3 v4 v5 v6)) fun t => (t.pass p).tuning := by
  simp [State.tunePassReply, withIndex_val, hd]

/-- What TUNE PASS changes and triggers. -/
theorem Event.tunePass_eq (p : PassIdx) (f : Pass → Pass) (s : State) : (Event.of s).tunePass p f =
    ⟨if (f (s.pass p)).staleLimit < (s.pass p).staleLimit then (s.modPass p f).staleAtLimit p else s.modPass p f,
      if (f (s.pass p)).tipLimit = (s.pass p).tipLimit then [] else [p],
      if (f (s.pass p)).cushion = (s.pass p).cushion then [] else s.chutesOf p, false, []⟩ := by
  unfold Event.tunePass
  dsimp only [Event.of_st]
  split <;> split <;> split <;>
    simp [Event.of, Event.update, Event.triggerArbiter, Event.triggerTries]

/-- The readings a lowered stale limit makes STALE at once, with BLIND where it follows. -/
theorem State.staleAtLimit_eq (p : PassIdx) (s : State) :
    ∃ blind, (blind = true ↔ s.Blinds p ((List.finRange 8).filter (s.staleDue (s.pass p).staleLimit p)))
      ∧ s.staleAtLimit p = s.staled p ((List.finRange 8).filter (s.staleDue (s.pass p).staleLimit p)) blind := by
  refine s.foldl_makeStale p _ fun ch hch => ?_
  have hdue := (List.mem_filter.mp hch).2
  simp only [State.staleDue, Bool.and_eq_true, decide_eq_true_eq] at hdue
  exact hdue.1.1

/-- Settles O20. -/
theorem tunePassClampsAndHandsOn : Obligations.TunePassClampsAndHandsOn := by
  intro rq p tipLimit cushion hang shift disagreement stale s ht q limit q' s1 live usable old blind s2
  refine ⟨fun hd => ?_, fun hd => congrArg _ (request_of_reply_no ht (tunePassReply_of_undefined _ _ _ _ _ _ hd))⟩
  have htune : Pass.tune tipLimit cushion hang shift disagreement stale q = q' := by
    simp only [Pass.tune, clamp_le_eq (show 10 ≤ 60000 by decide), clamp_le_eq (show 10 ≤ 600 by decide)]
    rfl
  have hs1 : s.modPass p (Pass.tune tipLimit cushion hang shift disagreement stale) = s1 :=
    State.modPass_congr htune
  have hlive (ch : ChannelIdx) : live ch = (decide ((s.channel ch).assignment = some p) && (s.channel ch).state.live) := by
    rw [Bool.eq_iff_iff]
    simp [live, ReadingState.live_iff]
  have hdue (ch : ChannelIdx) :
      ch ∈ (List.finRange 8).filter (s1.staleDue (s1.pass p).staleLimit p) ↔ old ch = true := by
    have hlimit : (s1.pass p).staleLimit = q'.staleLimit := by simp [s1]
    simp only [List.mem_filter, List.mem_finRange, true_and, hlimit, old, hlive, State.staleDue]
    rfl
  have husable (ch : ChannelIdx) : s1.usableFor p ch = usable ch := by
    rw [Bool.eq_iff_iff, State.usableFor_iff]
    simp only [usable, live, Bool.and_eq_true, decide_eq_true_eq]
    exact ⟨fun ⟨hd, ha, hs, hp⟩ => ⟨⟨⟨ha, hs⟩, hd⟩, hp⟩, fun ⟨⟨⟨ha, hs⟩, hd⟩, hp⟩ => ⟨hd, ha, hs, hp⟩⟩
  have hstale : s1.staleAtLimit p = s2 := by
    obtain ⟨b, hb, heq⟩ := s1.staleAtLimit_eq p
    have hblind : b = true ↔ blind := by
      rw [hb, State.Blinds]
      have hstate : (s1.pass p).state = q.state := by simp [s1, q', q]
      simp only [hstate, husable, hdue, blind]
      refine and_congr_right fun _ => ⟨fun ⟨⟨ch, _, hch⟩, hall⟩ => ⟨⟨ch, hch⟩, hall⟩,
        fun ⟨⟨ch, hch⟩, hall⟩ => ⟨⟨ch, hall ch hch, hch⟩, hall⟩⟩
    rw [heq, State.staled]
    simp only [hdue, raiseIf, hblind]
    rfl
  have hpass : (s2.pass p).tuning = q'.tuning := by
    have h : s2.pass p = { q' with conds := if blind then raise .blind q'.conds else q'.conds } := by
      simp [s2, s1]
    rw [h]
    rfl
  refine congrArg _ ((request_of_reply_take ht (tunePassReply_of_defined _ _ _ _ _ _ hd)).trans ?_)
  rw [(Event.finish_pass _ p).tuning, Event.tunePass_eq, hs1, hstale, htune]
  have htuning : (State.pass (if q'.staleLimit < q.staleLimit then s2 else s1) p).tuning = q'.tuning := by
    split
    · exact hpass
    · simp [s1]
  exact congrArg (fun b => State.answered rq .accepted b _) htuning

/-! ## DEFINE PASS -/

theorem passOutOfRange_iff {height : Nat} {g : List Segment} : passOutOfRange height g = true
    ↔ height < 100 ∨ 30000 < height ∨ g.length < 1 ∨ 8 < g.length ∨ 30000 < (g.map Segment.height).sum
      ∨ ∃ x ∈ g, x.height < 10 ∨ 30000 < x.height ∨ x.area < 10 ∨ 2000 < x.area := by
  simp only [passOutOfRange, outside, Bool.or_eq_true, decide_eq_true_eq, List.any_eq_true, or_assoc]
  exact or_congr_right (or_congr_right (or_congr_right (or_congr_right or_comm)))

theorem State.plantAbove_iff {s : State} {p : PassIdx} {height : Nat} : s.plantAbove p height = true
    ↔ (∃ t, (s.tip t).defined = true ∧ (s.tip t).pass = p ∧ height < (s.tip t).elevation)
      ∨ ∃ o, (s.chute o).defined = true ∧ (s.chute o).pass = p ∧ height < (s.chute o).elevation := by
  simp [State.plantAbove, and_assoc]

/-- DEFINE PASS is taken in SETUP, and in RUN for a pass that is OUT_OF_SERVICE (R1). -/
def State.definesPass (s : State) (p : PassIdx) : Prop :=
  s.station.mode = .setup ∨ (s.station.mode = .run ∧ (s.pass p).state = .outOfService)

theorem definePassReply_of_not_allowed {s : State} {p : PassIdx} (height : Nat) (g : List Segment)
    (h : ¬ s.definesPass p) : s.definePassReply p height g = .no .wrongMode := by
  unfold State.definePassReply
  rw [withIndex_val]
  exact if_pos (by simpa [State.definesPass, imp_iff_not_or] using h)

theorem definePassReply_of_bad {s : State} {p : PassIdx} {height : Nat} {g : List Segment}
    (h : s.definesPass p) (hbad : passOutOfRange height g = true) :
    s.definePassReply p height g = .no .outOfRange := by
  unfold State.definePassReply
  rw [withIndex_val]
  exact (if_neg (by simpa [State.definesPass, or_iff_not_imp_left] using h)).trans (if_pos hbad)

theorem definePassReply_of_geometry {s : State} {p : PassIdx} {height : Nat} {g : List Segment}
    (h : s.definesPass p) (hbad : ¬ passOutOfRange height g = true) (ho : (s.pass p).state = .outOfService)
    (hg : profileHeight g ≠ height ∨ s.plantAbove p height = true) :
    s.definePassReply p height g = .no .geometry := by
  unfold State.definePassReply
  rw [withIndex_val]
  exact (if_neg (by simpa [State.definesPass, or_iff_not_imp_left] using h)).trans
    ((if_neg hbad).trans (if_pos (by simpa [ho] using hg)))

/-- The change of an accepted DEFINE PASS; the clamp of E at an amendment is handed on where E changes (R4, R26). -/
def State.passDefined (p : PassIdx) (height : Nat) (g : List Segment) (s : State) : Event :=
  if (s.pass p).state = .outOfService ∧ ((s.pass p).define height g).e ≠ (s.pass p).e
    then ⟨s.modPass p (Pass.define height g), [p], s.chutesOf p, false, []⟩
    else Event.of (s.modPass p (Pass.define height g))

theorem State.passDefined_st (p : PassIdx) (height : Nat) (g : List Segment) (s : State) :
    (s.passDefined p height g).st = s.modPass p (Pass.define height g) := by
  unfold State.passDefined
  split <;> rfl

theorem definePassReply_of_accepted {s : State} {p : PassIdx} {height : Nat} {g : List Segment}
    (h : s.definesPass p) (hbad : ¬ passOutOfRange height g = true)
    (hg : (s.pass p).state = .outOfService → profileHeight g = height ∧ ¬ s.plantAbove p height = true) :
    s.definePassReply p height g
      = .take (s.passDefined p height g).touchAll fun t => bigEndian 3 (t.pass p).capacity := by
  unfold State.definePassReply
  rw [withIndex_val]
  refine (if_neg (by simpa [State.definesPass, or_iff_not_imp_left] using h)).trans
    ((if_neg hbad).trans ((if_neg ?_).trans ?_))
  · simpa using hg
  · simp only [Event.update_st, Event.of_st, State.modPass_pass_self, Event.handOn_update, Bool.and_eq_true,
      decide_eq_true_eq]
    rfl

theorem Pass.define_capacity (height : Nat) (g : List Segment) (q : Pass) :
    (q.define height g).capacity = capacityOf g := by
  unfold Pass.define Pass.clampTuning
  dsimp only
  split
  · rfl
  · split <;> rfl

/-- An accepted DEFINE PASS answers the capacity (R3). -/
theorem exec_definePass {rq : Request} {p : PassIdx} {height : Nat} {g : List Segment} {s : State}
    (ht : s.takes rq (4 + 4 * g.length) = true) (h : s.definesPass p) (hbad : ¬ passOutOfRange height g = true)
    (hg : (s.pass p).state = .outOfService → profileHeight g = height ∧ ¬ s.plantAbove p height = true) :
    exec (.definePass rq p height g.length g) s
      = .next ((s.passDefined p height g).touchAll.finish.answered rq .accepted (bigEndian 3 (capacityOf g))) := by
  change (Host.Outcome.next (request rq (4 + 4 * g.length) (State.definePassReply p height g) s) : Result) = _
  rw [request_of_reply_take ht (definePassReply_of_accepted h hbad hg), (Event.finish_pass _ p).capacity, Event.touchAll_st,
    State.passDefined_st, State.modPass_pass_self, Pass.define_capacity]

/-- Settles O19. -/
theorem definePassTreatsTheWorkingState : Obligations.DefinePassTreatsTheWorkingState := by
  intro rq p height g s ht q capacity limit cushion amended c sum bad below allowed
  have hbad : passOutOfRange height g = true ↔ bad := passOutOfRange_iff
  have hcapacity : capacityOf g = capacity := rfl
  have hbelow : s.plantAbove p height = true ↔ below := State.plantAbove_iff
  refine ⟨fun h => congrArg _ (request_of_reply_no ht (definePassReply_of_not_allowed height g h)),
    fun h hb => congrArg _ (request_of_reply_no ht (definePassReply_of_bad h (hbad.mpr hb))),
    fun hb hm ho => ⟨fun hd => ?_, fun hd => ?_⟩, fun h hb ho => ⟨fun hg => ?_, fun hd hsum hn => ?_⟩⟩
  · have hdefine : (s.pass p).define height g = { q with
        defined := true, height := height, profile := g, capacity := capacity
        state := .unknown, known := false, e := 0, r := 0, d := 0, reserved := 0, amended := false
        waiting := [], conds := 0, tipLimit := limit, cushion := cushion } := by
      rw [Pass.define, show (s.pass p).defined = false from hd]
      rfl
    have hevent : s.passDefined p height g = (Event.of s).update (State.modPass p fun q => { q with
        defined := true, height := height, profile := g, capacity := capacity
        state := .unknown, known := false, e := 0, r := 0, d := 0, reserved := 0, amended := false
        waiting := [], conds := 0, tipLimit := limit, cushion := cushion }) :=
      (if_neg fun h => ho h.1).trans (congrArg Event.of (State.modPass_congr hdefine))
    rw [exec_definePass ht (.inl hm) (mt hbad.mp hb) fun h => absurd h ho, hevent, hcapacity]
  · have hdefine : (s.pass p).define height g = { q with
        height := height, profile := g, capacity := capacity, state := .unknown, known := false
        d := 0, e := min q.e capacity, tipLimit := limit, cushion := cushion } := by
      rw [Pass.define, if_neg (by simp [show (s.pass p).defined = true from hd]), if_neg ho]
      rfl
    have hevent : s.passDefined p height g = (Event.of s).update (State.modPass p fun q => { q with
        height := height, profile := g, capacity := capacity, state := .unknown, known := false
        d := 0, e := min q.e capacity, tipLimit := limit, cushion := cushion }) :=
      (if_neg fun h => ho h.1).trans (congrArg Event.of (State.modPass_congr hdefine))
    rw [exec_definePass ht (.inl hm) (mt hbad.mp hb) fun h => absurd h ho, hevent, hcapacity]
  · exact congrArg _ (request_of_reply_no ht
      (definePassReply_of_geometry h (mt hbad.mp hb) ho (hg.imp_right hbelow.mpr)))
  · have hdefine : (s.pass p).define height g = amended := by
      rw [Pass.define, if_neg (by simp [show (s.pass p).defined = true from hd]), if_pos ho]
      rfl
    have hevent : (s.passDefined p height g).touchAll = ⟨s.modPass p fun _ => amended,
        if amended.e = q.e then [] else [p], if amended.e = q.e then [] else s.chutesOf p, false,
        List.finRange 24⟩ := by
      have hmod : s.modPass p (Pass.define height g) = s.modPass p fun _ => amended := State.modPass_congr hdefine
      rw [State.passDefined, hmod, hdefine]
      by_cases he : amended.e = q.e
      · rw [if_neg fun h => h.2 he, if_pos he, if_pos he]
        rfl
      · rw [if_pos ⟨ho, he⟩, if_neg he, if_neg he]
        rfl
    rw [exec_definePass ht h (mt hbad.mp hb) fun _ => ⟨hsum, mt hbelow.mp hn⟩, hevent, hcapacity]

end Sys2Proof.Machine
end

section
/-! The two resets and the release (R156, R166, R175). -/

namespace Sys2Proof.Machine

/-- The state a reset leaves to the pins: every record at its reset value, the part held, each line as `line` says. -/
def State.heldReset (line : Line → Line) (s : State) : State :=
  { State.reset with
    inReset := true
    lines := Vector.ofFn fun i => line (s.line i)
    link := { Link.reset with address := s.link.address, baud := s.link.baud }
    pending := s.pending }

theorem State.resetHeld_eq (line : Line → Line) (s : State) : s.resetHeld line = (s.heldReset line).refreshLines := rfl

theorem State.heldReset_line (line : Line → Line) (s : State) (i : LineIdx) :
    (s.heldReset line).line i = line (s.line i) := by
  simp [State.heldReset, State.line]

/-- A line that names no function is driven by its latch where it is set to out, and by the plant else (R169). -/
theorem State.pinLevel_of_unbound {s : State} {i : LineIdx} (h : (s.line i).binding = none) :
    s.pinLevel i = if (s.line i).direction = .output ∧ i.val < 40 then (s.line i).latch else (s.line i).plant := by
  simp only [State.pinLevel, State.drive, h, inBankF]
  by_cases hb : 40 ≤ i.val
  · simp [hb, not_lt.mpr hb]
  · by_cases hd : (s.line i).direction = .output
    · simp [hb, hd, not_le.mp hb]
    · simp [hb, hd]

/-- Both resets leave each line as its reset makes it, with the raw level of its pin and no timer. -/
theorem State.resetHeld_line {line : Line → Line} (hline : ∀ l, (line l).binding = none) (s : State) (i : LineIdx) :
    (s.resetHeld line).line i = { line (s.line i) with
      raw := if (line (s.line i)).direction = .output ∧ i.val < 40 then (line (s.line i)).latch
        else (line (s.line i)).plant
      timer := none } := by
  have hpin := State.pinLevel_of_unbound (s := s.heldReset line) (i := i) (by rw [State.heldReset_line]; exact hline _)
  rw [State.heldReset_line] at hpin
  rw [State.resetHeld_eq, State.refreshLines_line, State.refreshLine, State.heldReset_line, hpin]
  rfl

/-- Settles O11. -/
theorem resetsClearTheRecords : Obligations.ResetsClearTheRecords := by
  intro s c hc
  have hreset : ∃ line : Line → Line, (∀ l, (line l).binding = none) ∧ exec c s = .next (s.resetHeld line) := by
    rcases hc with rfl | rfl
    · exact ⟨Line.powerOn, fun _ => rfl, rfl⟩
    · exact ⟨Line.resetLine, fun _ => rfl, rfl⟩
  obtain ⟨line, hline, hexec⟩ := hreset
  refine ⟨_, hexec, ?_⟩
  have hlines (f : LineFn) : (s.resetHeld line).lineOf f = none :=
    State.lineOf_eq_none fun i => by simp [State.resetHeld_line hline, hline]
  have hrecords : (s.resetHeld line).passes = Vector.replicate 6 Pass.reset
      ∧ (s.resetHeld line).tips = Vector.replicate 16 Tip.reset
      ∧ (s.resetHeld line).chutes = Vector.replicate 8 Chute.reset
      ∧ (s.resetHeld line).stations = Vector.replicate 4 Station.reset
      ∧ (s.resetHeld line).entries = Vector.replicate 24 Entry.reset
      ∧ (s.resetHeld line).channels = Vector.replicate 8 Channel.reset := ⟨rfl, rfl, rfl, rfl, rfl, rfl⟩
  obtain ⟨hp, ht, hch, hk, he, hcl⟩ := hrecords
  refine ⟨rfl, rfl, rfl, fun p => ?_, fun i => ?_, fun i => ?_, fun k => ?_, rfl, fun e => ?_, fun ch => ?_, rfl,
    hlines, rfl⟩
  · simp [State.pass, hp]; rfl
  · simp [State.tip, ht]; rfl
  · simp [State.chute, hch]; rfl
  · simp [State.bst, hk]; rfl
  · simp [State.entry, he]; rfl
  · simp [State.channel, hcl]; rfl

/-- Settles O12. -/
theorem resetsAndReleaseTreatLines : Obligations.ResetsAndReleaseTreatLines := by
  intro s address baud
  have hbank (line : Line → Line) (b : BankIdx) : (s.resetHeld line).bankTime b = 20 := by
    have h : (s.resetHeld line).debounce = Vector.replicate 6 20 := rfl
    simp [State.bankTime, h]
  refine ⟨⟨_, rfl, fun i => ⟨hbank _ _, ?_⟩⟩, ⟨_, rfl, fun i => ⟨hbank _ _, ?_⟩⟩, fun hr => ?_, fun hr => ?_⟩
  · rw [State.resetHeld_line fun _ => rfl]
    simp [Line.powerOn]
  · rw [State.resetHeld_line fun _ => rfl]
    simp only [Line.resetLine, Line.mk.injEq, true_and, and_true]
    exact if_congr Iff.rfl rfl rfl
  · refine ⟨s.release address baud, ?_, rfl, fun i => ?_⟩
    · exact congrArg _ (if_pos hr)
    · rw [State.release, State.mapLines_line]
      rfl
  · exact congrArg _ (if_neg (by simp [hr]))

end Sys2Proof.Machine
end

section
/-! READ and LINES READ, and the bodies of channel, station and bank (R44, R165, R173, R179). -/

namespace Sys2Proof.Machine

/-! ## The bytes of a body -/

theorem bigEndian_one (n : Nat) : bigEndian 1 n = [BitVec.ofNat 8 n] := by simp [bigEndian]

theorem bigEndian_two (n : Nat) : bigEndian 2 n = [BitVec.ofNat 8 (n / 256), BitVec.ofNat 8 n] := by simp [bigEndian]

theorem yesNo_eq (b : Bool) : yesNo b = if b then [1] else [0] := by cases b <;> rfl

theorem noneOr_eq {n : Nat} (o : Option (Fin n)) : noneOr o = [BitVec.ofNat 8 ((o.map Fin.val).getD 255)] :=
  bigEndian_one _

/-- A condition set is sent by its four bytes, bit 31 first. -/
theorem condBytes_eq (c : CondSet) :
    condBytes c = [c.extractLsb' 24 8, c.extractLsb' 16 8, c.extractLsb' 8 8, c.extractLsb' 0 8] := by
  have hbyte (i : Nat) : BitVec.ofNat 8 (c.toNat / 256 ^ i) = c.extractLsb' (8 * i) 8 := by
    apply BitVec.eq_of_toNat_eq
    rw [BitVec.toNat_ofNat, BitVec.extractLsb'_toNat, Nat.shiftRight_eq_div_pow, Nat.pow_mul]
  simp only [condBytes, bigEndian, hbyte]

/-- A taken READ or LINES READ reports and changes nothing else. -/
theorem request_of_reply_report {rq : Request} {n : Nat} {s : State} {owner : State → Reply} {body : List Byte}
    (h : s.takes rq n = true) (hr : owner s = .report body) :
    request rq n owner s = s.answered rq .accepted body := by
  rw [request_of_takes h, hr, replied_report]

/-- A taken READ answers the body its type's record gives. -/
theorem exec_read {rq : Request} {s : State} {type index : Nat} {body : List Byte} (h : s.takes rq 2 = true)
    (hr : s.readReply type index = .report body) :
    exec (.read rq type index) s = .next (s.answered rq .accepted body) :=
  congrArg Host.Outcome.next (request_of_reply_report (owner := State.readReply type index) h hr)

theorem State.readReply_of_no_type {type : Nat} (h : 7 < type) (index : Nat) (s : State) :
    s.readReply type index = .no .outOfRange := by
  unfold State.readReply
  split <;> first | omega | rfl

/-- The lines of a bank are eight in a row. -/
theorem linesOf_eq (b : BankIdx) : linesOf b = (List.finRange 8).map fun n => ⟨8 * b.val + n.val, by omega⟩ := by
  revert b
  decide

theorem State.directionOf_eq_output_iff {s : State} {i : LineIdx} :
    s.directionOf i = .output ↔ i.val < 40 ∧ (s.line i).direction = .output := by
  simp only [State.directionOf, inBankF, decide_eq_true_eq]
  by_cases h : 40 ≤ i.val
  · simp [h, not_lt.mpr h]
  · simp [h, not_le.mp h]

theorem State.latchOf_eq (s : State) (i : LineIdx) : s.latchOf i = (decide (i.val < 40) && (s.line i).latch) := by
  simp only [State.latchOf, inBankF]
  by_cases h : 40 ≤ i.val
  · simp [h, not_lt.mpr h]
  · simp [h, not_le.mp h]

theorem State.readValue_eq (s : State) (i : LineIdx) : s.readValue i
    = if i.val < 40 ∧ (s.line i).direction = .output then (s.line i).latch else (s.line i).debounced := by
  simp only [State.readValue, State.directionOf_eq_output_iff, State.latchOf_eq]
  split
  case isTrue h => simp [h.1]
  case isFalse => rfl

/-- Settles O13. -/
theorem readsReportAndChangeNothing : Obligations.ReadsReportAndChangeNothing := by
  intro rq s p t c k e ch b type index byte word flag kinds x distance binding
  have hflag : yesNo = flag := funext yesNo_eq
  have hbyte : bigEndian 1 = byte := funext bigEndian_one
  have hword : bigEndian 2 = word := funext bigEndian_two
  have hkinds : condBytes = kinds := funext condBytes_eq
  have hindex {n : Nat} (o : Option (Fin n)) : noneOr o = byte ((o.map Fin.val).getD 255) := noneOr_eq o
  refine ⟨fun ht => ?_, fun ht => ?_, ?_, ?_, ?_⟩
  · exact ⟨exec_read ht (withIndex_val p fun p => .report (s.passBody p)),
      exec_read ht (withIndex_val t fun t => .report (s.tipBody t)),
      exec_read ht (withIndex_val c fun c => .report (s.chuteBody c)),
      exec_read ht (withIndex_val k fun k => .report (s.bstBody k)),
      exec_read ht (withIndex_val (0 : Fin 1) fun _ => .report s.breakerBody),
      exec_read ht (withIndex_val e fun e => .report (s.entryBody e)),
      exec_read ht (withIndex_val ch fun ch => .report (s.channelBody ch)),
      exec_read ht (withIndex_val (0 : Fin 1) fun _ => .report s.stationBody),
      fun h => congrArg Host.Outcome.next (request_of_reply_no (owner := State.readReply type index) ht
        (State.readReply_of_no_type h index s))⟩
  · exact congrArg _ (request_of_reply_report (owner := fun s => withIndex 6 b fun b => .report (s.bankBody b)) ht
      (withIndex_val b _))
  · have hderived : (match x.assignment, x.state.live with
        | some p, true => bigEndian 2 x.distance ++ bigEndian 2 (x.heightIn (s.pass p).height)
        | some _, false => bigEndian 2 0 ++ bigEndian 2 0
        | none, _ => bigEndian 2 0 ++ bigEndian 2 0) = match x.assignment with
          | some q => if x.state = .valid ∨ x.state = .clamped then
              word distance ++ word ((s.pass q).height - distance) else [0, 0, 0, 0]
          | none => [0, 0, 0, 0] := by
      have hdistance : x.distance = distance := by
        rw [Channel.distance, clampReading, clamp_le_eq (by decide)]
      cases x.assignment with
      | none => rfl
      | some q =>
        by_cases hl : x.state = .valid ∨ x.state = .clamped
        · simp only [ReadingState.live_iff.mpr hl, hl, if_true, Channel.heightIn, hdistance, bigEndian_two, word]
        · simp only [Bool.eq_false_iff.mpr (mt ReadingState.live_iff.mp hl), hl, if_false]
          rfl
    refine congrArg₂ (· ++ ·) ?_ hderived
    rw [hflag, hbyte, hword, hkinds, hindex, hindex]
    rfl
  · unfold State.stationBody State.modeAndCauses HaltCauses.byte
    rw [hflag, hbyte, hword, hkinds, hindex]
    rfl
  · have hline (i : LineIdx) : s.lineBytes i
        = flag (if i.val < 40 ∧ (s.line i).direction = .output then (s.line i).latch else (s.line i).debounced)
          ++ flag (decide (i.val < 40 ∧ (s.line i).direction = .output))
          ++ flag (decide (i.val < 40) && (s.line i).latch)
          ++ (match (s.line i).binding with
            | some f => binding f
            | none => [255, 255]) := by
      unfold State.lineBytes
      simp only [hflag, State.readValue_eq, State.directionOf_eq_output_iff, State.latchOf_eq]
      cases (s.line i).binding with
      | none => rfl
      | some f => cases f <;> rfl
    unfold State.bankBody
    rw [hbyte, linesOf_eq, List.flatMap_map]
    exact congrArg (fun f => byte (s.bankTime b) ++ (List.finRange 8).flatMap f) (funext fun n => hline _)

end Sys2Proof.Machine
end

section
/-! The READ bodies of types 0 to 5 by their tables (R179). -/

namespace Sys2Proof.Machine

/-! ## Values that fit their bytes -/

theorem flags_mod {bits : List Bool} (h : bits.length ≤ 8) :
    bits.foldr (fun b n => b.toNat + 2 * n) 0 % 256 = bits.foldr (fun b n => b.toNat + 2 * n) 0 := by
  refine Nat.mod_eq_of_lt (lt_of_lt_of_le (b := 2 ^ bits.length) ?_ (Nat.pow_le_pow_right (by decide) h))
  clear h
  induction bits with
  | nil => decide
  | cons b bits ih =>
    have := b.toNat_lt
    rw [List.foldr_cons, List.length_cons, pow_succ]
    omega

theorem index_mod {n : Nat} (h : n ≤ 255) (o : Option (Fin n)) :
    (o.map Fin.val).getD 255 % 256 = (o.map Fin.val).getD 255 := by
  refine Nat.mod_eq_of_lt ?_
  cases o with
  | none => exact (by decide : 255 < 256)
  | some i => exact lt_of_lt_of_le i.isLt (h.trans (by decide))

theorem fin_mod {n : Nat} (h : n ≤ 256) (i : Fin n) : i.val % 256 = i.val :=
  Nat.mod_eq_of_lt (lt_of_lt_of_le i.isLt h)

theorem bool_mod (b : Bool) : b.toNat % 256 = b.toNat := by cases b <;> rfl

theorem conds_mod (c : CondSet) : c.toNat % 256 ^ 4 = c.toNat := Nat.mod_eq_of_lt c.isLt

theorem PassState.code_mod (x : PassState) : x.code % 256 = x.code := by cases x <;> rfl
theorem TipState.code_mod (x : TipState) : x.code % 256 = x.code := by cases x <;> rfl
theorem CycleState.code_mod (x : CycleState) : x.code % 256 = x.code := by cases x <;> rfl
theorem ProofResult.code_mod (x : ProofResult) : x.code % 256 = x.code := by cases x <;> rfl
theorem BreakerState.code_mod (x : BreakerState) : x.code % 256 = x.code := by cases x <;> rfl
theorem Origin.code_mod (x : Origin) : x.code % 256 = x.code := by cases x <;> rfl
theorem ClearanceKind.code_mod (x : ClearanceKind) : x.code % 256 = x.code := by cases x <;> rfl
theorem ClearanceState.code_mod (x : ClearanceState) : x.code % 256 = x.code := by cases x <;> rfl
theorem BreachCause.code_mod (x : BreachCause) : x.code % 256 = x.code := by cases x <;> rfl

/-- The four bytes of the job a station has, or all ones (R122). -/
theorem bstJob_eq (o : Option Job) : (match o with
      | some j => bigEndian 1 j.level ++ bigEndian 1 j.origin.code ++ bigEndian 2 j.arrival
      | none => List.replicate 4 255)
    = bigEndian 1 ((o.map Job.level).getD 255) ++ (bigEndian 1 ((o.map fun j => j.origin.code).getD 255)
      ++ bigEndian 2 ((o.map Job.arrival).getD 65535)) := by
  cases o with
  | none => decide
  | some j => exact List.append_assoc ..

/-- The five bytes of the breaker's current job, or all ones (R122). -/
theorem currentJob_eq (o : Option Job) : (match o with
      | some j => j.bytes
      | none => List.replicate 5 255)
    = bigEndian 1 ((o.map fun j => j.station.val).getD 255) ++ (bigEndian 1 ((o.map Job.level).getD 255)
      ++ (bigEndian 1 ((o.map fun j => j.origin.code).getD 255) ++ bigEndian 2 ((o.map Job.arrival).getD 65535))) := by
  cases o with
  | none => decide
  | some j => simp only [Job.bytes, List.append_assoc, Option.map_some, Option.getD_some]

/-- The cause and actuator of the first breach, 0 where there is none (log 27). -/
theorem firstBreach_eq (o : Option Breach) : (match o with
      | some b => bigEndian 1 b.cause.code ++ bigEndian 1 b.actuator
      | none => [0, 0])
    = bigEndian 1 ((o.map fun b => b.cause.code).getD 0) ++ bigEndian 1 ((o.map Breach.actuator).getD 0) := by
  cases o with
  | none => decide
  | some b => rfl

theorem byte_eq (b : Byte) : [b] = bigEndian 1 b.toNat := by simp [bigEndian]

/-! ## Bodies laid out as a row of numbers -/

/-- The bytes of a row of numbers, each with the number of its bytes. -/
def layout (l : List (Nat × Nat)) : List Byte := l.flatMap fun f => bigEndian f.1 f.2

@[simp] theorem layout_cons (f : Nat × Nat) (l : List (Nat × Nat)) : layout (f :: l) = bigEndian f.1 f.2 ++ layout l := rfl

@[simp] theorem layout_nil : layout [] = [] := rfl

/-- The byte at which the `i`th number of the row starts, the row starting at `start`. -/
def placeOf (start : Nat) : Nat → List (Nat × Nat) → Nat
  | 0, _ => start
  | _ + 1, [] => start
  | i + 1, f :: l => placeOf (start + f.1) i l

theorem placeOf_eq (start i : Nat) (l : List (Nat × Nat)) :
    placeOf start i l = start + (layout (l.take i)).length := by
  induction l generalizing start i with
  | nil => cases i <;> rfl
  | cons f l ih =>
    cases i with
    | zero => rfl
    | succ i => rw [placeOf, ih, List.take_succ_cons, layout_cons, List.length_append, bigEndian_length, Nat.add_assoc]

theorem field_layout {l : List (Nat × Nat)} {n v : Nat} (i : Nat) (h : l[i]? = some (n, v)) (rest : List Byte) :
    field (layout l ++ rest) (layout (l.take i)).length n = v % 256 ^ n := by
  induction l generalizing i with
  | nil => cases h
  | cons f l ih =>
    rw [layout_cons, List.append_assoc]
    cases i with
    | zero =>
      obtain rfl := Option.some.inj h
      exact field_bigEndian_append ..
    | succ i =>
      rw [List.take_succ_cons, layout_cons, List.length_append, bigEndian_length,
        field_bigEndian_append_of_le (Nat.le_add_right ..), Nat.add_sub_cancel_left]
      exact ih i h

/-- The body is the row of numbers, then the rest. -/
def Laid (body : List Byte) (l : List (Nat × Nat)) (rest : List Byte) : Prop := body = layout l ++ rest

namespace Laid

variable {body rest : List Byte} {l : List (Nat × Nat)} {n v start : Nat}

/-- The `i`th number stands behind those before it. -/
theorem field (h : Laid body l rest) (i : Nat) (hi : l[i]? = some (n, v)) (hs : placeOf 0 i l = start) :
    field body start n = v % 256 ^ n := by
  rw [h, ← hs, placeOf_eq, Nat.zero_add, field_layout i hi]

/-- A number that fits its bytes is read as it is. -/
theorem fitted (h : Laid body l rest) (i : Nat) (hi : l[i]? = some (n, v)) (hv : v % 256 ^ n = v)
    (hs : placeOf 0 i l = start) : Sys2Proof.field body start n = v :=
  (h.field i hi hs).trans hv

theorem layout_length (hs : placeOf 0 l.length l = start) : (layout l).length = start := by
  rw [← hs, placeOf_eq, List.take_length, Nat.zero_add]

theorem length (h : Laid body l rest) (hs : placeOf 0 l.length l = start) : body.length = start + rest.length := by
  rw [h, List.length_append, layout_length hs]

theorem drop (h : Laid body l rest) (hs : placeOf 0 l.length l = start) : body.drop start = rest := by
  rw [h, ← layout_length hs, List.drop_left]

end Laid

theorem State.passBody_laid (s : State) (p : PassIdx) : Laid (s.passBody p)
    [(1, [(s.pass p).defined, (s.pass p).known, (s.pass p).amended].foldr (fun b n => b.toNat + 2 * n) 0),
      (1, (s.pass p).state.code), (2, (s.pass p).height), (3, (s.pass p).capacity), (3, (s.pass p).tipLimit),
      (3, (s.pass p).cushion), (2, (s.pass p).hangThreshold), (1, (s.pass p).blendShift),
      (2, (s.pass p).disagreement), (2, (s.pass p).staleLimit), (3, (s.pass p).e), (3, (s.pass p).r),
      (3, (s.pass p).d), (2, (s.pass p).reserved), (4, (s.pass p).conds.toNat), (1, (s.pass p).profile.length),
      (1, (s.pass p).waiting.length)]
    (encodeSegments (s.pass p).profile ++ (s.pass p).waiting.flatMap fun t => bigEndian 1 t.val) := by
  simp only [Laid, State.passBody, flagByte, condBytes, layout_cons, layout_nil, List.append_assoc, List.nil_append]

theorem State.tipBody_laid (s : State) (t : TipIdx) : Laid (s.tipBody t)
    [(1, [(s.tip t).defined, decide ((s.tip t).source = .link), s.blocked t, s.tipCovered t].foldr
        (fun b n => b.toNat + 2 * n) 0),
      (1, (s.tip t).pass.val), (2, (s.tip t).elevation), (2, (s.tip t).load), (1, (s.tip t).level),
      (1, ((s.tip t).grizzly.map Fin.val).getD 255), (1, ((s.lineOf (.call t)).map Fin.val).getD 255),
      (1, ((s.lineOf (.tipSensor t)).map Fin.val).getD 255), (1, ((s.lineOf (.lamp t)).map Fin.val).getD 255),
      (1, ((s.lineOf (.oversize t)).map Fin.val).getD 255), (2, (s.tip t).timeout), (1, (s.tip t).state.code),
      (2, (s.tip t).timer.getD 0), (1, s.place t), (4, (s.tip t).conds.toNat)] [] := by
  simp only [Laid, State.tipBody, flagByte, condBytes, noneOr, optionByte, remaining, layout_cons, layout_nil,
    List.append_assoc, List.append_nil]

theorem State.chuteBody_laid (s : State) (c : ChuteIdx) : Laid (s.chuteBody c)
    [(1, [(s.chute c).defined, (s.chute c).held, (s.chute c).callPending, (s.chute c).reachedOpen,
        (s.chute c).faultHold, (s.chute c).proofHold, (s.chute c).proofDue, s.chuteCovered c].foldr
        (fun b n => b.toNat + 2 * n) 0),
      (1, [s.level (.openLimit c), s.level (.closedLimit c)].foldr (fun b n => b.toNat + 2 * n) 0),
      (1, (s.chute c).pass.val), (2, (s.chute c).elevation), (2, (s.chute c).volume),
      (1, ((s.lineOf (.openValve c)).map Fin.val).getD 255), (1, ((s.lineOf (.closeValve c)).map Fin.val).getD 255),
      (1, ((s.lineOf (.openLimit c)).map Fin.val).getD 255), (1, ((s.lineOf (.closedLimit c)).map Fin.val).getD 255),
      (1, ((s.lineOf (.loadCall c)).map Fin.val).getD 255), (2, (s.chute c).holdTime), (2, (s.chute c).strokeTime),
      (1, (s.chute c).nudgeTime), (2, (s.chute c).interval), (1, (s.chute c).count), (1, (s.chute c).state.code),
      (2, ((s.chute c).strokeTimer <|> (s.chute c).holdTimer <|> (s.chute c).nudgeTimer).getD 0),
      (1, (s.chute c).lastProof.code), (2, (s.chute c).cycles), (4, (s.chute c).conds.toNat)] [] := by
  unfold Laid State.chuteBody
  dsimp only
  simp only [flagByte, condBytes, noneOr, optionByte, remaining, layout_cons, layout_nil]
  simp only [List.append_assoc, List.append_nil]

theorem State.bstBody_laid (s : State) (k : StationIdx) : Laid (s.bstBody k)
    [(1, [(s.bst k).defined, (s.bst k).retryHeld, s.breaker.current.any fun j => decide (j.station = k),
        s.breaker.jobs.any fun j => decide (j.station = k), s.stationCovered k].foldr
        (fun b n => b.toNat + 2 * n) 0),
      (1, (s.bst k).tip.val), (1, (s.bst k).group), (1, ((s.jobFor k).map Job.level).getD 255),
      (1, ((s.jobFor k).map fun j => j.origin.code).getD 255), (2, ((s.jobFor k).map Job.arrival).getD 65535),
      (4, (s.bst k).conds.toNat)] [] := by
  refine (congrArg₂ (· ++ ·) (congrArg₂ (· ++ ·) rfl (bstJob_eq (s.jobFor k))) rfl).trans ?_
  simp only [flagByte, condBytes, layout_cons, layout_nil, List.append_assoc, List.append_nil]

/-- The breaker's body with its current job in bytes. -/
theorem State.breakerBody_eq (s : State) : s.breakerBody = bigEndian 1 s.breaker.state.code
    ++ (bigEndian 1 ((s.breaker.current.map fun j => j.station.val).getD 255)
      ++ (bigEndian 1 ((s.breaker.current.map Job.level).getD 255)
      ++ (bigEndian 1 ((s.breaker.current.map fun j => j.origin.code).getD 255)
      ++ bigEndian 2 ((s.breaker.current.map Job.arrival).getD 65535))))
    ++ bigEndian 2 s.breaker.counter ++ bigEndian 1 s.breaker.floor ++ bigEndian 1 s.effectiveFloor
    ++ bigEndian 2 s.breaker.travelLimit ++ bigEndian 2 s.breaker.breakLimit
    ++ bigEndian 2 (remaining (s.breaker.travelTimer <|> s.breaker.breakTimer <|> s.breaker.returnTimer))
    ++ yesNo s.breaker.returnOverdue ++ noneOr (s.lineOf .go) ++ noneOr (s.lineOf .code0)
    ++ noneOr (s.lineOf .code1) ++ noneOr (s.lineOf .inPosition) ++ noneOr (s.lineOf .grizzlyClear)
    ++ noneOr (s.lineOf .parked) ++ flagByte [s.level .inPosition, s.level .grizzlyClear, s.level .parked]
    ++ condBytes s.breaker.conds ++ bigEndian 1 s.breaker.jobs.length ++ s.breaker.jobs.flatMap Job.bytes := by
  rw [← currentJob_eq]
  rfl

theorem State.breakerBody_laid (s : State) : Laid s.breakerBody
    [(1, s.breaker.state.code), (1, (s.breaker.current.map fun j => j.station.val).getD 255),
      (1, (s.breaker.current.map Job.level).getD 255), (1, (s.breaker.current.map fun j => j.origin.code).getD 255),
      (2, (s.breaker.current.map Job.arrival).getD 65535), (2, s.breaker.counter), (1, s.breaker.floor),
      (1, s.effectiveFloor), (2, s.breaker.travelLimit), (2, s.breaker.breakLimit),
      (2, (s.breaker.travelTimer <|> s.breaker.breakTimer <|> s.breaker.returnTimer).getD 0),
      (1, s.breaker.returnOverdue.toNat), (1, ((s.lineOf .go).map Fin.val).getD 255),
      (1, ((s.lineOf .code0).map Fin.val).getD 255), (1, ((s.lineOf .code1).map Fin.val).getD 255),
      (1, ((s.lineOf .inPosition).map Fin.val).getD 255), (1, ((s.lineOf .grizzlyClear).map Fin.val).getD 255),
      (1, ((s.lineOf .parked).map Fin.val).getD 255),
      (1, [s.level .inPosition, s.level .grizzlyClear, s.level .parked].foldr (fun b n => b.toNat + 2 * n) 0),
      (4, s.breaker.conds.toNat), (1, s.breaker.jobs.length)] (s.breaker.jobs.flatMap Job.bytes) := by
  rw [Laid, State.breakerBody_eq]
  simp only [flagByte, condBytes, noneOr, optionByte, yesNo, remaining, layout_cons, layout_nil,
    List.append_assoc, List.nil_append]

/-- The entry's body with its first breach in bytes. -/
theorem State.entryBody_eq (s : State) (e : EntryIdx) : s.entryBody e
    = flagByte [(s.entry e).inUse, (s.entry e).firstBreach.isSome] ++ bigEndian 1 (s.entry e).kind.code
    ++ noneOr (s.entry e).pass ++ bigEndian 2 (s.entry e).low ++ bigEndian 2 (s.entry e).high
    ++ bigEndian 2 (s.entry e).maskTips.toNat ++ [(s.entry e).maskChutes]
    ++ yesNo (s.entry e).maskBreaker ++ bigEndian 1 (s.entry e).state.code
    ++ bigEndian 2 (remaining (s.entry e).timer) ++ bigEndian 1 (s.entry e).breaches
    ++ (bigEndian 1 (((s.entry e).firstBreach.map fun b => b.cause.code).getD 0)
      ++ bigEndian 1 (((s.entry e).firstBreach.map Breach.actuator).getD 0))
    ++ plantBytes (s.coversTip e) (s.coversChute e) (s.coversStation e) (s.carriesBreaker e)
    ++ plantBytes (fun t => s.coversTip e t && decide ((s.tip t).state = .granted))
        (fun c => s.coversChute e c && !s.chuteSafe c)
        (fun k => s.coversStation e k && s.breakerAt k)
        (s.carriesBreaker e && decide (s.breaker.state ≠ .parked))
    ++ condBytes (s.entry e).conds ++ bigEndian 1 (s.entry e).holders.length ++ tagBytes (s.entry e).holders := by
  rw [← firstBreach_eq]
  rfl

theorem State.entryBody_laid (s : State) (e : EntryIdx) : Laid (s.entryBody e)
    [(1, [(s.entry e).inUse, (s.entry e).firstBreach.isSome].foldr (fun b n => b.toNat + 2 * n) 0),
      (1, (s.entry e).kind.code), (1, ((s.entry e).pass.map Fin.val).getD 255), (2, (s.entry e).low),
      (2, (s.entry e).high), (2, (s.entry e).maskTips.toNat), (1, (s.entry e).maskChutes.toNat),
      (1, (s.entry e).maskBreaker.toNat), (1, (s.entry e).state.code), (2, (s.entry e).timer.getD 0),
      (1, (s.entry e).breaches), (1, ((s.entry e).firstBreach.map fun b => b.cause.code).getD 0),
      (1, ((s.entry e).firstBreach.map Breach.actuator).getD 0), (2, bitmap 16 (s.coversTip e)),
      (1, bitmap 8 (s.coversChute e)), (1, bitmap 4 (s.coversStation e) + 16 * (s.carriesBreaker e).toNat),
      (2, bitmap 16 fun t => s.coversTip e t && decide ((s.tip t).state = .granted)),
      (1, bitmap 8 fun c => s.coversChute e c && !s.chuteSafe c),
      (1, (bitmap 4 fun k => s.coversStation e k && s.breakerAt k)
        + 16 * (s.carriesBreaker e && decide (s.breaker.state ≠ .parked)).toNat),
      (4, (s.entry e).conds.toNat), (1, (s.entry e).holders.length)] (tagBytes (s.entry e).holders) := by
  rw [Laid, State.entryBody_eq, byte_eq]
  simp only [flagByte, condBytes, noneOr, optionByte, yesNo, remaining, plantBytes, layout_cons, layout_nil,
    List.append_assoc, List.nil_append]

/-! ## The tables -/

theorem encodeSegments_eq (gs : List Segment) : encodeSegments gs = gs.flatMap fun g => [BitVec.ofNat 8 (g.height / 256),
    BitVec.ofNat 8 g.height, BitVec.ofNat 8 (g.area / 256), BitVec.ofNat 8 g.area] := by
  simp only [encodeSegments, bigEndian_two, List.cons_append, List.nil_append]

theorem waitingBytes_eq (ts : List TipIdx) : (ts.flatMap fun t => bigEndian 1 t.val)
    = ts.map fun x => BitVec.ofNat 8 x.val := by
  simp only [bigEndian_one]
  exact List.map_eq_flatMap.symm

theorem jobBytes_eq (js : List Job) : js.flatMap Job.bytes = js.flatMap fun j => [BitVec.ofNat 8 j.station.val,
    BitVec.ofNat 8 j.level, BitVec.ofNat 8 j.origin.code, BitVec.ofNat 8 (j.arrival / 256),
    BitVec.ofNat 8 j.arrival] := by
  have h : Job.bytes = fun j => [BitVec.ofNat 8 j.station.val, BitVec.ofNat 8 j.level, BitVec.ofNat 8 j.origin.code,
      BitVec.ofNat 8 (j.arrival / 256), BitVec.ofNat 8 j.arrival] := by
    funext j
    simp [Job.bytes, bigEndian_one, bigEndian_two]
  rw [h]

theorem jobBytes_length (js : List Job) : (js.flatMap Job.bytes).length = 5 * js.length := by
  rw [jobBytes_eq]
  simp [List.length_flatMap, mul_comm]

theorem tagBytes_eq (tags : List Nat) : tagBytes tags = tags.flatMap fun tag =>
    [BitVec.ofNat 8 (tag / 256), BitVec.ofNat 8 tag] := by
  simp only [tagBytes, show bigEndian 2 = fun tag => [BitVec.ofNat 8 (tag / 256), BitVec.ofNat 8 tag] from
    funext bigEndian_two]

theorem tagBytes_length (tags : List Nat) : (tagBytes tags).length = 2 * tags.length := by
  rw [tagBytes_eq]
  simp [List.length_flatMap, mul_comm]

theorem orElse_getD (a b : Timer) (n : Nat) : (a <|> b).getD n = a.getD (b.getD n) := by cases a <;> rfl

theorem any_station_eq (o : Option Job) (k : StationIdx) :
    (o.any fun j => decide (j.station = k)) = decide (o.map Job.station = some k) := by cases o <;> simp

theorem station_mod (o : Option Job) : (o.map fun j => j.station.val).getD 255 % 256
    = (o.map fun j => j.station.val).getD 255 := by
  cases o with
  | none => rfl
  | some j => exact fin_mod (by decide) j.station

theorem origin_mod (o : Option Job) : (o.map fun j => j.origin.code).getD 255 % 256
    = (o.map fun j => j.origin.code).getD 255 := by
  cases o with
  | none => rfl
  | some j => exact Origin.code_mod j.origin

theorem cause_mod (o : Option Breach) : (o.map fun b => b.cause.code).getD 0 % 256
    = (o.map fun b => b.cause.code).getD 0 := by
  cases o with
  | none => rfl
  | some b => exact BreachCause.code_mod b.cause

/-- A byte of four stations and the breaker (section 10.4). -/
theorem stationByte_lt (f : StationIdx → Bool) (b : Bool) : bitmap 4 f + 16 * b.toNat < 32 := by
  have := bitmap_lt f
  have := b.toNat_le
  omega

theorem stationByte_mod (f : StationIdx → Bool) (b : Bool) :
    (bitmap 4 f + 16 * b.toNat) % 256 = bitmap 4 f + 16 * b.toNat :=
  Nat.mod_eq_of_lt ((stationByte_lt f b).trans (by decide))

theorem stationByte_testBit (f : StationIdx → Bool) (b : Bool) (j : Nat) :
    (bitmap 4 f + 16 * b.toNat).testBit j = if j < 4 then (bitmap 4 f).testBit j else b.toNat.testBit (j - 4) := by
  rw [add_comm]
  exact Nat.testBit_two_pow_mul_add (i := 4) b.toNat (bitmap_lt f) j

theorem stationByte_station (f : StationIdx → Bool) (b : Bool) (k : StationIdx) :
    (bitmap 4 f + 16 * b.toNat).testBit k = f k := by
  rw [stationByte_testBit, if_pos k.isLt, testBit_bitmap]

theorem stationByte_breaker (f : StationIdx → Bool) (b : Bool) : (bitmap 4 f + 16 * b.toNat).testBit 4 = b := by
  rw [stationByte_testBit, if_neg (by decide)]
  cases b <;> rfl

/-- The number of a row of flags, the first in bit 0. -/
def flagSum (bits : List Bool) : Nat := bits.foldr (fun b n => b.toNat + 2 * n) 0

theorem flagSum_mod (bits : List Bool) (h : bits.length ≤ 8) : flagSum bits % 256 = flagSum bits := flags_mod h

/-- READ of a pass by its table. -/
theorem passBody_fields (s : State) (p : PassIdx) {P : Prop} (h : P) :
    (s.passBody p).length = 37 + 4 * (s.pass p).profile.length + (s.pass p).waiting.length
    ∧ field (s.passBody p) 0 1 = flagSum [(s.pass p).defined, (s.pass p).known, (s.pass p).amended]
    ∧ field (s.passBody p) 1 1 = (s.pass p).state.code
    ∧ field (s.passBody p) 2 2 = (s.pass p).height % 65536
    ∧ field (s.passBody p) 4 3 = (s.pass p).capacity % 16777216
    ∧ field (s.passBody p) 7 3 = (s.pass p).tipLimit % 16777216
    ∧ field (s.passBody p) 10 3 = (s.pass p).cushion % 16777216
    ∧ field (s.passBody p) 13 2 = (s.pass p).hangThreshold % 65536
    ∧ field (s.passBody p) 15 1 = (s.pass p).blendShift % 256
    ∧ field (s.passBody p) 16 2 = (s.pass p).disagreement % 65536
    ∧ field (s.passBody p) 18 2 = (s.pass p).staleLimit % 65536
    ∧ field (s.passBody p) 20 3 = (s.pass p).e % 16777216
    ∧ field (s.passBody p) 23 3 = (s.pass p).r % 16777216
    ∧ field (s.passBody p) 26 3 = (s.pass p).d % 16777216
    ∧ field (s.passBody p) 29 2 = (s.pass p).reserved % 65536
    ∧ field (s.passBody p) 31 4 = (s.pass p).conds.toNat
    ∧ field (s.passBody p) 35 1 = (s.pass p).profile.length % 256
    ∧ field (s.passBody p) 36 1 = (s.pass p).waiting.length % 256
    ∧ (s.passBody p).drop 37 = ((s.pass p).profile.flatMap fun g => [BitVec.ofNat 8 (g.height / 256),
        BitVec.ofNat 8 g.height, BitVec.ofNat 8 (g.area / 256), BitVec.ofNat 8 g.area])
          ++ (s.pass p).waiting.map (fun x => BitVec.ofNat 8 x.val)
    ∧ P := by
  have hp := s.passBody_laid p
  refine ⟨?length, hp.fitted 0 rfl (flagSum_mod _ (by simp)) rfl, hp.fitted 1 rfl (PassState.code_mod _) rfl, hp.field 2 rfl rfl,
    hp.field 3 rfl rfl, hp.field 4 rfl rfl, hp.field 5 rfl rfl, hp.field 6 rfl rfl, hp.field 7 rfl rfl,
    hp.field 8 rfl rfl, hp.field 9 rfl rfl, hp.field 10 rfl rfl, hp.field 11 rfl rfl, hp.field 12 rfl rfl,
    hp.field 13 rfl rfl, hp.fitted 14 rfl (conds_mod _) rfl, hp.field 15 rfl rfl, hp.field 16 rfl rfl, ?rest, h⟩
  case length =>
    rw [hp.length (start := 37) rfl, List.length_append, encodeSegments_length, waitingBytes_eq, List.length_map,
      Nat.add_assoc]
  case rest => rw [hp.drop (start := 37) rfl, encodeSegments_eq, waitingBytes_eq]

/-- READ of a tip point by its table. -/
theorem tipBody_fields (s : State) (t : TipIdx) {P : Prop} (h : P) :
    (s.tipBody t).length = 22
    ∧ field (s.tipBody t) 0 1 = flagSum [(s.tip t).defined, decide ((s.tip t).source = .link), s.blocked t,
        (List.finRange 24).any (s.coversTip · t)]
    ∧ field (s.tipBody t) 1 1 = (s.tip t).pass
    ∧ field (s.tipBody t) 2 2 = (s.tip t).elevation % 65536
    ∧ field (s.tipBody t) 4 2 = (s.tip t).load % 65536
    ∧ field (s.tipBody t) 6 1 = (s.tip t).level % 256
    ∧ field (s.tipBody t) 7 1 = ((s.tip t).grizzly.map Fin.val).getD 255
    ∧ field (s.tipBody t) 8 1 = ((s.lineOf (.call t)).map Fin.val).getD 255
    ∧ field (s.tipBody t) 9 1 = ((s.lineOf (.tipSensor t)).map Fin.val).getD 255
    ∧ field (s.tipBody t) 10 1 = ((s.lineOf (.lamp t)).map Fin.val).getD 255
    ∧ field (s.tipBody t) 11 1 = ((s.lineOf (.oversize t)).map Fin.val).getD 255
    ∧ field (s.tipBody t) 12 2 = (s.tip t).timeout % 65536
    ∧ field (s.tipBody t) 14 1 = (s.tip t).state.code
    ∧ field (s.tipBody t) 15 2 = (s.tip t).timer.getD 0 % 65536
    ∧ field (s.tipBody t) 17 1 = (if (s.tip t).state = .waiting then
        (s.pass (s.tip t).pass).waiting.idxOf t + 1 else 0) % 256
    ∧ field (s.tipBody t) 18 4 = (s.tip t).conds.toNat
    ∧ P := by
  have ht := s.tipBody_laid t
  exact ⟨ht.length rfl, ht.fitted 0 rfl (flagSum_mod _ (by simp)) rfl, ht.fitted 1 rfl (fin_mod (by decide) _) rfl, ht.field 2 rfl rfl,
    ht.field 3 rfl rfl, ht.field 4 rfl rfl, ht.fitted 5 rfl (index_mod (by decide) _) rfl,
    ht.fitted 6 rfl (index_mod (by decide) _) rfl, ht.fitted 7 rfl (index_mod (by decide) _) rfl,
    ht.fitted 8 rfl (index_mod (by decide) _) rfl, ht.fitted 9 rfl (index_mod (by decide) _) rfl, ht.field 10 rfl rfl,
    ht.fitted 11 rfl (TipState.code_mod _) rfl, ht.field 12 rfl rfl, ht.field 13 rfl rfl,
    ht.fitted 14 rfl (conds_mod _) rfl, h⟩

/-- READ of a chute by its table. -/
theorem chuteBody_fields (s : State) (c : ChuteIdx) {P : Prop} (h : P) :
    (s.chuteBody c).length = 30
    ∧ field (s.chuteBody c) 0 1 = flagSum [(s.chute c).defined, (s.chute c).held, (s.chute c).callPending,
        (s.chute c).reachedOpen, (s.chute c).faultHold, (s.chute c).proofHold,
        decide ((s.chute c).interval ≠ 0 ∧ (s.chute c).interval ≤ (s.chute c).cycles),
        (List.finRange 24).any (s.coversChute · c)]
    ∧ field (s.chuteBody c) 1 1 = flagSum [s.level (.openLimit c), s.level (.closedLimit c)]
    ∧ field (s.chuteBody c) 2 1 = (s.chute c).pass
    ∧ field (s.chuteBody c) 3 2 = (s.chute c).elevation % 65536
    ∧ field (s.chuteBody c) 5 2 = (s.chute c).volume % 65536
    ∧ field (s.chuteBody c) 7 1 = ((s.lineOf (.openValve c)).map Fin.val).getD 255
    ∧ field (s.chuteBody c) 8 1 = ((s.lineOf (.closeValve c)).map Fin.val).getD 255
    ∧ field (s.chuteBody c) 9 1 = ((s.lineOf (.openLimit c)).map Fin.val).getD 255
    ∧ field (s.chuteBody c) 10 1 = ((s.lineOf (.closedLimit c)).map Fin.val).getD 255
    ∧ field (s.chuteBody c) 11 1 = ((s.lineOf (.loadCall c)).map Fin.val).getD 255
    ∧ field (s.chuteBody c) 12 2 = (s.chute c).holdTime % 65536
    ∧ field (s.chuteBody c) 14 2 = (s.chute c).strokeTime % 65536
    ∧ field (s.chuteBody c) 16 1 = (s.chute c).nudgeTime % 256
    ∧ field (s.chuteBody c) 17 2 = (s.chute c).interval % 65536
    ∧ field (s.chuteBody c) 19 1 = (s.chute c).count % 256
    ∧ field (s.chuteBody c) 20 1 = (s.chute c).state.code
    ∧ field (s.chuteBody c) 21 2 = (s.chute c).strokeTimer.getD ((s.chute c).holdTimer.getD ((s.chute c).nudgeTimer.getD 0)) % 65536
    ∧ field (s.chuteBody c) 23 1 = (s.chute c).lastProof.code
    ∧ field (s.chuteBody c) 24 2 = (s.chute c).cycles % 65536
    ∧ field (s.chuteBody c) 26 4 = (s.chute c).conds.toNat
    ∧ P := by
  have hc := s.chuteBody_laid c
  refine ⟨hc.length rfl, hc.fitted 0 rfl (flagSum_mod _ (by simp)) rfl, hc.fitted 1 rfl (flagSum_mod _ (by simp)) rfl,
    hc.fitted 2 rfl (fin_mod (by decide) _) rfl, hc.field 3 rfl rfl, hc.field 4 rfl rfl, hc.fitted 5 rfl (index_mod (by decide) _) rfl,
    hc.fitted 6 rfl (index_mod (by decide) _) rfl, hc.fitted 7 rfl (index_mod (by decide) _) rfl,
    hc.fitted 8 rfl (index_mod (by decide) _) rfl, hc.fitted 9 rfl (index_mod (by decide) _) rfl, hc.field 10 rfl rfl,
    hc.field 11 rfl rfl, hc.field 12 rfl rfl, hc.field 13 rfl rfl, hc.field 14 rfl rfl,
    hc.fitted 15 rfl (CycleState.code_mod _) rfl, ?timer, hc.fitted 17 rfl (ProofResult.code_mod _) rfl,
    hc.field 18 rfl rfl, hc.fitted 19 rfl (conds_mod _) rfl, h⟩
  case timer =>
    exact (hc.field 16 rfl rfl).trans (by rw [orElse_getD, orElse_getD]; rfl)

/-- READ of a breaker station by its table. -/
theorem bstBody_fields (s : State) (k : StationIdx) {P : Prop} (h : P) :
    (s.bstBody k).length = 11
    ∧ field (s.bstBody k) 0 1 = flagSum [(s.bst k).defined, (s.bst k).retryHeld, decide (s.breaker.current.map Job.station = some k),
        s.breaker.jobs.any fun j => decide (j.station = k), (List.finRange 24).any (s.coversStation · k)]
    ∧ field (s.bstBody k) 1 1 = (s.bst k).tip
    ∧ field (s.bstBody k) 2 1 = (s.bst k).group % 256
    ∧ field (s.bstBody k) 3 1 = ((s.jobFor k).map Job.level).getD 255 % 256
    ∧ field (s.bstBody k) 4 1 = ((s.jobFor k).map fun j => j.origin.code).getD 255
    ∧ field (s.bstBody k) 5 2 = ((s.jobFor k).map Job.arrival).getD 65535 % 65536
    ∧ field (s.bstBody k) 7 4 = (s.bst k).conds.toNat
    ∧ P := by
  have hk := s.bstBody_laid k
  refine ⟨hk.length rfl, ?flags, hk.fitted 1 rfl (fin_mod (by decide) _) rfl, hk.field 2 rfl rfl, hk.field 3 rfl rfl,
    hk.fitted 4 rfl (origin_mod _) rfl, hk.field 5 rfl rfl, hk.fitted 6 rfl (conds_mod _) rfl, h⟩
  case flags =>
    rw [← any_station_eq]
    exact hk.fitted 0 rfl (flagSum_mod _ (by simp)) rfl

/-- READ of the breaker by its table. -/
theorem breakerBody_fields (s : State) {P : Prop} (h : P) :
    s.breakerBody.length = 29 + 5 * s.breaker.jobs.length
    ∧ field s.breakerBody 0 1 = s.breaker.state.code
    ∧ field s.breakerBody 1 1 = (s.breaker.current.map fun j => j.station.val).getD 255
    ∧ field s.breakerBody 2 1 = (s.breaker.current.map Job.level).getD 255 % 256
    ∧ field s.breakerBody 3 1 = (s.breaker.current.map fun j => j.origin.code).getD 255
    ∧ field s.breakerBody 4 2 = (s.breaker.current.map Job.arrival).getD 65535 % 65536
    ∧ field s.breakerBody 6 2 = s.breaker.counter % 65536
    ∧ field s.breakerBody 8 1 = s.breaker.floor % 256
    ∧ field s.breakerBody 9 1 = (if s.station.mode = .run then s.breaker.floor else 7) % 256
    ∧ field s.breakerBody 10 2 = s.breaker.travelLimit % 65536
    ∧ field s.breakerBody 12 2 = s.breaker.breakLimit % 65536
    ∧ field s.breakerBody 14 2 = s.breaker.travelTimer.getD (s.breaker.breakTimer.getD (s.breaker.returnTimer.getD 0)) % 65536
    ∧ field s.breakerBody 16 1 = s.breaker.returnOverdue.toNat
    ∧ field s.breakerBody 17 1 = ((s.lineOf .go).map Fin.val).getD 255
    ∧ field s.breakerBody 18 1 = ((s.lineOf .code0).map Fin.val).getD 255
    ∧ field s.breakerBody 19 1 = ((s.lineOf .code1).map Fin.val).getD 255
    ∧ field s.breakerBody 20 1 = ((s.lineOf .inPosition).map Fin.val).getD 255
    ∧ field s.breakerBody 21 1 = ((s.lineOf .grizzlyClear).map Fin.val).getD 255
    ∧ field s.breakerBody 22 1 = ((s.lineOf .parked).map Fin.val).getD 255
    ∧ field s.breakerBody 23 1 = flagSum [s.level .inPosition, s.level .grizzlyClear, s.level .parked]
    ∧ field s.breakerBody 24 4 = s.breaker.conds.toNat
    ∧ field s.breakerBody 28 1 = s.breaker.jobs.length % 256
    ∧ s.breakerBody.drop 29 = s.breaker.jobs.flatMap (fun j => [BitVec.ofNat 8 j.station.val, BitVec.ofNat 8 j.level,
        BitVec.ofNat 8 j.origin.code, BitVec.ofNat 8 (j.arrival / 256), BitVec.ofNat 8 j.arrival])
    ∧ P := by
  have hb := s.breakerBody_laid
  refine ⟨?length, hb.fitted 0 rfl (BreakerState.code_mod _) rfl, hb.fitted 1 rfl (station_mod _) rfl, hb.field 2 rfl rfl,
    hb.fitted 3 rfl (origin_mod _) rfl, hb.field 4 rfl rfl, hb.field 5 rfl rfl, hb.field 6 rfl rfl,
    hb.field 7 rfl rfl, hb.field 8 rfl rfl, hb.field 9 rfl rfl, ?timer, hb.fitted 11 rfl (bool_mod _) rfl,
    hb.fitted 12 rfl (index_mod (by decide) _) rfl, hb.fitted 13 rfl (index_mod (by decide) _) rfl,
    hb.fitted 14 rfl (index_mod (by decide) _) rfl, hb.fitted 15 rfl (index_mod (by decide) _) rfl,
    hb.fitted 16 rfl (index_mod (by decide) _) rfl, hb.fitted 17 rfl (index_mod (by decide) _) rfl,
    hb.fitted 18 rfl (flagSum_mod _ (by simp)) rfl, hb.fitted 19 rfl (conds_mod _) rfl, hb.field 20 rfl rfl, ?rest, h⟩
  case length =>
    rw [hb.length (start := 29) rfl, jobBytes_length]
  case timer =>
    exact (hb.field 10 rfl rfl).trans (by rw [orElse_getD, orElse_getD]; rfl)
  case rest => rw [hb.drop (start := 29) rfl, jobBytes_eq]

/-- READ of a clearance entry by its table. -/
theorem entryBody_fields (s : State) (e : EntryIdx) (t : TipIdx) (c : ChuteIdx) (k : StationIdx) :
    (s.entryBody e).length = 30 + 2 * (s.entry e).holders.length
    ∧ field (s.entryBody e) 0 1 = flagSum [(s.entry e).inUse, (s.entry e).firstBreach.isSome]
    ∧ field (s.entryBody e) 1 1 = (s.entry e).kind.code
    ∧ field (s.entryBody e) 2 1 = ((s.entry e).pass.map Fin.val).getD 255
    ∧ field (s.entryBody e) 3 2 = (s.entry e).low % 65536
    ∧ field (s.entryBody e) 5 2 = (s.entry e).high % 65536
    ∧ field (s.entryBody e) 7 2 = (s.entry e).maskTips.toNat
    ∧ field (s.entryBody e) 9 1 = (s.entry e).maskChutes.toNat
    ∧ field (s.entryBody e) 10 1 = (s.entry e).maskBreaker.toNat
    ∧ field (s.entryBody e) 11 1 = (s.entry e).state.code
    ∧ field (s.entryBody e) 12 2 = (s.entry e).timer.getD 0 % 65536
    ∧ field (s.entryBody e) 14 1 = (s.entry e).breaches % 256
    ∧ field (s.entryBody e) 15 1 = (match (s.entry e).firstBreach with
        | none => 0
        | some v => match v.cause with
          | .gateMoved => 1
          | .tipSensed => 2
          | .breakerMoved => 3)
    ∧ field (s.entryBody e) 16 1 = ((s.entry e).firstBreach.map Breach.actuator).getD 0 % 256
    ∧ (field (s.entryBody e) 17 2).testBit t = s.coversTip e t
    ∧ (field (s.entryBody e) 19 1).testBit c = s.coversChute e c
    ∧ (field (s.entryBody e) 20 1).testBit k = s.coversStation e k
    ∧ (field (s.entryBody e) 20 1).testBit 4 = s.carriesBreaker e
    ∧ field (s.entryBody e) 20 1 < 32
    ∧ (field (s.entryBody e) 21 2).testBit t = (s.coversTip e t && decide ((s.tip t).state = .granted))
    ∧ (field (s.entryBody e) 23 1).testBit c = (s.coversChute e c
        && decide ((s.chute c).state ≠ .closed ∨ s.level (.closedLimit c) = false))
    ∧ (field (s.entryBody e) 24 1).testBit k = (s.coversStation e k
        && (decide (s.breaker.state = .travelling ∨ s.breaker.state = .breaking)
        && decide (s.breaker.current.map Job.station = some k)))
    ∧ (field (s.entryBody e) 24 1).testBit 4 = (s.carriesBreaker e && decide (s.breaker.state ≠ .parked))
    ∧ field (s.entryBody e) 24 1 < 32
    ∧ field (s.entryBody e) 25 4 = (s.entry e).conds.toNat
    ∧ field (s.entryBody e) 29 1 = (s.entry e).holders.length % 256
    ∧ (s.entryBody e).drop 30 = (s.entry e).holders.flatMap fun tag =>
        [BitVec.ofNat 8 (tag / 256), BitVec.ofNat 8 tag] := by
  have he := s.entryBody_laid e
  have hseat : (!s.chuteSafe c) = decide ((s.chute c).state ≠ .closed ∨ s.level (.closedLimit c) = false) := by
    rw [Bool.eq_iff_iff]
    simp [State.chuteSafe, State.closedHigh]
  refine ⟨?length, he.fitted 0 rfl (flagSum_mod _ (by simp)) rfl, he.fitted 1 rfl (ClearanceKind.code_mod _) rfl,
    he.fitted 2 rfl (index_mod (by decide) _) rfl, he.field 3 rfl rfl, he.field 4 rfl rfl,
    he.fitted 5 rfl (Nat.mod_eq_of_lt (s.entry e).maskTips.isLt) rfl,
    he.fitted 6 rfl (Nat.mod_eq_of_lt (s.entry e).maskChutes.isLt) rfl, he.fitted 7 rfl (bool_mod _) rfl,
    he.fitted 8 rfl (ClearanceState.code_mod _) rfl, he.field 9 rfl rfl, he.field 10 rfl rfl, ?cause,
    he.field 12 rfl rfl, ?tips, ?chutes, ?stations, ?breaker, ?below, ?granted, ?unseated, ?worked, ?away, ?below',
    he.fitted 19 rfl (conds_mod _) rfl, he.field 20 rfl rfl, ?rest⟩
  case length =>
    rw [he.length (start := 30) rfl, tagBytes_length]
  case cause =>
    refine (he.fitted 11 rfl (cause_mod _) rfl).trans ?_
    cases (s.entry e).firstBreach with
    | none => rfl
    | some v => rfl
  case tips => rw [he.field (start := 17) 13 rfl rfl, testBit_bitmap_mod_bytes _ _ (by decide)]
  case chutes => rw [he.field (start := 19) 14 rfl rfl, testBit_bitmap_mod_bytes _ _ (by decide)]
  case stations => rw [he.fitted (start := 20) 15 rfl (stationByte_mod ..) rfl, stationByte_station]
  case breaker => rw [he.fitted (start := 20) 15 rfl (stationByte_mod ..) rfl, stationByte_breaker]
  case below => rw [he.fitted (start := 20) 15 rfl (stationByte_mod ..) rfl]; exact stationByte_lt ..
  case granted => rw [he.field (start := 21) 16 rfl rfl, testBit_bitmap_mod_bytes _ _ (by decide)]
  case unseated => rw [he.field (start := 23) 17 rfl rfl, testBit_bitmap_mod_bytes _ _ (by decide), hseat]
  case worked =>
    rw [he.fitted (start := 24) 18 rfl (stationByte_mod ..) rfl, stationByte_station, State.breakerAt, any_station_eq]
  case away => rw [he.fitted (start := 24) 18 rfl (stationByte_mod ..) rfl, stationByte_breaker]
  case below' => rw [he.fitted (start := 24) 18 rfl (stationByte_mod ..) rfl]; exact stationByte_lt ..
  case rest => rw [he.drop (start := 30) rfl, tagBytes_eq]

/-- Settles O14: each body is laid out as a row of numbers, and each field read at its place in the row. -/
theorem readBodiesFollowTheTables : Obligations.ReadBodiesFollowTheTables := by
  intro s p t c k e x z b y flags origin job unseated worked
  exact passBody_fields s p (tipBody_fields s t (chuteBody_fields s c (bstBody_fields s k (breakerBody_fields s
    (entryBody_fields s e t c k)))))

end Sys2Proof.Machine
end

section
/-! The aborts of one event (R93, R94, R128, R150). -/

namespace Sys2Proof.Machine

/-! ## Debits -/

theorem raise_raise (k : CondKind) (c : CondSet) : raise k (raise k c) = raise k c := by
  simp [raise, BitVec.or_assoc]

theorem raiseIf_raiseIf (a b : Bool) (k : CondKind) (c : CondSet) :
    raiseIf b k (raiseIf a k c) = raiseIf (a || b) k c := by
  cases a <;> cases b <;> simp [raiseIf, raise_raise]

/-- Two debits of one pass are one debit of their sum (R18). -/
theorem Pass.debit_debit (v w : Nat) (q : Pass) : (q.debit v).debit w = q.debit (v + w) := by
  cases h : q.defined && q.known with
  | false => simp [Pass.debit, h]
  | true =>
    have hd : (if q.state = .running then satVolume ((if q.state = .running then satVolume (q.d + v) else q.d) + w)
        else if q.state = .running then satVolume (q.d + v) else q.d)
        = if q.state = .running then satVolume (q.d + (v + w)) else q.d := by
      simp only [satVolume, Config.volumeMax]
      split <;> omega
    have hc : (decide (q.e < v) || decide (q.e - v < w)) = decide (q.e < v + w) := by
      rw [← Bool.decide_or]
      exact decide_eq_decide.mpr (by omega)
    simp only [Pass.debit, h, if_true, Nat.sub_sub, hd, raiseIf_raiseIf, hc]

/-- Several debits of one pass are one debit of their sum (R18). -/
theorem Pass.foldl_debit (vs : List Nat) (q : Pass) :
    vs.foldl (fun q v => q.debit v) q = if vs = [] then q else q.debit vs.sum := by
  induction vs generalizing q with
  | nil => rfl
  | cons v vs ih =>
    rw [List.foldl_cons, ih, if_neg (List.cons_ne_nil v vs), List.sum_cons, Pass.debit_debit]
    split
    · next h => rw [h, List.sum_nil, Nat.add_zero]
    · rfl

theorem Pass.debit_e_le (v : Nat) (q : Pass) : (q.debit v).e ≤ q.e := by
  unfold Pass.debit
  split
  · exact Nat.sub_le ..
  · exact le_rfl

theorem Pass.foldl_debit_e_le (vs : List Nat) (q : Pass) : (vs.foldl (fun q v => q.debit v) q).e ≤ q.e := by
  rw [Pass.foldl_debit]
  split
  · exact le_rfl
  · exact q.debit_e_le _

/-! ## The aborts of a list of chutes -/

/-- The chute after its abort (R93, R94, R150). -/
def State.abortedChute (s : State) (c : ChuteIdx) : Chute :=
  match (s.chute c).state with
  | .opening => { (s.chute c).close with staleExpiry := s.strokeExpiryWaits c }
  | .holding => (s.chute c).close.countDown.cycleDone
  | .nudging =>
      if s.closedHigh c && !s.limitFallWaits c then (s.chute c).finalise .aborted
      else { s.chute c with
        state := .reclosing, nudgeTimer := none, pendingProof := some .aborted
        strokeTimer := some (s.chute c).strokeTime }
  | .closed => s.chute c
  | .closing => s.chute c
  | .reclosing => s.chute c

/-- The chutes of the list that draw from the pass. -/
def State.drawing (s : State) (cs : List ChuteIdx) (p : PassIdx) : List ChuteIdx :=
  cs.filter fun c => decide ((s.chute c).state = .holding) && decide ((s.chute c).pass = p)

/-- The abort is final at once (R150 step 3). -/
def State.finalAt (s : State) (c : ChuteIdx) : Prop :=
  (s.chute c).state = .nudging ∧ s.closedHigh c = true ∧ s.limitFallWaits c = false

theorem CycleState.moving_iff {x : CycleState} : x.moving = true ↔ x = .opening ∨ x = .holding ∨ x = .nudging := by
  cases x <;> simp [CycleState.moving]

/-- What the aborts of the chutes of a list make of an event. -/
structure Event.Aborted (ev : Event) (cs : List ChuteIdx) (a : Event) : Prop where
  frame : a.st = { ev.st with passes := a.st.passes, chutes := a.st.chutes }
  chute : ∀ c, a.st.chute c = if c ∈ cs then ev.st.abortedChute c else ev.st.chute c
  pass : ∀ p, a.st.pass p = ((ev.st.drawing cs p).map fun c => (ev.st.chute c).volume).foldl
    (fun q v => q.debit v) (ev.st.pass p)
  arb : ∀ p, p ∈ a.arb ↔ p ∈ ev.arb ∨ ∃ c ∈ cs, (ev.st.chute c).state = .holding ∧ (ev.st.chute c).pass = p
  tries : ∀ c, c ∈ a.tries ↔ c ∈ ev.tries ∨ (c ∈ cs ∧ ev.st.finalAt c)
    ∨ ((ev.st.chute c).defined = true ∧ (a.st.pass (ev.st.chute c).pass).e ≠ (ev.st.pass (ev.st.chute c).pass).e)
  touched : ∀ e, e ∈ a.touched ↔ e ∈ ev.touched
    ∨ ∃ c ∈ cs, ev.st.coversChute e c = true ∧ (ev.st.chute c).state.moving = true
  choice : a.choice = ev.choice

/-- The aborted chute depends on the chute, the lines and the queue. -/
theorem State.abortedChute_congr {s t : State} {c : ChuteIdx} (hc : t.chute c = s.chute c) (hl : t.lines = s.lines)
    (hq : t.pending = s.pending) : t.abortedChute c = s.abortedChute c := by
  simp only [State.abortedChute, hc, State.strokeExpiryWaits, State.waitsNext_congr hq, State.closedHigh,
    State.level_of_lines hl, State.limitFallWaits_congr hl hq]
  rfl

theorem State.coversChute_congr {s t : State} {e : EntryIdx} {c : ChuteIdx} (he : t.entries = s.entries)
    (hd : (t.chute c).defined = (s.chute c).defined) (hp : (t.chute c).pass = (s.chute c).pass)
    (hel : (t.chute c).elevation = (s.chute c).elevation) : t.coversChute e c = s.coversChute e c := by
  simp only [State.coversChute, State.entry, he, hd, hp, hel]
  rfl

theorem State.finalAt_congr {s t : State} {c : ChuteIdx} (hc : t.chute c = s.chute c) (hl : t.lines = s.lines)
    (hq : t.pending = s.pending) : t.finalAt c ↔ s.finalAt c := by
  simp only [State.finalAt, hc, State.closedHigh, State.level_of_lines hl, State.limitFallWaits_congr hl hq]

/-- An abort keeps what defines a chute. -/
theorem State.abortedChute_rest (s : State) (c : ChuteIdx) : (s.abortedChute c).defined = (s.chute c).defined
    ∧ (s.abortedChute c).pass = (s.chute c).pass ∧ (s.abortedChute c).elevation = (s.chute c).elevation := by
  unfold State.abortedChute
  cases (s.chute c).state with
  | nudging => dsimp only; split <;> exact ⟨rfl, rfl, rfl⟩
  | holding => exact ⟨by simp, by simp, by simp⟩
  | _ => exact ⟨rfl, rfl, rfl⟩

theorem Event.changeFill_tries (p : PassIdx) (f : Pass → Pass) (ev : Event) : (ev.changeFill p f).tries
    = if (f (ev.st.pass p)).e = (ev.st.pass p).e then ev.tries else ev.st.chutesOf p ++ ev.tries := by
  unfold Event.changeFill
  dsimp only
  split <;> rfl

theorem Event.changeFill_touched (p : PassIdx) (f : Pass → Pass) (ev : Event) :
    (ev.changeFill p f).touched = ev.touched := by
  unfold Event.changeFill
  dsimp only
  split <;> rfl

theorem Event.changeFill_choice (p : PassIdx) (f : Pass → Pass) (ev : Event) :
    (ev.changeFill p f).choice = ev.choice := by
  unfold Event.changeFill
  dsimp only
  split <;> rfl

namespace Event.Aborted

variable {ev a b : Event} {cs ds : List ChuteIdx}

theorem entries (h : ev.Aborted cs a) : a.st.entries = ev.st.entries := by rw [h.frame]
theorem lines (h : ev.Aborted cs a) : a.st.lines = ev.st.lines := by rw [h.frame]
theorem pending (h : ev.Aborted cs a) : a.st.pending = ev.st.pending := by rw [h.frame]

theorem chute_rest (h : ev.Aborted cs a) (c : ChuteIdx) : (a.st.chute c).defined = (ev.st.chute c).defined
    ∧ (a.st.chute c).pass = (ev.st.chute c).pass ∧ (a.st.chute c).elevation = (ev.st.chute c).elevation := by
  rw [h.chute]
  split
  · exact ev.st.abortedChute_rest c
  · exact ⟨rfl, rfl, rfl⟩

theorem coversChute (h : ev.Aborted cs a) (e : EntryIdx) (c : ChuteIdx) :
    a.st.coversChute e c = ev.st.coversChute e c :=
  State.coversChute_congr h.entries (h.chute_rest c).1 (h.chute_rest c).2.1 (h.chute_rest c).2.2

theorem e_le (h : ev.Aborted cs a) (p : PassIdx) : (a.st.pass p).e ≤ (ev.st.pass p).e := by
  rw [h.pass]
  exact Pass.foldl_debit_e_le ..

/-- An abort of no chute. -/
theorem nil (ev : Event) : ev.Aborted [] ev where
  frame := rfl
  chute c := by simp
  pass p := rfl
  arb p := by simp
  tries c := by simp
  touched e := by simp
  choice := rfl

/-- The aborts of two lists with no chute in common, one after the other. -/
theorem append (h : ev.Aborted cs a) (h' : a.Aborted ds b) (hdisj : cs.Disjoint ds) : ev.Aborted (cs ++ ds) b := by
  have hchute {c : ChuteIdx} (hc : c ∈ ds) : a.st.chute c = ev.st.chute c := by
    rw [h.chute, if_neg fun hcs => hdisj hcs hc]
  exact {
    frame := by
      have hf := h'.frame
      rw [h.frame] at hf
      exact hf
    chute := fun c => by
      rw [h'.chute]
      by_cases hc : c ∈ ds
      · rw [if_pos hc, if_pos (List.mem_append_right _ hc),
          State.abortedChute_congr (hchute hc) h.lines h.pending]
      · rw [if_neg hc, h.chute]
        exact if_congr (by simp [hc]) rfl rfl
    pass := fun p => by
      have hdraw : (a.st.drawing ds p).map (fun c => (a.st.chute c).volume)
          = (ev.st.drawing ds p).map fun c => (ev.st.chute c).volume := by
        have hfil : a.st.drawing ds p = ev.st.drawing ds p :=
          List.filter_congr fun c hc => by rw [hchute hc]
        rw [hfil]
        exact List.map_congr_left fun c hc => by rw [hchute (List.mem_of_mem_filter hc)]
      rw [h'.pass, hdraw, h.pass, ← List.foldl_append, ← List.map_append]
      simp only [State.drawing, List.filter_append]
    arb := fun p => by
      have hds : (∃ c ∈ ds, (a.st.chute c).state = .holding ∧ (a.st.chute c).pass = p)
          ↔ ∃ c ∈ ds, (ev.st.chute c).state = .holding ∧ (ev.st.chute c).pass = p :=
        exists_congr fun c => and_congr_right fun hc => by rw [hchute hc]
      rw [h'.arb, h.arb, hds]
      simp only [List.mem_append, or_and_right, exists_or, or_assoc]
    tries := fun c => by
      have hds : (c ∈ ds ∧ a.st.finalAt c) ↔ c ∈ ds ∧ ev.st.finalAt c :=
        and_congr_right fun hc => State.finalAt_congr (hchute hc) h.lines h.pending
      rw [h'.tries, h.tries, hds, (h.chute_rest c).1, (h.chute_rest c).2.1, List.mem_append]
      have h1 := h.e_le (ev.st.chute c).pass
      have h2 := h'.e_le (ev.st.chute c).pass
      have he : (b.st.pass (ev.st.chute c).pass).e ≠ (ev.st.pass (ev.st.chute c).pass).e
          ↔ (a.st.pass (ev.st.chute c).pass).e ≠ (ev.st.pass (ev.st.chute c).pass).e
            ∨ (b.st.pass (ev.st.chute c).pass).e ≠ (a.st.pass (ev.st.chute c).pass).e := by omega
      rw [he]
      tauto
    touched := fun e => by
      have hds : (∃ c ∈ ds, a.st.coversChute e c = true ∧ (a.st.chute c).state.moving = true)
          ↔ ∃ c ∈ ds, ev.st.coversChute e c = true ∧ (ev.st.chute c).state.moving = true :=
        exists_congr fun c => and_congr_right fun hc => by
          rw [h.coversChute, hchute hc]
      rw [h'.touched, h.touched, hds]
      simp only [List.mem_append, or_and_right, exists_or, or_assoc]
    choice := h'.choice.trans h.choice }

theorem of_still {c : ChuteIdx} (h : ¬ (ev.st.chute c).state.moving = true) : ev.Aborted [c] ev where
  frame := rfl
  chute i := by
    by_cases hi : i = c
    · subst hi
      rw [if_pos (List.mem_singleton.mpr rfl), State.abortedChute]
      cases hs : (ev.st.chute i).state <;> simp [hs, CycleState.moving] at h ⊢
    · rw [if_neg (by simpa using hi)]
  pass p := by
    have : ev.st.drawing [c] p = [] := by
      simp only [State.drawing, List.filter_cons, List.filter_nil]
      rw [if_neg fun hc => h (CycleState.moving_iff.mpr (.inr (.inl (by simpa using (Bool.and_eq_true_iff.mp hc).1))))]
    rw [this]
    rfl
  arb p := by
    simp only [List.mem_singleton, exists_eq_left]
    exact ⟨.inl, fun hp => hp.elim id fun hc => absurd (CycleState.moving_iff.mpr (.inr (.inl hc.1))) h⟩
  tries i := by
    simp only [List.mem_singleton, ne_eq, not_true_eq_false, and_false, or_false]
    exact ⟨.inl, fun hi => hi.elim id fun hc => absurd (CycleState.moving_iff.mpr (.inr (.inr hc.2.1))) (hc.1 ▸ h)⟩
  touched e := by
    simp only [List.mem_singleton, exists_eq_left]
    exact ⟨.inl, fun he => he.elim id fun hc => absurd hc.2 h⟩
  choice := rfl

/-- The abort of a gate that is not HOLDING changes that gate alone. -/
theorem of_gate {c : ChuteIdx} {f : Chute → Chute} {ts : List ChuteIdx} (hm : (ev.st.chute c).state.moving = true)
    (hh : (ev.st.chute c).state ≠ .holding) (hf : f (ev.st.chute c) = ev.st.abortedChute c)
    (hts : ∀ i, i ∈ ts ↔ i = c ∧ ev.st.finalAt c) :
    ev.Aborted [c] (((ev.update (State.modChute c f)).touchChute c).triggerTries ts) where
  frame := rfl
  chute i := by
    change (ev.st.modChute c f).chute i = _
    rw [State.modChute_chute]
    by_cases hi : i = c
    · subst hi
      rw [if_pos rfl, if_pos (List.mem_singleton.mpr rfl), hf]
    · rw [if_neg hi, if_neg (by simpa using hi)]
  pass p := by
    have : ev.st.drawing [c] p = [] := by
      simp only [State.drawing, List.filter_cons, List.filter_nil]
      rw [if_neg fun hc => hh (by simpa using (Bool.and_eq_true_iff.mp hc).1)]
    rw [this]
    rfl
  arb p := by
    simp only [List.mem_singleton, exists_eq_left]
    exact ⟨.inl, fun hp => hp.elim id fun hc => absurd hc.1 hh⟩
  tries i := by
    change i ∈ ts ++ ev.tries ↔ _
    have hp (p : PassIdx) : ((((ev.update (State.modChute c f)).touchChute c).triggerTries ts).st.pass p).e
        = (ev.st.pass p).e := rfl
    rw [List.mem_append, hts, hp]
    simp only [List.mem_singleton, ne_eq, not_true_eq_false, and_false, or_false]
    constructor
    · rintro (⟨rfl, h⟩ | h)
      · exact .inr ⟨rfl, h⟩
      · exact .inl h
    · rintro (h | ⟨rfl, h⟩)
      · exact .inr h
      · exact .inl ⟨rfl, h⟩
  touched e := by
    have hcov : (ev.st.modChute c f).coversChute e c = ev.st.coversChute e c := by
      obtain ⟨hd, hp, he⟩ := ev.st.abortedChute_rest c
      refine State.coversChute_congr rfl ?_ ?_ ?_ <;> rw [State.modChute_chute_self, hf] <;> assumption
    change e ∈ (List.finRange 24).filter ((ev.st.modChute c f).coversChute · c) ++ ev.touched ↔ _
    simp only [List.mem_append, List.mem_filter, List.mem_finRange, true_and, hcov, List.mem_singleton, exists_eq_left,
      hm, and_true]
    exact or_comm
  choice := rfl

/-- The abort of a HOLDING gate closes it with its debit (R93, R128 step 7). -/
theorem of_holding {c : ChuteIdx} (hh : (ev.st.chute c).state = .holding) : ev.Aborted [c]
    ((((ev.update (State.modChute c Chute.close)).touchChute c).takeDebit c).triggerArbiter (ev.st.chute c).pass) := by
  have haborted : ev.st.abortedChute c = (ev.st.chute c).close.countDown.cycleDone := by
    simp only [State.abortedChute, hh]
  have hcov (e : EntryIdx) : (ev.st.modChute c Chute.close).coversChute e c = ev.st.coversChute e c := by
    refine State.coversChute_congr rfl ?_ ?_ ?_ <;> rw [State.modChute_chute_self] <;> rfl
  have hdraw (p : PassIdx) : ev.st.drawing [c] p = if (ev.st.chute c).pass = p then [c] else [] := by
    simp only [State.drawing, List.filter_cons, List.filter_nil, hh, decide_true, Bool.true_and, decide_eq_true_eq]
  set gone : Event := (ev.update (State.modChute c Chute.close)).touchChute c with hgone
  have hx : gone.st.chute c = (ev.st.chute c).close := State.modChute_chute_self c Chute.close ev.st
  have hst : ((gone.takeDebit c).triggerArbiter (ev.st.chute c).pass).st
      = (gone.st.modChute c fun x => x.countDown.cycleDone).modPass (ev.st.chute c).pass
        (Pass.debit (ev.st.chute c).volume) := by
    rw [Event.triggerArbiter_st, Event.takeDebit_st, hx]
    rfl
  have hq (p : PassIdx) : ((gone.takeDebit c).triggerArbiter (ev.st.chute c).pass).st.pass p
      = if p = (ev.st.chute c).pass then (ev.st.pass p).debit (ev.st.chute c).volume else ev.st.pass p := by
    rw [hst, State.modPass_pass]
    split
    · next h => subst h; rfl
    · rfl
  exact {
    frame := by rw [hst]; rfl
    chute := fun i => by
      rw [hst, State.modPass_chute, State.modChute_chute]
      by_cases hi : i = c
      · subst hi
        rw [if_pos rfl, if_pos (List.mem_singleton.mpr rfl), hx, haborted]
      · rw [if_neg hi, if_neg (by simpa using hi)]
        exact State.modChute_chute_ne _ _ _ hi
    pass := fun p => by
      rw [hq, hdraw]
      by_cases hp : (ev.st.chute c).pass = p
      · rw [if_pos hp.symm, if_pos hp]
        rfl
      · rw [if_neg fun h => hp h.symm, if_neg hp]
        rfl
    arb := fun p => by
      simp only [List.mem_singleton, exists_eq_left, hh, true_and]
      change p ∈ (ev.st.chute c).pass :: (gone.takeDebit c).arb ↔ _
      rw [Event.takeDebit, Event.changeFill_arb, hx]
      change p ∈ (ev.st.chute c).pass :: (if _ then ev.arb else (ev.st.chute c).pass :: ev.arb) ↔ _
      split
      · rw [List.mem_cons, eq_comm, or_comm]
      · rw [List.mem_cons, List.mem_cons, eq_comm (a := p)]
        tauto
    tries := fun i => by
      have hfin : ¬ (i ∈ [c] ∧ ev.st.finalAt i) := by
        rintro ⟨hi, hf, -⟩
        rw [List.mem_singleton.mp hi, hh] at hf
        cases hf
      have hof (p : PassIdx) : i ∈ (gone.st.modChute c fun x => x.countDown.cycleDone).chutesOf p
          ↔ (ev.st.chute i).defined = true ∧ (ev.st.chute i).pass = p := by
        have hrest : ((gone.st.modChute c fun x => x.countDown.cycleDone).chute i).defined = (ev.st.chute i).defined
            ∧ ((gone.st.modChute c fun x => x.countDown.cycleDone).chute i).pass = (ev.st.chute i).pass := by
          by_cases hi : i = c
          · subst hi
            rw [State.modChute_chute_self, hx]
            exact ⟨by simp [Chute.close], by simp [Chute.close]⟩
          · rw [State.modChute_chute_ne _ _ _ hi]
            exact ⟨congrArg Chute.defined (State.modChute_chute_ne _ _ _ hi),
              congrArg Chute.pass (State.modChute_chute_ne _ _ _ hi)⟩
        simp only [State.chutesOf, List.mem_filter, List.mem_finRange, true_and, Bool.and_eq_true,
          decide_eq_true_eq, hrest.1, hrest.2]
      change i ∈ (gone.takeDebit c).tries ↔ _
      rw [or_iff_right (a := i ∈ [c] ∧ ev.st.finalAt i) hfin, hq, Event.takeDebit, Event.changeFill_tries, hx]
      change i ∈ (if ((ev.st.pass (ev.st.chute c).pass).debit (ev.st.chute c).volume).e
        = (ev.st.pass (ev.st.chute c).pass).e then ev.tries
        else (gone.st.modChute c fun x => x.countDown.cycleDone).chutesOf (ev.st.chute c).pass
          ++ ev.tries) ↔ _
      by_cases hp : (ev.st.chute i).pass = (ev.st.chute c).pass
      · rw [if_pos hp, hp]
        split
        · next he => simp [he]
        · next he => simp [he, hof, hp, or_comm]
      · rw [if_neg hp]
        split
        · simp
        · simp [hof, hp]
    touched := fun e => by
      change e ∈ (gone.takeDebit c).touched ↔ _
      rw [Event.takeDebit, Event.changeFill_touched]
      change e ∈ (List.finRange 24).filter ((ev.st.modChute c Chute.close).coversChute · c) ++ ev.touched ↔ _
      simp only [List.mem_append, List.mem_filter, List.mem_finRange, true_and, hcov, List.mem_singleton,
        exists_eq_left, CycleState.moving, hh, and_true]
      exact or_comm
    choice := Event.changeFill_choice .. }

/-- The abort of one chute. -/
theorem abort (c : ChuteIdx) (ev : Event) : ev.Aborted [c] (ev.abortChute c) := by
  cases h : (ev.st.chute c).state with
  | closed =>
    rw [Event.abortChute_of_still (.inl h)]
    exact of_still (by simp [CycleState.moving, h])
  | closing =>
    rw [Event.abortChute_of_still (.inr (.inl h))]
    exact of_still (by simp [CycleState.moving, h])
  | reclosing =>
    rw [Event.abortChute_of_still (.inr (.inr h))]
    exact of_still (by simp [CycleState.moving, h])
  | opening =>
    rw [Event.abortChute_of_opening h]
    exact of_gate (f := fun x => { x.close with staleExpiry := ev.st.strokeExpiryWaits c }) (ts := [])
      (CycleState.moving_iff.mpr (.inl h))      (by simp [h]) (by simp only [State.abortedChute, h])
      fun i => by simp [State.finalAt, h]
  | holding =>
    rw [Event.abortChute_of_holding h]
    exact of_holding h
  | nudging =>
    have haborted : ev.st.abortedChute c = if (ev.st.closedHigh c && !ev.st.limitFallWaits c) = true then
        (ev.st.chute c).finalise .aborted else { ev.st.chute c with
          state := .reclosing, nudgeTimer := none, pendingProof := some .aborted
          strokeTimer := some (ev.st.chute c).strokeTime } := by
      simp only [State.abortedChute, h]
    by_cases hf : (ev.st.closedHigh c && !ev.st.limitFallWaits c) = true
    · obtain ⟨hc, hw⟩ := Bool.and_eq_true_iff.mp hf
      rw [Bool.not_eq_true'] at hw
      rw [Event.abortChute_of_seated h hc hw]
      rw [if_pos hf] at haborted
      exact of_gate (ts := [c]) (CycleState.moving_iff.mpr (.inr (.inr h))) (by simp [h]) haborted.symm
        fun i => by simp [State.finalAt, h, hc, hw]
    · have hoff : ev.st.closedHigh c = false ∨ ev.st.limitFallWaits c = true := by
        simpa [Bool.and_eq_true, Classical.or_iff_not_imp_left] using hf
      rw [Event.abortChute_of_unseated h hoff]
      rw [if_neg hf] at haborted
      refine of_gate (f := fun x => { x with
        state := .reclosing, nudgeTimer := none, pendingProof := some .aborted
        strokeTimer := some x.strokeTime }) (ts := []) (CycleState.moving_iff.mpr (.inr (.inr h))) (by simp [h]) haborted.symm fun i => ?_
      simp only [List.not_mem_nil, false_iff, State.finalAt]
      rintro ⟨-, -, hc, hw⟩
      exact hf (by simp [hc, hw])

theorem foldl_abort (cs : List ChuteIdx) (hn : cs.Nodup) (ev : Event) :
    ev.Aborted cs (cs.foldl (fun ev c => ev.abortChute c) ev) := by
  induction cs generalizing ev with
  | nil => exact .nil ev
  | cons c cs ih =>
    obtain ⟨hc, hn⟩ := List.nodup_cons.mp hn
    exact (Event.Aborted.abort c ev).append (ds := cs) (ih hn _) (by simpa using hc)

end Event.Aborted

theorem Event.abortWhere_aborted (which : ChuteIdx → Bool) (ev : Event) :
    ev.Aborted ((List.finRange 8).filter which) (ev.abortWhere which) :=
  .foldl_abort _ ((List.nodup_finRange 8).filter _) ev


/-! ## The aborts of one event, from no event before -/

/-- The debit of a draw on the chute's side (R87, R89). -/
theorem Chute.countDown_cycleDone_eq (x : Chute) : x.countDown.cycleDone = { x with
    count := if x.count = 255 then 255 else x.count - 1
    cycles := min (x.cycles + 1) 65535
    conds :=
      let counted := if x.count = 1 then raise .orderDone x.conds else x.conds
      if ¬ (x.interval ≠ 0 ∧ x.interval ≤ x.cycles)
          ∧ (x.interval ≠ 0 ∧ x.interval ≤ min (x.cycles + 1) 65535) then
        raise .proofDue counted
      else counted } := by
  have hdue : ((!decide (x.interval ≠ 0 ∧ x.interval ≤ x.cycles))
      && decide (x.interval ≠ 0 ∧ x.interval ≤ min (x.cycles + 1) 65535)) = true
      ↔ ¬ (x.interval ≠ 0 ∧ x.interval ≤ x.cycles)
          ∧ (x.interval ≠ 0 ∧ x.interval ≤ min (x.cycles + 1) 65535) := by
    simp only [Bool.and_eq_true, Bool.not_eq_true', decide_eq_false_iff_not, decide_eq_true_eq]
  unfold Chute.countDown Chute.cycleDone
  simp only [Config.openOrder, Config.wordMax, Chute.proofDue]
  by_cases hopen : x.count = 255
  · simp only [hopen, if_true, raiseIf, hdue]
    rfl
  · simp only [if_neg hopen, raiseIf, hdue, decide_eq_true_eq]

theorem sum_map_filter {α : Type} (P : α → Bool) (f : α → Nat) (l : List α) :
    ((l.filter P).map f).sum = (l.map fun a => if P a then f a else 0).sum := by
  induction l with
  | nil => rfl
  | cons a l ih => cases h : P a <;> simp [h, ih]

/-- The volume drawn from a pass by the HOLDING gates an event aborts (R93). -/
theorem State.drawing_volume (s : State) (which : ChuteIdx → Bool) (p : PassIdx) :
    ((s.drawing ((List.finRange 8).filter which) p).map fun c => (s.chute c).volume).sum
      = ((List.finRange 8).map fun c : ChuteIdx =>
        if which c ∧ (s.chute c).state = .holding ∧ (s.chute c).pass = p then (s.chute c).volume else 0).sum := by
  rw [State.drawing, List.filter_filter, sum_map_filter]
  refine congrArg List.sum (List.map_congr_left fun c _ => if_congr ?_ rfl rfl)
  simp only [Bool.and_eq_true, decide_eq_true_eq]
  tauto

theorem State.drawing_eq_nil_iff (s : State) (which : ChuteIdx → Bool) (p : PassIdx) :
    (s.drawing ((List.finRange 8).filter which) p).map (fun c => (s.chute c).volume) ≠ []
      ↔ ∃ c, which c = true ∧ (s.chute c).state = .holding ∧ (s.chute c).pass = p := by
  rw [Ne, List.map_eq_nil_iff, State.drawing, List.filter_filter, List.filter_eq_nil_iff]
  simp only [List.mem_finRange, true_implies, Bool.and_eq_true, decide_eq_true_eq, not_forall, not_not]
  exact exists_congr fun c => by tauto

theorem Pass.debit_eq (v : Nat) (q : Pass) : q.debit v = { q with
    e := if q.defined = true ∧ q.known = true then q.e - v else q.e
    d := if (q.defined = true ∧ q.known = true) ∧ q.state = .running then min (q.d + v) 16777215 else q.d
    conds := if (q.defined = true ∧ q.known = true) ∧ q.e < v then raise .floor q.conds else q.conds } := by
  by_cases h : q.defined = true ∧ q.known = true
  · simp only [Pass.debit, h, Bool.and_self, and_self, true_and, if_true, satVolume, Config.volumeMax, raiseIf,
      decide_eq_true_eq]
  · have hb : (q.defined && q.known) = false := by simpa using h
    simp [Pass.debit, hb, h]

section

variable (s : State) (which : ChuteIdx → Bool)

theorem abortWhere_chute (c : ChuteIdx) : ((Event.of s).abortWhere which).st.chute c
    = if which c = true then s.abortedChute c else s.chute c := by
  rw [(Event.abortWhere_aborted which (Event.of s)).chute]
  exact if_congr (by simp) rfl rfl

/-- The pass is debited by the volumes of the gates that were HOLDING, once. -/
theorem abortWhere_pass (p : PassIdx) : ((Event.of s).abortWhere which).st.pass p
    = if ∃ c, which c = true ∧ (s.chute c).state = .holding ∧ (s.chute c).pass = p then
        (s.pass p).debit ((List.finRange 8).map fun c : ChuteIdx =>
          if which c ∧ (s.chute c).state = .holding ∧ (s.chute c).pass = p then (s.chute c).volume else 0).sum
      else s.pass p := by
  refine ((Event.abortWhere_aborted which (Event.of s)).pass p).trans ((Pass.foldl_debit _ _).trans ?_)
  rw [← ite_not]
  exact if_congr (s.drawing_eq_nil_iff which p) (congrArg (Pass.debit · _) (s.drawing_volume which p)) rfl

theorem abortWhere_frame : ((Event.of s).abortWhere which).st
    = { s with
      passes := ((Event.of s).abortWhere which).st.passes, chutes := ((Event.of s).abortWhere which).st.chutes } :=
  (Event.abortWhere_aborted which (Event.of s)).frame

theorem abortWhere_arb (p : PassIdx) : p ∈ ((Event.of s).abortWhere which).arb
    ↔ ∃ c, which c = true ∧ (s.chute c).state = .holding ∧ (s.chute c).pass = p := by
  rw [(Event.abortWhere_aborted which (Event.of s)).arb]
  simp [Event.of]

theorem abortWhere_tries (c : ChuteIdx) : c ∈ ((Event.of s).abortWhere which).tries
    ↔ (which c = true ∧ s.finalAt c) ∨ ((s.chute c).defined = true
      ∧ (((Event.of s).abortWhere which).st.pass (s.chute c).pass).e ≠ (s.pass (s.chute c).pass).e) := by
  rw [(Event.abortWhere_aborted which (Event.of s)).tries]
  simp [Event.of]

theorem abortWhere_touched (e : EntryIdx) : e ∈ ((Event.of s).abortWhere which).touched
    ↔ ∃ c, which c = true ∧ s.coversChute e c = true ∧ (s.chute c).state.moving = true := by
  rw [(Event.abortWhere_aborted which (Event.of s)).touched]
  simp [Event.of]

end

/-- The fall of the closed limit waits, as R150's table has it (log 28). -/
theorem State.limitFallWaits_eq (s : State) (c : ChuteIdx) : s.limitFallWaits c
    = (s.lineOf (.closedLimit c)).any fun i =>
      !(s.line i).raw && (s.line i).timer.isSome && s.waitsNext (.debounceExpiry i) := by
  unfold State.limitFallWaits
  cases s.lineOf (.closedLimit c) with
  | none => rfl
  | some i => simp only [Option.any_some]; ac_rfl

/-- Settles O40: one chute's abort, and the aborts of two lists that share no chute, composed along the list; several
debits of one pass are one debit of their sum. -/
theorem abortsCloseGatesAndDebitOnce : Obligations.AbortsCloseGatesAndDebitOnce := by
  intro s which w u drawn taken falling due
  have hchute (c : ChuteIdx) : u.st.chute c = if which.getLsbD c = true then s.abortedChute c else s.chute c :=
    abortWhere_chute s _ c
  have haborted {c : ChuteIdx} (h : which.getLsbD c = true) : u.st.chute c = s.abortedChute c :=
    (hchute c).trans (if_pos h)
  have hpass (p : PassIdx) : u.st.pass p = { s.pass p with
      e := if taken p then (s.pass p).e - drawn p else (s.pass p).e
      d := if taken p ∧ (s.pass p).state = .running then min ((s.pass p).d + drawn p) 16777215 else (s.pass p).d
      conds := if taken p ∧ (s.pass p).e < drawn p then raise .floor (s.pass p).conds else (s.pass p).conds } := by
    refine (abortWhere_pass s _ p).trans ?_
    by_cases h : ∃ c : ChuteIdx, which.getLsbD c = true ∧ (s.chute c).state = .holding ∧ (s.chute c).pass = p
    · rw [if_pos h, Pass.debit_eq]
      simp only [taken, h, and_true]
      rfl
    · rw [if_neg h]
      simp only [taken, h, and_false, false_and, if_false]
  have hfalling (c : ChuteIdx) : s.limitFallWaits c = falling c := s.limitFallWaits_eq c
  have hnudging {c : ChuteIdx} (hw : which.getLsbD c = true) (hs : (s.chute c).state = .nudging) : u.st.chute c
      = if (s.closedHigh c && !s.limitFallWaits c) = true then (s.chute c).finalise .aborted else { s.chute c with
          state := .reclosing, nudgeTimer := none, pendingProof := some .aborted
          strokeTimer := some (s.chute c).strokeTime } := by
    rw [haborted hw]
    simp only [State.abortedChute, hs]
  refine ⟨abortWhere_frame s _, fun c hc => ?still, fun c hw hs => ?opening, rfl, ?expiry, fun c hw hs => ?holding,
    fun c hw hs => ⟨fun hl hf => ?seated, fun h => ?unseated⟩, hpass, fun p hp => ?kept, fun p hr hd hk hle => ?grown,
    abortWhere_arb s _, fun c => ?tries, fun e => ?touched,
    (Event.abortWhere_aborted _ (Event.of s)).choice⟩
  case still =>
    rw [hchute]
    rcases hc with hw | hs | hs | hs
    · rw [hw]
      rfl
    all_goals
      split
      · simp only [State.abortedChute, hs]
      · rfl
  case opening =>
    rw [haborted hw]
    simp only [State.abortedChute, hs]
    rfl
  case expiry => cases w <;> rfl
  case holding =>
    rw [haborted hw]
    simp only [State.abortedChute, hs]
    exact Chute.countDown_cycleDone_eq _
  case seated =>
    rw [hnudging hw hs, if_pos (by rw [State.closedHigh, hl, hfalling, hf]; rfl)]
    rfl
  case unseated =>
    rw [hnudging hw hs, if_neg]
    rw [State.closedHigh, hfalling, Bool.and_eq_true, Bool.not_eq_true']
    rintro ⟨hl, hf⟩
    rcases h with h | h
    · exact absurd (h.symm.trans hl) (by decide)
    · exact absurd (h.symm.trans hf) (by decide)
  case kept =>
    rw [hpass]
    exact if_neg fun h => hp h.2
  case grown =>
    rw [hpass]
    change (if taken p ∧ (s.pass p).state = .running then _ else _) = _
    by_cases ht : taken p
    · rw [if_pos ⟨ht, hr⟩]
    · have hdrawn : drawn p = 0 := by
        refine List.sum_eq_zero fun n hn => ?_
        obtain ⟨c, -, rfl⟩ := List.mem_map.mp hn
        exact if_neg fun h => ht ⟨hd, hk, c, h⟩
      rw [if_neg fun h => ht h.1, hdrawn, Nat.add_zero, min_eq_left hle]
  case touched =>
    simp only [abortWhere_touched s, CycleState.moving_iff, u]
  case tries =>
    refine (abortWhere_tries s _ c).trans (or_congr ?_ Iff.rfl)
    simp only [State.finalAt, State.closedHigh, hfalling]

end Sys2Proof.Machine
end

section
/-! The plant outside RUN, the gates of a HUNG pass, the timers of chutes and breaker, the levels, the jobs, the
scanner and the noted expiries through every step (R34, R47, R50, R93, R105, R112, R150, R155; log 31). -/

namespace Sys2Proof.Machine

/-! ## What one change makes of one chute and of one tip point -/

theorem Event.retire_frame (e : EntryIdx) (ev : Event) : ∃ ps es,
    (ev.retire e).st = { ev.st with passes := ps, entries := es } := by
  rw [Event.retire_st]
  rcases ev.cleared_cases e with ⟨h, -⟩ | ⟨p, -, -, h⟩
  · rw [h]
    exact ⟨_, _, rfl⟩
  · rw [h, Event.endService_st]
    exact ⟨_, _, rfl⟩

/-- What one change makes of one chute. -/
inductive Chute.Steps (s : State) (c : ChuteIdx) : Chute → Prop
  | evolves {y : Chute} (h : Chute.Evolves s c (s.chute c) y) : Chute.Steps s c y
  | define (p : PassIdx) (elevation volume : Nat) (hc : (s.chute c).defined = true → (s.chute c).state = .closed) :
      Chute.Steps s c (Chute.define p elevation volume (s.chute c))

theorem Chute.Steps.refl (s : State) (c : ChuteIdx) : Chute.Steps s c (s.chute c) := .evolves (.refl ..)

theorem Change.chute_steps {s t : State} (hc : Change s t) (c : ChuteIdx) : Chute.Steps s c (t.chute c) := by
  cases hc with
  | chutes cs h => exact .evolves (h c)
  | defineTip => split <;> exact .refl s c
  | defineChute i p elevation volume hi =>
    rw [State.modChute_chute]
    split
    case isTrue h => subst h; exact .define p elevation volume hi
    case isFalse => exact .refl s c
  | setup =>
    rw [State.enterSetup, State.mapChutes_chute]
    exact .evolves (.of_same rfl rfl rfl rfl rfl rfl rfl rfl rfl id)
  | retire e hev =>
    subst hev
    obtain ⟨ps, es, h⟩ := Event.retire_frame e ‹_›
    rw [h]
    exact .refl _ c
  | _ => exact .refl s c

/-- A chute defined anew, or again in CLOSED, is CLOSED (R74, R75). -/
theorem Chute.define_state {p : PassIdx} {elevation volume : Nat} {x : Chute}
    (h : x.defined = true → x.state = .closed) : (Chute.define p elevation volume x).state = .closed := by
  unfold Chute.define
  dsimp only
  split
  case isTrue hd => exact h hd
  case isFalse => rfl

theorem Chute.define_lawful {p : PassIdx} {elevation volume : Nat} {x : Chute} (h : x.lawful = true) :
    (Chute.define p elevation volume x).lawful = true := by
  unfold Chute.define
  dsimp only
  split
  · exact h
  · rfl

theorem Chute.define_staleExpiry (p : PassIdx) (elevation volume : Nat) (x : Chute) :
    (Chute.define p elevation volume x).staleExpiry = x.staleExpiry := by
  unfold Chute.define
  dsimp only
  split <;> rfl

/-- What one change makes of one tip point. -/
inductive Tip.Steps (s : State) (i : TipIdx) : Tip → Prop
  | evolves {y : Tip} (h : (s.tip i).Evolves y) : Tip.Steps s i y
  | calls (state : TipState) (source : CallSource) (timer : Timer)
      (hg : state = .granted → (s.tip i).state = .granted ∨ ∃ p, s.chooseCall p = some i) :
      Tip.Steps s i { s.tip i with state := state, source := source, timer := timer }
  | define {x : Tip} (p : PassIdx) (elevation load level : Nat) (grizzly : Option StationIdx)
      (hx : x = s.tip i ∨ x = { s.tip i with state := .idle }) (hl : level ≤ 7)
      (hm : s.station.mode = .setup ∨ (s.tip i).defined = false ∨ (s.pass (s.tip i).pass).state = .outOfService) :
      Tip.Steps s i (Tip.define p elevation load level grizzly x)

theorem Tip.Steps.refl (s : State) (i : TipIdx) : Tip.Steps s i (s.tip i) := .evolves (.refl _)

/-- A change of the state and the timer of one tip point. -/
theorem Tip.Steps.modTip {s : State} {t : TipIdx} {f : Tip → Tip} (h : Tip.Steps s t (f (s.tip t))) (i : TipIdx) :
    Tip.Steps s i ((s.modTip t f).tip i) := by
  rw [State.modTip_tip]
  split
  case isTrue hi => subst hi; exact h
  case isFalse => exact .refl s i

theorem State.withdrawCall_tip (t i : TipIdx) (s : State) : (s.withdrawCall t).tip i
    = if i = t then { s.tip i with state := .idle } else s.tip i := by
  rw [State.withdrawCall, State.modTip_tip, State.modPass_tip]
  split
  case isTrue h => rw [h]
  case isFalse => rfl

theorem Change.tip_steps {s t : State} (hc : Change s t) (i : TipIdx) : Tip.Steps s i (t.tip i) := by
  cases hc with
  | tips ts h => exact .evolves (h i)
  | placeCall j source =>
    exact Tip.Steps.modTip (s := s) (f := fun x => { x with state := .waiting, source := source })
      (.calls _ _ _ fun h => by cases h) i
  | withdraw j =>
    exact Tip.Steps.modTip (s := s) (f := fun x => { x with state := .idle }) (.calls _ _ _ fun h => by cases h) i
  | ungrant j =>
    exact Tip.Steps.modTip (s := s) (f := fun x => { x with state := .idle, timer := none })
      (.calls _ _ _ fun h => by cases h) i
  | requeue j =>
    exact Tip.Steps.modTip (s := s) (f := fun x => { x with state := .waiting, timer := none })
      (.calls _ _ _ fun h => by cases h) i
  | grant p j hj =>
    exact Tip.Steps.modTip (s := s) (f := fun x => { x with state := .granted, timer := some x.timeout })
      (.calls _ _ _ fun _ => .inr ⟨p, hj⟩) i
  | defineTip j p elevation load level grizzly hm hl =>
    rw [State.modTip_tip]
    split
    case isTrue hi =>
      subst hi
      refine .define p elevation load level grizzly ?_ hl hm
      split
      · exact .inr ((s.withdrawCall_tip i i).trans (if_pos rfl))
      · exact .inl rfl
    case isFalse hi =>
      split
      · rw [State.withdrawCall_tip, if_neg hi]
        exact .refl s i
      · exact .refl s i
  | setup =>
    rw [State.enterSetup, State.mapChutes_tip, State.mapTips_tip]
    refine .calls _ _ _ fun h => .inl ?_
    by_cases hw : (s.tip i).state = .waiting
    · rw [State.mapPasses_tip, State.modStation_tip, if_pos hw] at h
      cases h
    · rw [State.mapPasses_tip, State.modStation_tip, if_neg hw] at h
      exact h
  | retire e hev =>
    subst hev
    obtain ⟨ps, es, h⟩ := Event.retire_frame e ‹_›
    rw [h]
    exact .refl _ i
  | _ => exact .refl s i

/-! ## The plant outside RUN (R155) -/

/-- No gate moves, no tip point is GRANTED, and the breaker is neither TRAVELLING nor BREAKING. -/
def State.Safe (s : State) : Prop :=
  (∀ c, (s.chute c).state.moving = false) ∧ (∀ t, (s.tip t).state ≠ .granted) ∧ s.breaker.state.goes = false

theorem CycleState.moving_eq_false_iff {x : CycleState} :
    x.moving = false ↔ x ≠ .opening ∧ x ≠ .holding ∧ x ≠ .nudging := by
  cases x <;> simp [CycleState.moving]

theorem BreakerState.goes_eq_false_iff {b : BreakerState} : b.goes = false ↔ b ≠ .travelling ∧ b ≠ .breaking := by
  cases b <;> simp [BreakerState.goes]

theorem State.plantSafe_iff {s : State} : s.plantSafe = true ↔ s.station.mode = .run ∨ s.Safe := by
  simp only [State.plantSafe, State.Safe, Bool.or_eq_true, Bool.and_eq_true, decide_eq_true_eq, List.all_eq_true,
    List.mem_finRange, true_imp_iff, CycleState.moving_eq_false_iff, BreakerState.goes_eq_false_iff, and_assoc]

/-- Within an event a change leaves RUN in RUN. -/
theorem Change.run {s t : State} (hc : Change s t) (h : s.station.mode = .run) : t.station.mode = .run := by
  cases hc with
  | control x hx => exact hx.trans h
  | start => rfl
  | resume => rfl
  | setup hm => exact absurd (hm.symm.trans h) (by decide)
  | defineTip => split <;> exact h
  | retire e hev =>
    subst hev
    obtain ⟨ps, es, heq⟩ := Event.retire_frame e ‹_›
    rw [heq]
    exact h
  | _ => exact h

/-- The breaker starts in RUN alone. -/
theorem Change.goes {s t : State} (hc : Change s t) (h : t.breaker.state.goes = true) :
    s.breaker.state.goes = true ∨ s.station.mode = .run := by
  cases hc with
  | breaker b sc hb => exact hb.starts h
  | defineTip => split at h <;> exact .inl h
  | retire e hev =>
    subst hev
    obtain ⟨ps, es, heq⟩ := Event.retire_frame e ‹_›
    rw [heq] at h
    exact .inl h
  | _ => exact .inl h

theorem State.eligible_of_chooseCall {s : State} {p : PassIdx} {i : TipIdx} (h : s.chooseCall p = some i) :
    (s.tip i).defined = true ∧ s.station.mode = .run ∧ (s.pass (s.tip i).pass).state = .running
      ∧ s.tipCovered i = false ∧ s.blocked i = false := by
  have he := (State.chooseCall_mem h).2
  simpa only [State.eligible, Bool.and_eq_true, decide_eq_true_eq, Bool.not_eq_true', and_assoc] using he

/-- A grant is kept or made in RUN. -/
theorem Tip.Steps.granted {s : State} {i : TipIdx} {y : Tip} (h : Tip.Steps s i y) (hg : y.state = .granted) :
    (s.tip i).state = .granted ∨ ∃ p, s.chooseCall p = some i := by
  cases h with
  | evolves h => exact .inl (h.state.symm.trans hg)
  | calls state source timer hs => exact hs hg
  | @define x p elevation load level grizzly hx =>
    unfold Tip.define at hg
    dsimp only at hg
    split at hg
    · rcases hx with rfl | rfl
      · exact .inl hg
      · cases hg
    · cases hg

theorem Chute.Steps.moving {s : State} {c : ChuteIdx} {y : Chute} (h : Chute.Steps s c y)
    (hm : y.state.moving = true) : (s.chute c).state.moving = true ∧ y.pass = (s.chute c).pass
      ∨ s.station.mode = .run ∧ (s.pass y.pass).state ≠ .hung := by
  cases h with
  | evolves h =>
    rcases h.starts hm with hx | ⟨hr, hp⟩
    · exact .inl ⟨hx, h.pass⟩
    · exact .inr ⟨hr, h.pass ▸ hp⟩
  | define p elevation volume hc =>
    rw [Chute.define_state hc] at hm
    cases hm

theorem Change.plantSafe {s t : State} (hc : Change s t) (h : s.plantSafe = true) : t.plantSafe = true := by
  rw [State.plantSafe_iff] at h ⊢
  by_cases hr : s.station.mode = .run
  · exact .inl (hc.run hr)
  · obtain ⟨hchute, htip, hbreaker⟩ := h.resolve_left hr
    refine .inr ⟨fun c => ?_, fun i hg => ?_, ?_⟩
    · by_contra hm
      rcases (hc.chute_steps c).moving (by simpa using hm) with ⟨hx, -⟩ | ⟨hrun, -⟩
      · exact absurd ((hchute c).symm.trans hx) (by decide)
      · exact hr hrun
    · rcases (hc.tip_steps i).granted hg with hx | ⟨p, hp⟩
      · exact htip i hx
      · exact hr (State.eligible_of_chooseCall hp).2.1
    · by_contra hg
      rcases hc.goes (by simpa using hg) with hx | hrun
      · exact absurd (hbreaker.symm.trans hx) (by decide)
      · exact hr hrun

theorem State.abortedChute_moving (s : State) (c : ChuteIdx) : (s.abortedChute c).state.moving = false := by
  unfold State.abortedChute
  split
  · rfl
  · simp [Chute.close, CycleState.moving]
  · split <;> rfl
  all_goals next h => rw [h]; rfl

/-- A halted breaker is at work no more (R120). -/
theorem Event.haltedBreaker_frame (ev : Event) : ∃ b sc,
    ev.haltedBreaker.st = { ev.st with breaker := b, scanner := sc } ∧ b.state.goes = false
      ∧ (ev.st.breaker.state = .parked → b.state = .parked) := by
  unfold Event.haltedBreaker
  split
  case isTrue hg =>
    have hp (hp : ev.st.breaker.state = .parked) : BreakerState.returning = .parked := by simp [hp] at hg
    rcases ev.moveBreaker_st fun b => { b.sendHome with jobs := [] } with h | h
    · exact ⟨_, ev.st.scanner, h, rfl, hp⟩
    · exact ⟨_, _, h.trans (State.wakeScanner_eq _), rfl, hp⟩
  case isFalse h => exact ⟨_, ev.st.scanner, rfl, BreakerState.goes_eq_false_iff.mpr (not_or.mp h), id⟩

theorem Event.abortWhere_tip (which : ChuteIdx → Bool) (ev : Event) (t : TipIdx) :
    (ev.abortWhere which).st.tip t = ev.st.tip t := by
  rw [(Event.abortWhere_aborted which ev).frame]
  rfl

theorem Event.abortAll_moving (ev : Event) (c : ChuteIdx) :
    ((ev.abortWhere fun _ => true).st.chute c).state.moving = false := by
  rw [(Event.abortWhere_aborted _ ev).chute, if_pos (by simp)]
  exact State.abortedChute_moving ..

/-- Where every GRANTED tip point is revoked none is GRANTED after. -/
theorem Event.revokeWhere_not_granted {which : TipIdx → Bool} {ev : Event} {t : TipIdx}
    (h : (ev.st.tip t).state = .granted → which t = true) : ((ev.revokeWhere which).st.tip t).state ≠ .granted := by
  rw [Event.revokeWhere_tip]
  split
  case isTrue =>
    unfold State.revokedTip
    dsimp only
    split <;> simp
  case isFalse hn => exact fun hg => hn ⟨h hg, hg⟩

theorem Event.haltBreaker_safe {ev : Event} (hc : ∀ c, (ev.st.chute c).state.moving = false)
    (ht : ∀ t, (ev.st.tip t).state ≠ .granted) : ev.haltBreaker.st.Safe := by
  obtain ⟨b, sc, hst, hb, -⟩ := ev.haltedBreaker_frame
  rw [Event.haltBreaker_st, hst]
  exact ⟨hc, ht, hb⟩

/-- A halt leaves the plant safe (R155, R162). -/
theorem Event.halt_safe (cause : HaltCause) (ev : Event) : (ev.halt cause).st.Safe :=
  Event.haltBreaker_safe (Event.abortAll_moving _) fun t => by
    rw [Event.abortWhere_tip]
    exact Event.revokeWhere_not_granted fun hg => decide_eq_true hg

theorem Law.plantSafe : Law fun s => s.plantSafe = true where
  outer _ _ _ _ _ _ h := h
  reset := by decide
  stage s t hst h := by
    have hkeep {a b : State} (hc : Changes a b) (ha : a.plantSafe = true) : b.plantSafe = true :=
      hc.keep (P := fun s => s.plantSafe = true) (fun _ _ hc => hc.plantSafe) ha
    cases hst with
    | change hc => exact hc.plantSafe h
    | @hang p m ev hev => exact hkeep (ev.hang_changes _ _) (hev ▸ h)
    | halt cause => exact State.plantSafe_iff.mpr (.inr (Event.halt_safe ..))
    | @post e x ev hev => exact hkeep (ev.post_changes e x) (hev ▸ h)
    | @force e ev hev =>
      subst hev
      rcases ev.enterForce_cases e with ⟨heq, -⟩ | ⟨p, -, -, -, heq⟩
      · rw [heq]
        exact h
      · rw [heq]
        exact hkeep (Event.startService_changes p (ev.update (State.modEntry e Entry.forced))) h

/-! ## The gates of a HUNG pass (R93, R150) -/

theorem State.hungQuiet_iff {s : State} : s.hungQuiet = true ↔
    ∀ c, (s.pass (s.chute c).pass).state = .hung → (s.chute c).state.moving = false := by
  simp only [State.hungQuiet, List.all_eq_true, List.mem_finRange, true_imp_iff, Bool.or_eq_true, Bool.and_eq_true,
    decide_eq_true_eq, CycleState.moving_eq_false_iff, and_assoc, or_iff_not_imp_left, not_not]

theorem Pass.define_state_ne_hung (height : Nat) (profile : List Segment) (q : Pass) :
    (Pass.define height profile q).state ≠ .hung := by
  unfold Pass.define Pass.clampTuning
  dsimp only
  split
  · simp
  · split
    case isTrue h => simp [h]
    case isFalse => simp

/-- Within an event no change hangs a pass. -/
theorem Pass.Steps.hung {s : State} {p : PassIdx} {q : Pass} (h : Pass.Steps s p q) (hq : q.state = .hung) :
    (s.pass p).state = .hung := by
  cases h with
  | evolves h => exact h.hung hq
  | calls h => cases h; exact hq
  | define height profile => exact absurd hq (Pass.define_state_ne_hung height profile _)
  | start =>
    unfold Pass.start at hq
    split at hq
    · split at hq <;> cases hq
    · exact hq
  | leave =>
    unfold Pass.leaveService at hq
    split at hq
    · cases hq
    · split at hq <;> cases hq

theorem Change.hungQuiet {s t : State} (hc : Change s t) (h : s.hungQuiet = true) : t.hungQuiet = true := by
  rw [State.hungQuiet_iff] at h ⊢
  intro c hh
  have hp := (hc.pass_steps _).hung hh
  by_contra hm
  rcases (hc.chute_steps c).moving (by simpa using hm) with ⟨hx, hpass⟩ | ⟨-, hn⟩
  · rw [hpass] at hp
    exact absurd ((h c hp).symm.trans hx) (by decide)
  · exact hn hp

theorem Event.abortWhere_pass_state (which : ChuteIdx → Bool) (ev : Event) (p : PassIdx) :
    ((ev.abortWhere which).st.pass p).state = (ev.st.pass p).state := by
  rw [(Event.abortWhere_aborted which ev).pass, Pass.foldl_debit]
  split
  · rfl
  · exact Pass.debit_state ..

theorem Event.revokeWhere_chute (which : TipIdx → Bool) (ev : Event) (c : ChuteIdx) :
    (ev.revokeWhere which).st.chute c = ev.st.chute c := by
  rw [(Event.revokeWhere_revoked which ev).frame]
  rfl

/-- A hang aborts every gate of its pass. -/
theorem Event.hang_hungQuiet {p : PassIdx} {m : Nat} {s : State} {ev : Event} (which : TipIdx → Bool)
    (hev : ev.st = s.modPass p (Pass.measure m)) (h : s.hungQuiet = true) :
    ((ev.revokeWhere which).abortWhere fun c => decide ((s.chute c).pass = p)).st.hungQuiet = true := by
  rw [State.hungQuiet_iff] at h ⊢
  intro c
  rw [(Event.abortWhere_aborted _ _).chute, Event.revokeWhere_chute, hev, State.modPass_chute]
  by_cases hp : (s.chute c).pass = p
  · rw [if_pos (by simp [hp])]
    exact fun _ => State.abortedChute_moving ..
  · rw [if_neg (by simp [hp]), Event.abortWhere_pass_state, Event.revokeWhere_pass, hev,
      State.modPass_pass_ne _ _ _ hp]
    exact h c

theorem Law.hungQuiet : Law fun s => s.hungQuiet = true where
  outer _ _ _ _ _ _ h := h
  reset := by decide
  stage s t hst h := by
    have hkeep {a b : State} (hc : Changes a b) (ha : a.hungQuiet = true) : b.hungQuiet = true :=
      hc.keep (P := fun s => s.hungQuiet = true) (fun _ _ hc => hc.hungQuiet) ha
    cases hst with
    | change hc => exact hc.hungQuiet h
    | hang p m hev => exact Event.hang_hungQuiet _ hev h
    | @halt cause ev hev => exact hkeep (ev.halt_changes cause) (hev ▸ h)
    | @post e x ev hev => exact hkeep (ev.post_changes e x) (hev ▸ h)
    | @force e ev hev =>
      subst hev
      rcases ev.enterForce_cases e with ⟨heq, -⟩ | ⟨p, -, -, -, heq⟩
      · rw [heq]
        exact h
      · rw [heq]
        refine hkeep (Event.startService_changes p (ev.update (State.modEntry e Entry.forced))) ?_
        rw [State.hungQuiet_iff] at h ⊢
        intro c hh
        refine h c ?_
        rw [State.modPass_pass] at hh
        split at hh
        · cases hh
        · exact hh

/-! ## Chutes, levels, jobs, breaker timers and the scanner -/

theorem State.chutesLawful_iff {s : State} : s.chutesLawful = true ↔ ∀ c, (s.chute c).lawful = true := by
  simp [State.chutesLawful]

theorem Chute.Steps.lawful {s : State} {c : ChuteIdx} {y : Chute} (h : Chute.Steps s c y)
    (hs : (s.chute c).lawful = true) : y.lawful = true := by
  cases h with
  | evolves h => exact h.lawful hs
  | define => exact Chute.define_lawful hs

theorem Law.chutesLawful : Law fun s => ∀ c, (s.chute c).lawful = true where
  outer _ _ _ _ _ _ h := h
  reset := by decide
  stage _ _ hst := hst.keep_of_opens (P := fun s => ∀ c, (s.chute c).lawful = true) fun s t ho h c => by
    cases ho with
    | change hc => exact (hc.chute_steps c).lawful (h c)
    | _ => exact h c

theorem Tip.Steps.level {s : State} {i : TipIdx} {y : Tip} (h : Tip.Steps s i y) (hs : (s.tip i).level ≤ 7) :
    y.level ≤ 7 := by
  cases h with
  | evolves h => exact h.level hs
  | calls => exact hs
  | define p elevation load level grizzly hx hl =>
    unfold Tip.define
    dsimp only
    split <;> exact hl

theorem Opens.level {s t : State} (ho : Opens s t) (h : ∀ i, (s.tip i).level ≤ 7) (i : TipIdx) :
    (t.tip i).level ≤ 7 := by
  cases ho with
  | change hc => exact (hc.tip_steps i).level (h i)
  | _ => exact h i

theorem Law.levels : Law fun s => ∀ i, (s.tip i).level ≤ 7 where
  outer _ _ _ _ _ _ h := h
  reset := by decide
  stage _ _ hst := hst.keep_of_opens (P := fun s => ∀ i, (s.tip i).level ≤ 7) fun _ _ ho h => ho.level h

theorem Law.breakerTimed : Law fun s => s.breaker.timed = true where
  outer _ _ _ _ _ _ h := h
  reset := by decide
  stage _ _ hst := hst.keep_of_opens (P := fun s => s.breaker.timed = true) fun s t ho h => by
    cases ho with
    | change hc =>
      cases hc with
      | breaker b sc hb => exact hb.timed h
      | defineTip => split <;> exact h
      | retire e hev =>
        subst hev
        obtain ⟨ps, es, heq⟩ := Event.retire_frame e ‹_›
        rw [heq]
        exact h
      | _ => exact h
    | _ => exact h

theorem Law.scanner : Law fun s => s.scannerLawful = true where
  outer _ _ _ _ _ _ h := h
  reset := by decide
  stage _ _ hst := hst.keep_of_opens (P := fun s => s.scannerLawful = true) fun s t ho h => by
    cases ho with
    | change hc =>
      cases hc with
      | breaker b sc hb hsc => exact hsc h
      | channels cs sc hsc => exact hsc h
      | defineTip => split <;> exact h
      | retire e hev =>
        subst hev
        obtain ⟨ps, es, heq⟩ := Event.retire_frame e ‹_›
        rw [heq]
        exact h
      | _ => exact h
    | _ => exact h

/-- The jobs stay lawful where no station is lost. -/
theorem State.jobsLawful_of_stations {s t : State} (hb : t.breaker = s.breaker)
    (hk : ∀ k, (s.bst k).defined = true → (t.bst k).defined = true) (h : s.jobsLawful = true) :
    t.jobsLawful = true := by
  rw [State.jobsLawful_iff] at h ⊢
  rw [hb]
  exact ⟨h.1, h.2.1, fun j hj => ⟨hk _ (h.2.2 j hj).1, (h.2.2 j hj).2⟩⟩

theorem Station.define_defined (t : TipIdx) (group : Nat) (x : Station) : (Station.define t group x).defined = true := by
  unfold Station.define
  split
  case isTrue h => exact h
  case isFalse => rfl

theorem Change.jobsLawful {s t : State} (hc : Change s t) (hl : s.levelsLawful = true) (h : s.jobsLawful = true) :
    t.jobsLawful = true := by
  cases hc with
  | breaker b sc hb => exact hb.jobs hl h
  | stations ks hk => exact State.jobsLawful_of_stations (s := s) rfl (fun k hd => (hk k).defined.trans hd) h
  | defineStation k tip group =>
    refine State.jobsLawful_of_stations (s := s) rfl (fun i hd => ?_) h
    rw [State.modBst_bst]
    split
    · exact Station.define_defined ..
    · exact hd
  | defineTip => split <;> exact h
  | retire e hev =>
    subst hev
    obtain ⟨ps, es, heq⟩ := Event.retire_frame e ‹_›
    rw [heq]
    exact h
  | _ => exact h

theorem Opens.jobs {s t : State} (ho : Opens s t) (h : s.levelsLawful = true ∧ s.jobsLawful = true) :
    t.levelsLawful = true ∧ t.jobsLawful = true := by
  refine ⟨State.levelsLawful_iff.mpr (ho.level (State.levelsLawful_iff.mp h.1)), ?_⟩
  cases ho with
  | change hc => exact hc.jobsLawful h.1 h.2
  | _ => exact h.2

theorem Law.jobs : Law fun s => s.levelsLawful = true ∧ s.jobsLawful = true where
  outer _ _ _ _ _ _ h := h
  reset := by decide
  stage _ _ hst := hst.keep_of_opens (P := fun s => s.levelsLawful = true ∧ s.jobsLawful = true)
    fun _ _ ho h => ho.jobs h

/-! ## The noted expiries (log 31) -/

/-- Each noted expiry waits next in the queue, and none is noted in a part held in reset. -/
def State.Noted (s : State) : Prop :=
  ∀ c, (s.chute c).staleExpiry = true → s.inReset = false ∧ s.waitsNext (.strokeTimerExpiry c) = true

theorem State.expiriesLawful_iff {s : State} : s.expiriesLawful = true ↔ s.Noted := by
  simp only [State.expiriesLawful, State.Noted, List.all_eq_true, List.mem_finRange, true_imp_iff, Bool.or_eq_true,
    Bool.and_eq_true, Bool.not_eq_true', or_iff_not_imp_left, Bool.not_eq_false]

theorem Chute.Steps.noted {s : State} {c : ChuteIdx} {y : Chute} (h : Chute.Steps s c y) (hy : y.staleExpiry = true) :
    (s.chute c).staleExpiry = true ∨ s.waitsNext (.strokeTimerExpiry c) = true := by
  cases h with
  | evolves h => exact h.stale hy
  | define => exact .inl ((Chute.define_staleExpiry ..).symm.trans hy)

theorem Opens.noted {s t : State} (ho : Opens s t) (hr : s.inReset = false) (h : s.Noted) : t.Noted := by
  have hframe := ho.frame
  intro c hc
  rw [hframe.2, State.waitsNext_congr hframe.1]
  refine ⟨hr, ?_⟩
  cases ho with
  | change hch => exact ((hch.chute_steps c).noted hc).elim (fun hs => (h c hs).2) id
  | _ => exact (h c hc).2

theorem Stages.noted {s t : State} (hst : Stages s t) (hr : s.inReset = false) (h : s.Noted) : t.Noted :=
  (hst.keep_of_opens (P := fun s => s.inReset = false ∧ s.Noted)
    (fun _ _ ho h => ⟨ho.frame.2.trans h.1, ho.noted h.1 h.2⟩) ⟨hr, h⟩).2

theorem State.Noted.congr {s t : State} (hc : ∀ c, t.chute c = s.chute c) (hr : t.inReset = s.inReset)
    (hq : t.pending = s.pending) (h : s.Noted) : t.Noted := by
  intro c hs
  rw [hr, State.waitsNext_congr hq]
  exact h c (hc c ▸ hs)

theorem State.Noted.withLink {s : State} (h : s.Noted) (l : Link) : (s.withLink l).Noted := h

theorem State.heldReset_noted (f : Line → Line) (s : State) : (s.heldReset f).Noted := by
  have hnone : ∀ c, (State.reset.chute c).staleExpiry = false := by decide
  exact fun c hc => absurd ((hnone c).symm.trans hc) (by decide)

theorem Effect.noted {s t : State} (he : Effect s t) (h : s.Noted) : t.Noted := by
  cases he with
  | link => exact h
  | reset f =>
    rw [State.resetHeld_eq]
    exact (s.heldReset_noted f).congr (State.refreshLines_chute _) (State.refreshLines_inReset _)
      (State.refreshLines_pending _)
  | release address baud hr => exact fun c hc => absurd ((h c hc).1.symm.trans hr) (by decide)
  | level i b =>
    have hset : (s.modLine i fun l => { l with plant := b }).Noted := h
    exact hset.congr (State.refreshLines_chute _) (State.refreshLines_inReset _) (State.refreshLines_pending _)
  | time hr => exact s.passTime_reached.1.noted hr h
  | event l l' u hr hu =>
    have hnoted : u.Noted := hu.1.noted hr h
    exact (hnoted.congr (State.endEvent_chute u) (State.endEvent_inReset u) (State.endEvent_pending u)).withLink l'

/-- The stroke timer's expiry at the front of the queue finds its own note, and takes it off. -/
theorem Effect.strokeExpiry_of_stale {c : ChuteIdx} {s t : State} (hr : s.inReset = false)
    (hs : (s.chute c).staleExpiry = true) (h : exec (.strokeTimerExpiry c) s = .next t) :
    Effect (s.modChute c fun x => { x with staleExpiry := false }) t := by
  have hev : exec (.strokeTimerExpiry c) s
      = .next (Event.of (s.modChute c fun x => { x with staleExpiry := false })).finish := by
    refine congrArg Host.Outcome.next (occur_some hr ?_)
    exact if_pos hs
  obtain rfl : (Event.of (s.modChute c fun x => { x with staleExpiry := false })).finish = t := by
    simpa using hev.symm.trans h
  obtain ⟨u, hu, hreached⟩ :=
    (Event.Runs.refl (Event.of (s.modChute c fun x => { x with staleExpiry := false }))).complete.finish
  rw [hu]
  exact .ended s.link hr hreached

/-- With the front of the queue taken off, each other note still stands. -/
theorem State.waitsNext_rest {s : State} {c : Instr} {rest : List Instr} {i : Instr} (hp : s.pending = c :: rest)
    (hi : s.waitsNext i = true) : i = c ∨ State.waitsNext { s with pending := rest } i = true := by
  rw [State.waitsNext_iff, hp, List.takeWhile_cons] at hi
  split at hi
  · rcases List.mem_cons.mp hi with rfl | hi
    · exact .inl rfl
    · exact .inr (State.waitsNext_iff.mpr hi)
  · cases hi

theorem State.step_noted {s t : State} (hstep : Machine.step s = .next t) (h : s.Noted) : t.Noted := by
  rcases step_effect hstep with rfl | ⟨c, rest, hp, ht, he⟩
  · exact h
  · by_cases hc : ∃ i, c = .strokeTimerExpiry i ∧ (s.chute i).staleExpiry = true
    · obtain ⟨i, rfl, hi⟩ := hc
      refine (Effect.strokeExpiry_of_stale (s := { s with pending := rest }) (h i hi).1 hi ht).noted fun j hj => ?_
      rw [State.modChute_chute] at hj
      split at hj
      · cases hj
      case isFalse hne =>
        refine ⟨(h j hj).1, ((State.waitsNext_rest hp (h j hj).2).resolve_left fun heq => hne ?_)⟩
        exact Instr.strokeTimerExpiry.inj heq
    · refine he.noted fun j hj => ⟨(h j hj).1, (State.waitsNext_rest hp (h j hj).2).resolve_left fun heq => ?_⟩
      exact hc ⟨j, heq.symm, hj⟩

/-- Settles O59: each law is one that every stage of an event keeps, and a noted expiry is taken off with the command
it notes. -/
theorem stepsKeepThePlantSafe : Obligations.StepsKeepThePlantSafe := by
  intro s t hstep
  refine ⟨Law.plantSafe.step hstep, Law.hungQuiet.step hstep, ?_, Law.breakerTimed.step hstep, ?_,
    fun hl hj => (Law.jobs.step hstep ⟨hl, hj⟩).2, Law.scanner.step hstep, ?_⟩
  · rw [State.chutesLawful_iff, State.chutesLawful_iff]
    exact Law.chutesLawful.step hstep
  · rw [State.levelsLawful_iff, State.levelsLawful_iff]
    exact Law.levels.step hstep
  · rw [State.expiriesLawful_iff, State.expiriesLawful_iff]
    exact State.step_noted hstep

end Sys2Proof.Machine
end

section
/-! The waiting lists, the entries and the stations through every step (R55, R100, R123, R134). -/

namespace Sys2Proof.Machine

/-! ## The waiting lists (R55) -/

/-- The waiting lists hold exactly the WAITING tip points, all of them defined, over defined passes. -/
structure State.Lists (s : State) : Prop where
  nodup : ∀ p, (s.pass p).waiting.Nodup
  mem : ∀ p t, t ∈ (s.pass p).waiting ↔ (s.tip t).state = .waiting ∧ (s.tip t).pass = p
  idle : ∀ t, (s.tip t).defined = true ∨ (s.tip t).state = .idle
  home : ∀ t, (s.tip t).defined = true → (s.pass (s.tip t).pass).defined = true

theorem State.listsLawful_iff {s : State} : s.listsLawful = true ↔ s.Lists := by
  have hiff : s.listsLawful = true ↔ ((∀ p, (s.pass p).waiting.Nodup
      ∧ ∀ t, t ∈ (s.pass p).waiting ↔ (s.tip t).state = .waiting ∧ (s.tip t).pass = p)
      ∧ ∀ t, (s.tip t).defined = true ∨ (s.tip t).state = .idle)
      ∧ ∀ t, (s.tip t).defined = true → (s.pass (s.tip t).pass).defined = true := by
    simp only [State.listsLawful, Bool.and_eq_true, List.all_eq_true, List.mem_finRange, true_imp_iff,
      decide_eq_true_eq, Bool.or_eq_true, Bool.not_eq_true', or_iff_not_imp_left, Bool.not_eq_false]
  rw [hiff]
  exact ⟨fun ⟨⟨h1, h2⟩, h3⟩ => ⟨fun p => (h1 p).1, fun p => (h1 p).2, h2, h3⟩,
    fun ⟨h1, h2, h3, h4⟩ => ⟨⟨fun p => ⟨h1 p, h2 p⟩, h3⟩, h4⟩⟩

theorem filter_ne_of_not_mem {α : Type} [DecidableEq α] {l : List α} {a : α} (h : a ∉ l) :
    l.filter (· ≠ a) = l :=
  List.filter_eq_self.mpr fun b hb => by
    rw [decide_eq_true_eq]
    rintro rfl
    exact h hb

namespace State.Lists

variable {s u : State}

theorem of_same (h : s.Lists) (hp : u.passes = s.passes) (ht : u.tips = s.tips) : u.Lists := by
  have hpass (p : PassIdx) : u.pass p = s.pass p := by simp only [State.pass, hp]
  have htip (t : TipIdx) : u.tip t = s.tip t := by simp only [State.tip, ht]
  constructor <;> simp only [hpass, htip]
  exacts [h.nodup, h.mem, h.idle, h.home]

theorem not_mem (h : s.Lists) {t : TipIdx} (ht : (s.tip t).state ≠ .waiting) (p : PassIdx) :
    t ∉ (s.pass p).waiting := fun hm => ht ((h.mem p t).mp hm).1

/-- No pass lists a call while it is undefined. -/
theorem waiting_of_undefined (h : s.Lists) {p : PassIdx} (hp : (s.pass p).defined = false) :
    (s.pass p).waiting = [] := by
  refine List.eq_nil_iff_forall_not_mem.mpr fun t ht => ?_
  obtain ⟨hw, rfl⟩ := (h.mem p t).mp ht
  have hd := (h.idle t).resolve_right fun hi => by rw [hw] at hi; cases hi
  exact absurd (hp.symm.trans (h.home t hd)) (by decide)

/-- The lists and what they read of the tip points stay. -/
theorem of_kept (h : s.Lists) (hw : ∀ p, (u.pass p).waiting = (s.pass p).waiting)
    (hp : ∀ p, (s.pass p).defined = true → (u.pass p).defined = true)
    (ht : ∀ t, (u.tip t).state = (s.tip t).state ∧ (u.tip t).pass = (s.tip t).pass
      ∧ (u.tip t).defined = (s.tip t).defined) : u.Lists where
  nodup p := hw p ▸ h.nodup p
  mem p t := by rw [hw, (ht t).1, (ht t).2.1, h.mem]
  idle t := by rw [(ht t).1, (ht t).2.2]; exact h.idle t
  home t hd := by
    rw [(ht t).2.1]
    exact hp _ (h.home t ((ht t).2.2 ▸ hd))

/-- One tip point, and the lists as far as they hold it, change. -/
theorem of_one (h : s.Lists) (t : TipIdx) (hother : ∀ i, i ≠ t → u.tip i = s.tip i)
    (hhome : (u.pass (u.tip t).pass).defined = true) (hidle : (u.tip t).defined = true ∨ (u.tip t).state = .idle)
    (hpass : ∀ p, (s.pass p).defined = true → (u.pass p).defined = true)
    (hnodup : ∀ p, (u.pass p).waiting.Nodup)
    (hmem : ∀ p i, i ∈ (u.pass p).waiting ↔ (i ≠ t ∧ i ∈ (s.pass p).waiting)
      ∨ (i = t ∧ (u.tip t).state = .waiting ∧ (u.tip t).pass = p)) : u.Lists where
  nodup := hnodup
  mem p i := by
    rw [hmem]
    by_cases hi : i = t
    · subst hi
      simp
    · rw [hother i hi, h.mem]
      simp [hi]
  idle i := by
    by_cases hi : i = t
    · exact hi ▸ hidle
    · rw [hother i hi]
      exact h.idle i
  home i hd := by
    by_cases hi : i = t
    · exact hi ▸ hhome
    · rw [hother i hi] at hd ⊢
      exact hpass _ (h.home i hd)

/-- A tip point comes to wait at the tail of its pass's list. -/
theorem join (h : s.Lists) {t : TipIdx} (hd : (s.tip t).defined = true) (hs : (s.tip t).state ≠ .waiting)
    (hother : ∀ i, i ≠ t → u.tip i = s.tip i) (hstate : (u.tip t).state = .waiting)
    (hpass : (u.tip t).pass = (s.tip t).pass) (hdef : (u.tip t).defined = (s.tip t).defined)
    (hp : ∀ p, (u.pass p).defined = (s.pass p).defined)
    (hw : ∀ p, (u.pass p).waiting = (s.pass p).waiting ++ if p = (s.tip t).pass then [t] else []) : u.Lists := by
  refine h.of_one t hother ?_ (.inl (hdef.trans hd)) (fun p => (hp p).trans) (fun p => ?_) fun p i => ?_
  · rw [hp, hpass]
    exact h.home t hd
  · rw [hw]
    split
    · exact (h.nodup p).append (List.nodup_singleton t) (by simpa using h.not_mem hs p)
    · rw [List.append_nil]
      exact h.nodup p
  · rw [hw, List.mem_append, hpass]
    by_cases hi : i = t
    · subst hi
      by_cases hpt : p = (s.tip i).pass
      · simp [h.not_mem hs, hstate, hpt]
      · simp [h.not_mem hs, hstate, hpt, eq_comm (a := (s.tip i).pass)]
    · by_cases hpt : p = (s.tip t).pass <;> simp [hi, hpt]

/-- A tip point waits no more. -/
theorem leave (h : s.Lists) {t : TipIdx} (hother : ∀ i, i ≠ t → u.tip i = s.tip i)
    (hstate : (u.tip t).state ≠ .waiting) (hidle : (u.tip t).defined = true ∨ (u.tip t).state = .idle)
    (hhome : (u.tip t).defined = true → (s.pass (u.tip t).pass).defined = true)
    (hp : ∀ p, (u.pass p).defined = (s.pass p).defined)
    (hw : ∀ p, (u.pass p).waiting = (s.pass p).waiting.filter (· ≠ t)) : u.Lists where
  nodup p := hw p ▸ (h.nodup p).filter _
  mem p i := by
    rw [hw, List.mem_filter, h.mem]
    by_cases hi : i = t
    · subst hi
      simp [hstate]
    · rw [hother i hi]
      simp [hi]
  idle i := by
    by_cases hi : i = t
    · exact hi ▸ hidle
    · rw [hother i hi]
      exact h.idle i
  home i hd := by
    rw [hp]
    by_cases hi : i = t
    · subst hi
      exact hhome hd
    · rw [hother i hi] at hd ⊢
      exact h.home i hd

theorem filter_eq (h : s.Lists) {t : TipIdx} (hs : (s.tip t).state ≠ .waiting) (p : PassIdx) :
    (s.pass p).waiting.filter (· ≠ t) = (s.pass p).waiting :=
  filter_ne_of_not_mem (h.not_mem hs p)

end State.Lists

theorem Pass.define_defined (height : Nat) (profile : List Segment) (q : Pass) :
    (Pass.define height profile q).defined = true := by
  unfold Pass.define Pass.clampTuning
  dsimp only
  split
  · rfl
  case isFalse h =>
    have hd : q.defined = true := by simpa using h
    split <;> exact hd

theorem Pass.define_waiting {height : Nat} {profile : List Segment} {q : Pass}
    (h : q.defined = false → q.waiting = []) : (Pass.define height profile q).waiting = q.waiting := by
  unfold Pass.define Pass.clampTuning
  dsimp only
  split
  case isTrue hd => exact (h (by simpa using hd)).symm
  case isFalse => split <;> rfl

/-- A retirement gives back at most a pass from service. -/
theorem Event.retire_pass (e : EntryIdx) (ev : Event) (p : PassIdx) : (ev.retire e).st.pass p = ev.st.pass p
    ∨ (ev.st.entry e).serves p ∧ (ev.retire e).st.pass p = (ev.st.pass p).leaveService := by
  rw [Event.retire_st]
  rcases ev.cleared_cases e with ⟨h, -⟩ | ⟨q, hq, -, h⟩
  · rw [h]
    exact .inl rfl
  · rw [h, Event.endService_st, State.modPass_pass]
    split
    case isTrue hp => subst hp; exact .inr ⟨hq, rfl⟩
    case isFalse => exact .inl rfl

theorem State.Lists.withdraw {s : State} (h : s.Lists) (t : TipIdx) : (s.withdrawCall t).Lists := by
  refine h.leave (t := t) (fun i hi => ?_) ?_ (.inr ?_) (fun hd => ?_) (fun p => ?_) fun p => ?_
  · rw [State.withdrawCall_tip, if_neg hi]
  · rw [State.withdrawCall_tip, if_pos rfl]
    simp
  · rw [State.withdrawCall_tip, if_pos rfl]
  · rw [State.withdrawCall_tip, if_pos rfl] at hd ⊢
    exact h.home t hd
  · rw [State.withdrawCall, State.modTip_pass, State.modPass_pass]
    split
    case isTrue hp => rw [hp]
    case isFalse => rfl
  · rw [State.withdrawCall, State.modTip_pass, State.modPass_pass]
    split
    case isTrue hp => rw [hp]
    case isFalse hp =>
      exact (filter_ne_of_not_mem fun hi => hp ((h.mem p t).mp hi).2.symm).symm

theorem State.ungrant_tip (t i : TipIdx) (state : TipState) (s : State) : (s.ungrant t state).tip i
    = if i = t then { s.tip i with state := state, timer := none } else s.tip i := by
  rw [State.ungrant, State.modPass_tip, State.modTip_tip]
  split
  case isTrue h => rw [h]
  case isFalse => rfl

theorem State.ungrant_pass (t : TipIdx) (state : TipState) (s : State) (p : PassIdx) : (s.ungrant t state).pass p
    = if p = (s.tip t).pass then { s.pass p with reserved := (s.pass p).reserved - (s.tip t).load } else s.pass p := by
  rw [State.ungrant, State.modPass_pass, State.modTip_pass]
  split
  case isTrue h => rw [h]
  case isFalse => rfl

theorem State.Lists.ungrant {s : State} (h : s.Lists) {t : TipIdx} (ht : (s.tip t).state = .granted) :
    (s.ungrant t .idle).Lists := by
  refine h.leave (t := t) (fun i hi => ?_) ?_ (.inr ?_) (fun hd => ?_) (fun p => ?_) fun p => ?_
  · rw [State.ungrant_tip, if_neg hi]
  · rw [State.ungrant_tip, if_pos rfl]
    simp
  · rw [State.ungrant_tip, if_pos rfl]
  · rw [State.ungrant_tip, if_pos rfl] at hd ⊢
    exact h.home t hd
  · rw [State.ungrant_pass]
    split <;> rfl
  · rw [State.ungrant_pass, h.filter_eq (by simp [ht])]
    split <;> rfl

theorem State.Lists.requeue {s : State} (h : s.Lists) {t : TipIdx} (ht : (s.tip t).state = .granted) :
    ((s.ungrant t .waiting).modPass (s.tip t).pass fun q => { q with waiting := q.waiting ++ [t] }).Lists := by
  refine h.join (t := t) ((h.idle t).resolve_right (by simp [ht])) (by simp [ht]) (fun i hi => ?_) ?_ ?_ ?_
    (fun p => ?_) fun p => ?_
  · rw [State.modPass_tip, State.ungrant_tip, if_neg hi]
  · rw [State.modPass_tip, State.ungrant_tip, if_pos rfl]
  · rw [State.modPass_tip, State.ungrant_tip, if_pos rfl]
  · rw [State.modPass_tip, State.ungrant_tip, if_pos rfl]
  · rw [State.modPass_pass]
    split
    case isTrue hp => rw [State.ungrant_pass, if_pos rfl, hp]
    case isFalse hp => rw [State.ungrant_pass, if_neg hp]
  · rw [State.modPass_pass]
    split
    case isTrue hp => rw [State.ungrant_pass, if_pos rfl, hp]
    case isFalse hp => rw [State.ungrant_pass, if_neg hp, List.append_nil]

theorem State.Lists.placeCall {s : State} (h : s.Lists) {t : TipIdx} {source : CallSource}
    (hd : (s.tip t).defined = true) (ht : (s.tip t).state = .idle) :
    ((s.modTip t fun x => { x with state := .waiting, source := source }).modPass (s.tip t).pass fun q =>
      { q with waiting := q.waiting ++ [t] }).Lists := by
  refine h.join (t := t) hd (by simp [ht]) (fun i hi => ?_) ?_ ?_ ?_ (fun p => ?_) fun p => ?_
  · rw [State.modPass_tip, State.modTip_tip_ne _ _ _ hi]
  · rw [State.modPass_tip, State.modTip_tip_self]
  · rw [State.modPass_tip, State.modTip_tip_self]
  · rw [State.modPass_tip, State.modTip_tip_self]
  · rw [State.modPass_pass]
    split
    case isTrue hp => rw [hp]; rfl
    case isFalse => rfl
  · rw [State.modPass_pass]
    split
    case isTrue hp => rw [hp]; rfl
    case isFalse => rw [List.append_nil]; rfl

theorem State.grant_tip (p : PassIdx) (t i : TipIdx) (s : State) : (s.grant p t).tip i
    = if i = t then { s.tip i with state := .granted, timer := some (s.tip i).timeout } else s.tip i := by
  rw [State.grant, State.modTip_tip, State.modPass_tip]
  split
  case isTrue h => rw [h]
  case isFalse => rfl

theorem State.grant_pass (p q : PassIdx) (t : TipIdx) (s : State) : (s.grant p t).pass q
    = if q = p then { s.pass q with
        reserved := (s.pass q).reserved + (s.tip t).load, waiting := (s.pass q).waiting.filter (· ≠ t) }
      else s.pass q := by
  rw [State.grant, State.modTip_pass, State.modPass_pass]
  split
  case isTrue h => rw [h]
  case isFalse => rfl

theorem State.Lists.grant {s : State} (h : s.Lists) {p : PassIdx} {t : TipIdx} (hc : s.chooseCall p = some t) :
    (s.grant p t).Lists := by
  have hd := (State.eligible_of_chooseCall hc).1
  have hp := ((h.mem p t).mp (State.chooseCall_mem hc).1).2
  refine h.leave (t := t) (fun i hi => ?_) ?_ (.inl ?_) (fun _ => ?_) (fun q => ?_) fun q => ?_
  · rw [State.grant_tip, if_neg hi]
  · rw [State.grant_tip, if_pos rfl]
    simp
  · rw [State.grant_tip, if_pos rfl]
    exact hd
  · rw [State.grant_tip, if_pos rfl]
    exact h.home t hd
  · rw [State.grant_pass]
    split <;> rfl
  · rw [State.grant_pass]
    split
    case isTrue => rfl
    case isFalse hq =>
      exact (filter_ne_of_not_mem fun hi => hq (((h.mem q t).mp hi).2.symm.trans hp)).symm

theorem State.Lists.definePass {s : State} (h : s.Lists) (p : PassIdx) (height : Nat) (profile : List Segment) :
    (s.modPass p (Pass.define height profile)).Lists := by
  refine h.of_kept (fun q => ?_) (fun q hq => ?_) fun _ => ⟨rfl, rfl, rfl⟩
  · rw [State.modPass_pass]
    split
    case isTrue hp => subst hp; exact Pass.define_waiting fun hd => h.waiting_of_undefined hd
    case isFalse => rfl
  · rw [State.modPass_pass]
    split
    · exact Pass.define_defined ..
    · exact hq

theorem Tip.define_rest (p : PassIdx) (elevation load level : Nat) (grizzly : Option StationIdx) (x : Tip) :
    (Tip.define p elevation load level grizzly x).defined = true
      ∧ (Tip.define p elevation load level grizzly x).pass = p
      ∧ (Tip.define p elevation load level grizzly x).state = if x.defined then x.state else .idle := by
  unfold Tip.define
  dsimp only
  split
  case isTrue h => exact ⟨h, rfl, rfl⟩
  case isFalse => exact ⟨rfl, rfl, rfl⟩

/-- Without its call a tip point is defined anywhere. -/
theorem State.Lists.modTip_define {s : State} (h : s.Lists) {t : TipIdx} (ht : (s.tip t).state ≠ .waiting)
    {p : PassIdx} (hp : (s.pass p).defined = true) (elevation load level : Nat) (grizzly : Option StationIdx) :
    (s.modTip t (Tip.define p elevation load level grizzly)).Lists := by
  obtain ⟨hd, hpass, hs⟩ := Tip.define_rest p elevation load level grizzly (s.tip t)
  refine h.leave (t := t) (fun i hi => State.modTip_tip_ne _ _ _ hi) ?_ (.inl ?_) (fun _ => ?_) (fun _ => rfl)
    fun q => (h.filter_eq ht q).symm
  · rw [State.modTip_tip_self, hs]
    split
    · exact ht
    · simp
  · rw [State.modTip_tip_self]
    exact hd
  · rw [State.modTip_tip_self, hpass]
    exact hp

theorem State.Lists.defineTip {s : State} (h : s.Lists) {t : TipIdx} {p : PassIdx} (hp : (s.pass p).defined = true)
    (elevation load level : Nat) (grizzly : Option StationIdx) :
    ((if (s.tip t).defined && decide ((s.tip t).state = .waiting) then s.withdrawCall t else s).modTip t
      (Tip.define p elevation load level grizzly)).Lists := by
  split
  case isTrue =>
    refine (h.withdraw t).modTip_define ?_ ?_ ..
    · rw [State.withdrawCall_tip, if_pos rfl]
      simp
    · rw [State.withdrawCall, State.modTip_pass, State.modPass_pass]
      split
      case isTrue hq => exact hq ▸ hp
      case isFalse => exact hp
  case isFalse hw =>
    refine h.modTip_define (fun hs => hw ?_) hp ..
    have hd := (h.idle t).resolve_right (by simp [hs])
    simp [hd, hs]

theorem State.Lists.setup {s : State} (h : s.Lists) : s.enterSetup.Lists where
  nodup p := by
    rw [State.enterSetup, State.mapChutes_pass, State.mapTips_pass, State.mapPasses_pass]
    exact List.nodup_nil
  mem p t := by
    rw [State.enterSetup, State.mapChutes_pass, State.mapTips_pass, State.mapPasses_pass, State.mapChutes_tip,
      State.mapTips_tip]
    simp only [List.not_mem_nil, false_iff, not_and]
    intro hw
    split at hw <;> simp_all
  idle t := by
    rw [State.enterSetup, State.mapChutes_tip, State.mapTips_tip]
    refine (h.idle t).imp_right fun hi => ?_
    change (if (s.tip t).state = .waiting then _ else (s.tip t).state) = _
    rw [hi]
    rfl
  home t hd := by
    rw [State.enterSetup, State.mapChutes_pass, State.mapTips_pass, State.mapPasses_pass, State.mapChutes_tip,
      State.mapTips_tip]
    rw [State.enterSetup, State.mapChutes_tip, State.mapTips_tip] at hd
    exact h.home t hd

theorem Change.lists {s t : State} (hc : Change s t) (h : s.Lists) : t.Lists := by
  cases hc with
  | passes ps hp =>
    exact h.of_kept (fun p => (hp p).waiting) (fun p hd => (hp p).defined.trans hd) fun _ => ⟨rfl, rfl, rfl⟩
  | tips ts ht => exact h.of_kept (fun _ => rfl) (fun _ => id) fun i => ⟨(ht i).state, (ht i).pass, (ht i).defined⟩
  | placeCall i source hd hi => exact h.placeCall hd hi
  | withdraw i => exact h.withdraw i
  | ungrant i hi => exact h.ungrant hi
  | requeue i hi => exact h.requeue hi
  | grant p i hi => exact h.grant hi
  | definePass p height profile => exact h.definePass p height profile
  | defineTip i p elevation load level grizzly _ _ hp => exact h.defineTip hp elevation load level grizzly
  | setup => exact h.setup
  | start =>
    refine h.of_kept (fun p => ?_) (fun p hd => ?_) fun _ => ⟨rfl, rfl, rfl⟩
    · rw [State.mapPasses_pass]
      exact Pass.start_waiting _
    · rw [State.mapPasses_pass]
      exact (Pass.start_defined _).trans hd
  | @retire e ev hev =>
    subst hev
    obtain ⟨ps, es, heq⟩ := ev.retire_frame e
    refine h.of_kept (fun p => ?_) (fun p hd => ?_) fun i => by rw [heq]; exact ⟨rfl, rfl, rfl⟩
    · rcases ev.retire_pass e p with hp | ⟨-, hp⟩ <;> rw [hp]
      exact Pass.leaveService_waiting _
    · rcases ev.retire_pass e p with hp | ⟨-, hp⟩ <;> rw [hp]
      · exact hd
      · exact (Pass.leaveService_defined _).trans hd
  | _ => exact h.of_same rfl rfl

theorem Opens.lists {s t : State} (ho : Opens s t) (h : s.Lists) : t.Lists := by
  have hkeep (u : State) (p : PassIdx) (f : Pass → Pass) (hu : u.Lists)
      (hw : ∀ q, (f q).waiting = q.waiting) (hd : ∀ q, (f q).defined = q.defined) : (u.modPass p f).Lists := by
    refine hu.of_kept (fun q => ?_) (fun q hq => ?_) fun _ => ⟨rfl, rfl, rfl⟩
    · rw [State.modPass_pass]
      split
      case isTrue heq => exact heq ▸ hw _
      case isFalse => rfl
    · rw [State.modPass_pass]
      split
      case isTrue heq => subst heq; exact (hd _).trans hq
      case isFalse => exact hq
  cases ho with
  | change hc => exact hc.lists h
  | hang p m => exact hkeep s p (Pass.measure m) h (Pass.measure_waiting m) (Pass.measure_defined m)
  | service e p => exact hkeep (s.modEntry e Entry.forced) p Pass.enterService (h.of_same rfl rfl) (fun _ => rfl) fun _ => rfl
  | _ => exact h.of_same rfl rfl

theorem Law.lists : Law State.Lists where
  outer _ _ _ _ _ _ h := ⟨h.nodup, h.mem, h.idle, h.home⟩
  reset := State.listsLawful_iff.mp (by decide)
  stage _ _ hst := hst.keep_of_opens fun _ _ ho => ho.lists

/-! ## The entries (R123, R134) -/

theorem State.entriesLawful_iff {s : State} : s.entriesLawful = true ↔ ∀ e, (s.entry e).lawful = true := by
  simp [State.entriesLawful]

/-- A retirement clears its entry alone. -/
theorem Event.retire_entry (e i : EntryIdx) (ev : Event) : (ev.retire e).st.entry i
    = if i = e then Entry.reset else ev.st.entry i := by
  have hclear : (ev.st.modEntry e fun _ => Entry.reset).entry i = if i = e then Entry.reset else ev.st.entry i := by
    rw [State.modEntry_entry]
  rw [Event.retire_st]
  rcases ev.cleared_cases e with ⟨h, -⟩ | ⟨p, -, -, h⟩
  · rw [h]
    exact hclear
  · rw [h, Event.endService_st]
    exact hclear

theorem Entry.forced_lawful {x : Entry} (hu : x.inUse = true) (h : x.lawful = true) : x.forced.lawful = true := by
  rw [Entry.lawful_iff_of_inUse hu] at h
  rw [Entry.lawful_iff_of_inUse (x := x.forced) hu]
  obtain ⟨h1, h2, h3, h4, -, h6⟩ := h
  exact ⟨h1, h2, h3, h4, by simp [Entry.forced], h6⟩

theorem State.modEntry_lawful {s : State} {e : EntryIdx} {f : Entry → Entry} (h : ∀ e, (s.entry e).lawful = true)
    (hf : (f (s.entry e)).lawful = true) (i : EntryIdx) : ((s.modEntry e f).entry i).lawful = true := by
  rw [State.modEntry_entry]
  split
  · exact hf
  · exact h i

theorem Opens.entry_lawful {s t : State} (ho : Opens s t) (h : ∀ e, (s.entry e).lawful = true) (i : EntryIdx) :
    (t.entry i).lawful = true := by
  cases ho with
  | change hc =>
    cases hc with
    | entries es he => exact (he i).lawful (h i)
    | defineTip => split <;> exact h i
    | @retire e ev hev =>
      subst hev
      rw [Event.retire_entry]
      split
      · rfl
      · exact h i
    | _ => exact h i
  | post e x hfree hx => exact State.modEntry_lawful h hx i
  | force e hu => exact State.modEntry_lawful h (Entry.forced_lawful hu (h e)) i
  | service e p hu => exact State.modEntry_lawful h (Entry.forced_lawful hu (h e)) i
  | _ => exact h i

theorem Law.entries : Law fun s => ∀ e, (s.entry e).lawful = true where
  outer _ _ _ _ _ _ h := h
  reset := by decide
  stage _ _ hst := hst.keep_of_opens (P := fun s => ∀ e, (s.entry e).lawful = true) fun _ _ ho h => ho.entry_lawful h

/-! ## The stations (R100) -/

theorem State.stationsLawful_iff {s : State} : s.stationsLawful = true ↔
    ∀ k, (s.bst k).defined = true → (s.tip (s.bst k).tip).defined = true := by
  simp only [State.stationsLawful, List.all_eq_true, List.mem_finRange, true_imp_iff, Bool.or_eq_true,
    Bool.not_eq_true', or_iff_not_imp_left, Bool.not_eq_false]

/-- No tip point is undefined again. -/
theorem Tip.Steps.defined {s : State} {i : TipIdx} {y : Tip} (h : Tip.Steps s i y) (hd : (s.tip i).defined = true) :
    y.defined = true := by
  cases h with
  | evolves h => exact h.defined.trans hd
  | calls => exact hd
  | define p elevation load level grizzly => exact (Tip.define_rest p elevation load level grizzly _).1

theorem Station.define_tip (t : TipIdx) (group : Nat) (x : Station) : (Station.define t group x).tip = t := by
  unfold Station.define
  split <;> rfl

/-- What one change makes of one breaker station. -/
theorem Change.bst_cases {s t : State} (hc : Change s t) (k : StationIdx) : (s.bst k).Evolves (t.bst k)
    ∨ (s.station.mode = .setup ∨ s.breakerHeldInForce = true)
      ∧ (t.bst k).defined = true ∧ (s.tip (t.bst k).tip).defined = true := by
  cases hc with
  | stations ks hk => exact .inl (hk k)
  | defineStation i j group hm hj =>
    rw [State.modBst_bst]
    split
    · refine .inr ⟨hm, Station.define_defined .., ?_⟩
      rw [Station.define_tip]
      exact hj
    · exact .inl (.refl _)
  | defineTip => split <;> exact .inl (.refl _)
  | retire e hev =>
    subst hev
    obtain ⟨ps, es, heq⟩ := Event.retire_frame e ‹_›
    rw [heq]
    exact .inl (.refl _)
  | _ => exact .inl (.refl _)

theorem Law.stations : Law fun s => ∀ k, (s.bst k).defined = true → (s.tip (s.bst k).tip).defined = true where
  outer _ _ _ _ _ _ h := h
  reset := by decide
  stage _ _ hst := hst.keep_of_opens
    (P := fun s => ∀ k, (s.bst k).defined = true → (s.tip (s.bst k).tip).defined = true) fun s t ho h k hk => by
    cases ho with
    | change hc =>
      refine (hc.tip_steps _).defined ?_
      rcases hc.bst_cases k with he | ⟨-, -, hd⟩
      · rw [he.tip]
        exact h k (he.defined.symm.trans hk)
      · exact hd
    | _ => exact h k hk

end Sys2Proof.Machine
end

section
/-! Service and the grants through every step (R24, R60, R139). -/

namespace Sys2Proof.Machine

/-! ## Service (R139) -/

theorem State.serviceInForce_iff {s : State} {p : PassIdx} : s.serviceInForce p = true ↔
    ∃ e, (s.entry e).inUse = true ∧ (s.entry e).serves p := by
  simp only [State.serviceInForce, List.any_eq_true, List.mem_finRange, true_and, Bool.and_eq_true,
    decide_eq_true_eq, Entry.serves]

theorem Pass.CallsOnly.state {q q' : Pass} (h : q.CallsOnly q') : q'.state = q.state := by cases h; rfl

theorem Pass.CallsOnly.defined {q q' : Pass} (h : q.CallsOnly q') : q'.defined = q.defined := by cases h; rfl

theorem Pass.define_outOfService {height : Nat} {profile : List Segment} {q : Pass}
    (h : q.state = .outOfService → q.defined = true) :
    (Pass.define height profile q).state = .outOfService ↔ q.state = .outOfService := by
  unfold Pass.define Pass.clampTuning
  dsimp only
  split
  case isTrue hd => simpa using fun hs => by simp [h hs] at hd
  case isFalse =>
    split
    case isTrue hs => simp [hs]
    case isFalse hs => simp [hs]

theorem Pass.start_outOfService (q : Pass) : q.start.state = .outOfService ↔ q.state = .outOfService := by
  unfold Pass.start
  split
  case isTrue h =>
    have hs : q.state ≠ .outOfService := of_decide_eq_true (Bool.and_eq_true_iff.mp h).2
    split <;> simp [hs]
  case isFalse => rfl

theorem Pass.leaveService_state_ne (q : Pass) : q.leaveService.state ≠ .outOfService := by
  unfold Pass.leaveService
  split
  · simp
  · split <;> simp

/-- A pass is OUT_OF_SERVICE exactly while a SERVICE entry on it is IN_FORCE, and entries name defined passes. -/
structure State.Service (s : State) : Prop where
  out : ∀ p, (s.pass p).state = .outOfService ↔ ∃ e, (s.entry e).inUse = true ∧ (s.entry e).serves p
  names : ∀ e, (s.entry e).inUse = true → ∀ p, (s.entry e).pass = some p → (s.pass p).defined = true

theorem State.serviceLawful_iff {s : State} : s.serviceLawful = true ↔ s.Service := by
  have hbeq (p : PassIdx) : (decide ((s.pass p).state = .outOfService) == s.serviceInForce p) = true
      ↔ ((s.pass p).state = .outOfService ↔ ∃ e, (s.entry e).inUse = true ∧ (s.entry e).serves p) := by
    rw [beq_iff_eq, Bool.eq_iff_iff, decide_eq_true_eq, State.serviceInForce_iff]
  simp only [State.serviceLawful, Bool.and_eq_true, List.all_eq_true, List.mem_finRange, true_imp_iff, hbeq,
    Bool.or_eq_true, Bool.not_eq_true', or_iff_not_imp_left, Bool.not_eq_false, Option.all_eq_true]
  exact ⟨fun h => ⟨h.1, h.2⟩, fun h => ⟨h.out, h.names⟩⟩

namespace State.Service

variable {s u : State}

theorem defined (h : s.Service) {p : PassIdx} (hp : (s.pass p).state = .outOfService) : (s.pass p).defined = true := by
  obtain ⟨e, hu, -, hpass, -⟩ := (h.out p).mp hp
  exact h.names e hu p hpass

/-- Entries that keep their place and whether they are in force, on passes that keep whether they are in service. -/
theorem of_kept (h : s.Service) (hp : ∀ p, (u.pass p).state = .outOfService ↔ (s.pass p).state = .outOfService)
    (hd : ∀ p, (s.pass p).defined = true → (u.pass p).defined = true)
    (he : ∀ e, (s.entry e).Evolves (u.entry e)) : u.Service where
  out p := by
    rw [hp, h.out]
    refine exists_congr fun e => and_congr (by rw [(he e).inUse]) ?_
    rw [Entry.serves, Entry.serves, (he e).kind, (he e).pass, (he e).state]
  names e hu p hpass := hd p (h.names e ((he e).inUse.symm.trans hu) p ((he e).pass.symm.trans hpass))

theorem of_passes (h : s.Service) (hp : ∀ p, (s.pass p).CallsOnly (u.pass p)) (he : u.entries = s.entries) :
    u.Service := by
  refine h.of_kept (fun p => by rw [(hp p).state]) (fun p => (hp p).defined.trans) fun e => ?_
  have heq : u.entry e = s.entry e := by simp only [State.entry, he]
  exact heq ▸ .refl _

end State.Service

theorem State.entry_evolves_refl {s u : State} (h : u.entries = s.entries) (e : EntryIdx) :
    (s.entry e).Evolves (u.entry e) := by
  have heq : u.entry e = s.entry e := by simp only [State.entry, h]
  exact heq ▸ .refl _

/-- Retirement gives the pass back with its last SERVICE entry in force (R138, R141). -/
theorem State.Service.retire {ev : Event} (h : ev.st.Service) (e : EntryIdx) : (ev.retire e).st.Service := by
  have hentry (i : EntryIdx) : (ev.retire e).st.entry i = if i = e then Entry.reset else ev.st.entry i :=
    ev.retire_entry e i
  have hrest (p : PassIdx) : (∃ i, ((ev.retire e).st.entry i).inUse = true ∧ ((ev.retire e).st.entry i).serves p)
      ↔ (ev.st.modEntry e fun _ => Entry.reset).serviceInForce p = true := by
    rw [State.serviceInForce_iff]
    exact exists_congr fun i => by rw [hentry, State.modEntry_entry]
  have hless (p : PassIdx) (hs : (ev.st.modEntry e fun _ => Entry.reset).serviceInForce p = true) :
      ∃ i, (ev.st.entry i).inUse = true ∧ (ev.st.entry i).serves p := by
    obtain ⟨i, hi, hserves⟩ := State.serviceInForce_iff.mp hs
    rw [State.modEntry_entry] at hi hserves
    split at hi
    · cases hi
    case isFalse hne => rw [if_neg hne] at hserves; exact ⟨i, hi, hserves⟩
  have hmore (p : PassIdx) (hs : ¬ (ev.st.entry e).serves p)
      (hout : ∃ i, (ev.st.entry i).inUse = true ∧ (ev.st.entry i).serves p) :
      (ev.st.modEntry e fun _ => Entry.reset).serviceInForce p = true := by
    obtain ⟨i, hi, hserves⟩ := hout
    have hne : i ≠ e := fun heq => hs (heq ▸ hserves)
    exact State.serviceInForce_iff.mpr ⟨i, by rw [State.modEntry_entry_ne _ _ _ hne]; exact ⟨hi, hserves⟩⟩
  constructor
  case out =>
    intro p
    rw [hrest, Event.retire_st]
    rcases ev.cleared_cases e with ⟨hst, hin⟩ | ⟨q, hq, hn, hst⟩
    · rw [hst]
      change (ev.st.pass p).state = .outOfService ↔ _
      refine (h.out p).trans ⟨fun hout => ?_, hless p⟩
      by_cases hs : (ev.st.entry e).serves p
      · exact hin p hs
      · exact hmore p hs hout
    · rw [hst, Event.endService_st, State.modPass_pass]
      split
      case isTrue heq =>
        subst heq
        exact iff_of_false (Pass.leaveService_state_ne _) (by simp [hn])
      case isFalse hne =>
        change (ev.st.pass p).state = .outOfService ↔ _
        refine (h.out p).trans ⟨hmore p fun hs => hne ?_, hless p⟩
        exact Option.some.inj (hs.2.1.symm.trans hq.2.1)
  case names =>
    intro i hi p hp
    rw [hentry] at hi hp
    split at hi
    · cases hi
    case isFalse hne =>
      rw [if_neg hne] at hp
      have hd := h.names i hi p hp
      rcases ev.retire_pass e p with heq | ⟨-, heq⟩
      · rw [heq]
        exact hd
      · rw [heq]
        exact (Pass.leaveService_defined _).trans hd

theorem Change.service {s t : State} (hc : Change s t) (h : s.Service) : t.Service := by
  have hkept (u : State) (he : u.entries = s.entries)
      (hp : ∀ p, (u.pass p).state = .outOfService ↔ (s.pass p).state = .outOfService)
      (hd : ∀ p, (s.pass p).defined = true → (u.pass p).defined = true) : u.Service :=
    h.of_kept hp hd (State.entry_evolves_refl he)
  cases hc with
  | passes ps hp => exact hkept _ rfl (fun p => (hp p).service) fun p => (hp p).defined.trans
  | entries es he => exact h.of_kept (fun _ => .rfl) (fun _ => id) he
  | placeCall i =>
    exact h.of_passes (State.modPass_callsOnly (State.modTip_callsOnly (fun _ => .refl _) i _) fun _ => .mk _ _) rfl
  | withdraw i => exact h.of_passes (s.withdrawCall_callsOnly i) rfl
  | ungrant i => exact h.of_passes (s.ungrant_callsOnly i _) rfl
  | requeue i => exact h.of_passes (State.modPass_callsOnly (s.ungrant_callsOnly i _) fun _ => .mk _ _) rfl
  | grant p i => exact h.of_passes (s.grant_callsOnly p i) rfl
  | definePass p height profile =>
    refine hkept _ rfl (fun q => ?_) fun q hq => ?_
    · rw [State.modPass_pass]
      split
      case isTrue heq => subst heq; exact Pass.define_outOfService h.defined
      case isFalse => rfl
    · rw [State.modPass_pass]
      split
      · exact Pass.define_defined ..
      · exact hq
  | defineTip i =>
    refine h.of_passes (State.modTip_callsOnly (fun p => ?_) i _) ?_
    · split
      · exact s.withdrawCall_callsOnly i p
      · exact .refl _
    · split <;> rfl
  | start =>
    refine hkept _ rfl (fun p => ?_) fun p hd => ?_
    · rw [State.mapPasses_pass]
      exact Pass.start_outOfService _
    · rw [State.mapPasses_pass]
      exact (Pass.start_defined _).trans hd
  | setup =>
    refine h.of_passes (fun p => ?_) rfl
    rw [State.enterSetup, State.mapChutes_pass, State.mapTips_pass, State.mapPasses_pass]
    exact .mk _ _
  | @retire e ev hev =>
    subst hev
    exact h.retire e
  | _ => exact hkept _ rfl (fun _ => .rfl) fun _ => id

theorem State.modEntry_forced_serves {s : State} {e i : EntryIdx} {p : PassIdx}
    (h : (s.entry i).inUse = true ∧ (s.entry i).serves p) :
    ((s.modEntry e Entry.forced).entry i).inUse = true ∧ ((s.modEntry e Entry.forced).entry i).serves p := by
  rw [State.modEntry_entry]
  split
  case isTrue heq => subst heq; exact ⟨h.1, h.2.1, h.2.2.1, rfl⟩
  case isFalse => exact h

/-- An entry in force serves what it served, or is the new one on its pass (R139). -/
theorem State.modEntry_forced_serves_iff {s : State} {e : EntryIdx} {p : PassIdx} (hu : (s.entry e).inUse = true) :
    (∃ i, ((s.modEntry e Entry.forced).entry i).inUse = true ∧ ((s.modEntry e Entry.forced).entry i).serves p)
      ↔ (∃ i, (s.entry i).inUse = true ∧ (s.entry i).serves p)
        ∨ ((s.entry e).kind = .service ∧ (s.entry e).pass = some p) := by
  constructor
  · rintro ⟨i, hi⟩
    rw [State.modEntry_entry] at hi
    split at hi
    case isTrue heq => subst heq; exact .inr ⟨hi.2.1, hi.2.2.1⟩
    case isFalse => exact .inl ⟨i, hi⟩
  · rintro (⟨i, hi⟩ | ⟨hk, hp⟩)
    · exact ⟨i, State.modEntry_forced_serves hi⟩
    · refine ⟨e, ?_⟩
      rw [State.modEntry_entry_self]
      exact ⟨hu, hk, hp, rfl⟩

theorem State.modEntry_forced_names {s : State} {e : EntryIdx} (h : s.Service) (i : EntryIdx)
    (hi : ((s.modEntry e Entry.forced).entry i).inUse = true) (p : PassIdx)
    (hp : ((s.modEntry e Entry.forced).entry i).pass = some p) : (s.pass p).defined = true := by
  rw [State.modEntry_entry] at hi hp
  split at hi
  case isTrue heq => subst heq; rw [if_pos rfl] at hp; exact h.names i hi p hp
  case isFalse hne => rw [if_neg hne] at hp; exact h.names i hi p hp

theorem Opens.keeps_service {s t : State} (ho : Opens s t) (h : s.Service) : t.Service := by
  cases ho with
  | change hc => exact hc.service h
  | hang p m _ hr hh =>
    refine h.of_kept (fun q => ?_) (fun q hq => ?_) (State.entry_evolves_refl rfl)
    · rw [State.modPass_pass]
      split
      case isTrue heq => subst heq; rw [hh, hr]; decide
      case isFalse => rfl
    · rw [State.modPass_pass]
      split
      case isTrue heq => subst heq; exact (Pass.measure_defined ..).trans hq
      case isFalse => exact hq
  | halt => exact h.of_kept (fun _ => .rfl) (fun _ => id) (State.entry_evolves_refl rfl)
  | post e x hfree hx hs hp =>
    have hentry {i : EntryIdx} (hi : i ≠ e) : (s.modEntry e fun _ => x).entry i = s.entry i :=
      State.modEntry_entry_ne _ _ _ hi
    constructor
    case out =>
      refine fun p => (h.out p).trans ⟨fun ⟨i, hi, hserves⟩ => ⟨i, ?_⟩, fun ⟨i, hi, hserves⟩ => ⟨i, ?_⟩⟩
      · have hne : i ≠ e := fun heq => by rw [heq, hfree] at hi; cases hi
        rw [hentry hne]
        exact ⟨hi, hserves⟩
      · have hne : i ≠ e := fun heq => by
          rw [heq, State.modEntry_entry_self] at hserves
          exact absurd (hserves.2.2.symm.trans hs) (by decide)
        rw [hentry hne] at hi hserves
        exact ⟨hi, hserves⟩
    case names =>
      intro i hi p hpass
      by_cases heq : i = e
      · subst heq
        rw [State.modEntry_entry_self] at hpass
        exact hp p hpass
      · rw [hentry heq] at hi hpass
        exact h.names i hi p hpass
  | force e hu hs hservice =>
    refine ⟨fun p => ?_, State.modEntry_forced_names h⟩
    rw [State.modEntry_forced_serves_iff hu]
    refine (h.out p).trans ⟨.inl, fun hor => hor.elim id fun ⟨hk, hp⟩ => ?_⟩
    exact State.serviceInForce_iff.mp (hservice p hk hp)
  | service e p hu hs hk hp =>
    have hpass (q : PassIdx) : ((s.modEntry e Entry.forced).modPass p Pass.enterService).pass q
        = if q = p then (s.pass p).enterService else s.pass q := State.modPass_pass ..
    constructor
    case out =>
      intro q
      change _ ↔ ∃ i, ((s.modEntry e Entry.forced).entry i).inUse = true
        ∧ ((s.modEntry e Entry.forced).entry i).serves q
      rw [State.modEntry_forced_serves_iff hu, hpass]
      split
      case isTrue heq => exact iff_of_true rfl (.inr ⟨hk, heq ▸ hp⟩)
      case isFalse hne =>
        refine (h.out q).trans ⟨.inl, fun hor => hor.elim id fun hq => absurd ?_ hne⟩
        exact Option.some.inj (hq.2.symm.trans hp)
    case names =>
      intro i hi q hq
      have hd := State.modEntry_forced_names h i hi q hq
      rw [hpass]
      split
      case isTrue heq => exact heq ▸ hd
      case isFalse => exact hd

theorem Law.service : Law State.Service where
  outer _ _ _ _ _ _ h := ⟨h.out, h.names⟩
  reset := State.serviceLawful_iff.mp (by decide)
  stage _ _ hst := hst.keep_of_opens fun _ _ ho => ho.keeps_service

end Sys2Proof.Machine
end

section
/-! The reservations and the grants through every step (R24, R60). -/

namespace Sys2Proof.Machine

/-! ## Reserved is the sum of the granted loads (R24) -/

/-- What a tip point's grant reserves on a pass. -/
def State.grantWeight (s : State) (p : PassIdx) (t : TipIdx) : Nat :=
  if (s.tip t).state = .granted ∧ (s.tip t).pass = p then (s.tip t).load else 0

theorem State.grantedLoad_eq (s : State) (p : PassIdx) : s.grantedLoad p = ∑ t, s.grantWeight p t := by
  rw [Fin.sum_univ_def]
  rfl

theorem State.grantWeight_of_not_granted {s : State} {p : PassIdx} {t : TipIdx} (h : (s.tip t).state ≠ .granted) :
    s.grantWeight p t = 0 := if_neg fun hg => h hg.1

theorem State.grantWeight_congr {s u : State} {t : TipIdx} (hs : (u.tip t).state = .granted ↔ (s.tip t).state = .granted)
    (hp : (u.tip t).pass = (s.tip t).pass) (hl : (u.tip t).load = (s.tip t).load) (p : PassIdx) :
    u.grantWeight p t = s.grantWeight p t := by
  unfold State.grantWeight
  rw [hp, hl]
  exact if_congr (and_congr_left' hs) rfl rfl

theorem State.grantWeight_le (s : State) (p : PassIdx) (t : TipIdx) : s.grantWeight p t ≤ s.grantedLoad p := by
  rw [State.grantedLoad_eq]
  exact Finset.single_le_sum (f := s.grantWeight p) (fun _ _ => Nat.zero_le _) (Finset.mem_univ t)

/-- One tip point's change moves the sum by its own load. -/
theorem State.grantedLoad_one {s u : State} {t : TipIdx} {p : PassIdx}
    (h : ∀ i, i ≠ t → u.grantWeight p i = s.grantWeight p i) :
    u.grantedLoad p + s.grantWeight p t = s.grantedLoad p + u.grantWeight p t := by
  have hrest : ∑ i ∈ Finset.univ.erase t, u.grantWeight p i = ∑ i ∈ Finset.univ.erase t, s.grantWeight p i :=
    Finset.sum_congr rfl fun i hi => h i (Finset.ne_of_mem_erase hi)
  rw [State.grantedLoad_eq, State.grantedLoad_eq, ← Finset.add_sum_erase _ (u.grantWeight p) (Finset.mem_univ t),
    ← Finset.add_sum_erase _ (s.grantWeight p) (Finset.mem_univ t), hrest]
  omega

/-- Each pass has reserved what its grants hold, and a grant timer runs with its grant. -/
structure State.Accounts (s : State) : Prop where
  reserved : ∀ p, (s.pass p).reserved = s.grantedLoad p
  timer : ∀ t, (s.tip t).timer.isSome = true ↔ (s.tip t).state = .granted

/-- A grant stands in RUN alone, on a RUNNING pass (R60). -/
def State.GrantsRun (s : State) : Prop :=
  ∀ t, (s.tip t).state = .granted → s.station.mode = .run ∧ (s.pass (s.tip t).pass).state = .running

theorem State.grantsLawful_iff {s : State} : s.grantsLawful = true ↔ s.Accounts ∧ s.GrantsRun := by
  have hbeq (t : TipIdx) : ((s.tip t).timer.isSome == decide ((s.tip t).state = .granted)) = true
      ↔ ((s.tip t).timer.isSome = true ↔ (s.tip t).state = .granted) := by
    rw [beq_iff_eq, Bool.eq_iff_iff, decide_eq_true_eq]
  simp only [State.grantsLawful, Bool.and_eq_true, List.all_eq_true, List.mem_finRange, true_imp_iff, hbeq,
    Bool.or_eq_true, decide_eq_true_eq, or_iff_not_imp_left, not_not]
  exact ⟨fun ⟨h1, h2⟩ => ⟨⟨h1, fun t => (h2 t).1⟩, fun t => (h2 t).2⟩,
    fun ⟨⟨h1, h2⟩, h3⟩ => ⟨h1, fun t => ⟨h2 t, h3 t⟩⟩⟩

namespace State.Accounts

variable {s u : State}

theorem of_kept (h : s.Accounts) (hr : ∀ p, (u.pass p).reserved = (s.pass p).reserved)
    (ht : ∀ t, (u.tip t).state = (s.tip t).state ∧ (u.tip t).pass = (s.tip t).pass ∧ (u.tip t).load = (s.tip t).load
      ∧ (u.tip t).timer.isSome = (s.tip t).timer.isSome) : u.Accounts where
  reserved p := by
    rw [hr, h.reserved, State.grantedLoad_eq, State.grantedLoad_eq]
    refine Finset.sum_congr rfl fun t _ => (State.grantWeight_congr ?_ (ht t).2.1 (ht t).2.2.1 p).symm
    rw [(ht t).1]
  timer t := by rw [(ht t).1, (ht t).2.2.2]; exact h.timer t

theorem of_same (h : s.Accounts) (hp : u.passes = s.passes) (ht : u.tips = s.tips) : u.Accounts := by
  have hpass (p : PassIdx) : u.pass p = s.pass p := by simp only [State.pass, hp]
  have htip (t : TipIdx) : u.tip t = s.tip t := by simp only [State.tip, ht]
  exact h.of_kept (fun p => by rw [hpass]) fun t => by rw [htip]; exact ⟨rfl, rfl, rfl, rfl⟩

/-- One tip point changes, and the reservation of its pass with it. -/
theorem of_one (h : s.Accounts) (t : TipIdx) (hother : ∀ i, i ≠ t → u.tip i = s.tip i)
    (htimer : (u.tip t).timer.isSome = true ↔ (u.tip t).state = .granted)
    (hr : ∀ p, (u.pass p).reserved + s.grantWeight p t = (s.pass p).reserved + u.grantWeight p t) : u.Accounts where
  reserved p := by
    have hw (i : TipIdx) (hi : i ≠ t) : u.grantWeight p i = s.grantWeight p i :=
      State.grantWeight_congr (by rw [hother i hi]) (by rw [hother i hi]) (by rw [hother i hi]) p
    have := State.grantedLoad_one hw
    have := hr p
    have := h.reserved p
    omega
  timer i := by
    by_cases hi : i = t
    · exact hi ▸ htimer
    · rw [hother i hi]
      exact h.timer i

/-- A tip point without a grant stays without one. -/
theorem of_ungranted (h : s.Accounts) (t : TipIdx) (hother : ∀ i, i ≠ t → u.tip i = s.tip i)
    (hs : (s.tip t).state ≠ .granted) (hu : (u.tip t).state ≠ .granted) (htimer : (u.tip t).timer.isSome = false)
    (hr : ∀ p, (u.pass p).reserved = (s.pass p).reserved) : u.Accounts :=
  h.of_one t hother (iff_of_false (by simp [htimer]) hu) fun p => by
    rw [hr, State.grantWeight_of_not_granted hs, State.grantWeight_of_not_granted hu]

theorem timer_of_ungranted (h : s.Accounts) {t : TipIdx} (hs : (s.tip t).state ≠ .granted) :
    (s.tip t).timer.isSome = false := by
  rw [← Bool.not_eq_true, h.timer]
  exact hs

theorem withdraw (h : s.Accounts) {t : TipIdx} (ht : (s.tip t).state ≠ .granted) : (s.withdrawCall t).Accounts := by
  refine h.of_ungranted t (fun i hi => ?_) ht ?_ ?_ fun p => ?_
  · rw [State.withdrawCall_tip, if_neg hi]
  · rw [State.withdrawCall_tip, if_pos rfl]
    simp
  · rw [State.withdrawCall_tip, if_pos rfl]
    exact h.timer_of_ungranted ht
  · rw [State.withdrawCall, State.modTip_pass, State.modPass_pass]
    split
    case isTrue hp => rw [hp]
    case isFalse => rfl

/-- A grant ends, and gives its room back (R62, R63, R67). -/
theorem of_ungrant (h : s.Accounts) {t : TipIdx} {state : TipState} (ht : (s.tip t).state = .granted)
    (hs : state ≠ .granted) (htip : ∀ i, u.tip i = (s.ungrant t state).tip i)
    (hr : ∀ p, (u.pass p).reserved = ((s.ungrant t state).pass p).reserved) : u.Accounts := by
  have hself : u.tip t = { s.tip t with state := state, timer := none } := by
    rw [htip, State.ungrant_tip, if_pos rfl]
  have hungranted : (u.tip t).state ≠ .granted := by
    rw [hself]
    exact hs
  refine h.of_one t (fun i hi => ?_) (iff_of_false (by simp [hself]) hungranted) fun p => ?_
  · rw [htip, State.ungrant_tip, if_neg hi]
  · rw [hr, State.ungrant_pass, State.grantWeight_of_not_granted (s := u) hungranted]
    split
    case isTrue hp =>
      have hw : s.grantWeight p t = (s.tip t).load := if_pos ⟨ht, hp.symm⟩
      have hle := (s.grantWeight_le p t).trans (h.reserved p).ge
      rw [hw] at hle ⊢
      exact Nat.sub_add_cancel hle
    case isFalse hp =>
      have hw : s.grantWeight p t = 0 := if_neg fun hg => hp hg.2.symm
      rw [hw]

theorem ungrant (h : s.Accounts) {t : TipIdx} (ht : (s.tip t).state = .granted) : (s.ungrant t .idle).Accounts :=
  h.of_ungrant ht (by simp) (fun _ => rfl) fun _ => rfl

theorem requeue (h : s.Accounts) {t : TipIdx} (ht : (s.tip t).state = .granted) :
    ((s.ungrant t .waiting).modPass (s.tip t).pass fun q => { q with waiting := q.waiting ++ [t] }).Accounts := by
  refine h.of_ungrant (state := .waiting) ht (by simp) (fun _ => rfl) fun p => ?_
  rw [State.modPass_pass]
  split
  case isTrue hp => rw [hp]
  case isFalse => rfl

theorem placeCall (h : s.Accounts) {t : TipIdx} {source : CallSource} (ht : (s.tip t).state = .idle) :
    ((s.modTip t fun x => { x with state := .waiting, source := source }).modPass (s.tip t).pass fun q =>
      { q with waiting := q.waiting ++ [t] }).Accounts := by
  refine h.of_ungranted t (fun i hi => ?_) (by simp [ht]) ?_ ?_ fun p => ?_
  · rw [State.modPass_tip, State.modTip_tip_ne _ _ _ hi]
  · rw [State.modPass_tip, State.modTip_tip_self]
    simp
  · rw [State.modPass_tip, State.modTip_tip_self]
    exact h.timer_of_ungranted (by simp [ht])
  · rw [State.modPass_pass]
    split
    case isTrue hp => rw [hp]; rfl
    case isFalse => rfl

theorem grant (h : s.Accounts) {p : PassIdx} {t : TipIdx} (hs : (s.tip t).state ≠ .granted)
    (hp : (s.tip t).pass = p) : (s.grant p t).Accounts := by
  have hself : (s.grant p t).tip t = { s.tip t with state := .granted, timer := some (s.tip t).timeout } := by
    rw [State.grant_tip, if_pos rfl]
  refine h.of_one t (fun i hi => ?_) (by simp [hself]) fun q => ?_
  · rw [State.grant_tip, if_neg hi]
  · rw [State.grantWeight_of_not_granted hs, State.grant_pass]
    split
    case isTrue hq =>
      have hw : (s.grant p t).grantWeight q t = (s.tip t).load := by
        rw [State.grantWeight, hself, if_pos ⟨rfl, hp.trans hq.symm⟩]
      rw [hw, Nat.add_zero]
    case isFalse hq =>
      have hw : (s.grant p t).grantWeight q t = 0 := by
        rw [State.grantWeight, hself, if_neg fun hg => hq (hg.2.symm.trans hp)]
      rw [hw]

end State.Accounts

/-! ## Each change keeps them -/

/-- A tip point with a grant is defined again neither in SETUP nor in service. -/
theorem State.GrantsRun.not_granted {s : State} (h : s.GrantsRun) (hl : s.Lists) {t : TipIdx}
    (hm : s.station.mode = .setup ∨ (s.tip t).defined = false ∨ (s.pass (s.tip t).pass).state = .outOfService) :
    (s.tip t).state ≠ .granted := by
  intro hg
  obtain ⟨hrun, hpass⟩ := h t hg
  rcases hm with hm | hm | hm
  · exact absurd (hm.symm.trans hrun) (by decide)
  · have hi := (hl.idle t).resolve_left (by simp [hm])
    exact absurd (hi.symm.trans hg) (by decide)
  · exact absurd (hm.symm.trans hpass) (by decide)

theorem Pass.define_reserved {height : Nat} {profile : List Segment} {q : Pass}
    (h : q.defined = false → q.reserved = 0) : (Pass.define height profile q).reserved = q.reserved := by
  unfold Pass.define Pass.clampTuning
  dsimp only
  split
  case isTrue hd => exact (h (by simpa using hd)).symm
  case isFalse => split <;> rfl

/-- An undefined pass has nothing reserved. -/
theorem State.Accounts.reserved_of_undefined {s : State} (h : s.Accounts) (hl : s.Lists) {p : PassIdx}
    (hp : (s.pass p).defined = false) : (s.pass p).reserved = 0 := by
  rw [h.reserved, State.grantedLoad_eq]
  refine Finset.sum_eq_zero fun t _ => if_neg fun hg => ?_
  have hd := (hl.idle t).resolve_right (by simp [hg.1])
  exact absurd (hp.symm.trans (hg.2 ▸ hl.home t hd)) (by decide)

theorem Tip.define_timer (p : PassIdx) (elevation load level : Nat) (grizzly : Option StationIdx) {x : Tip}
    (h : x.timer.isSome = false) : (Tip.define p elevation load level grizzly x).timer.isSome = false := by
  unfold Tip.define
  dsimp only
  split
  · exact h
  · rfl

theorem State.Accounts.modTip_define {s : State} (h : s.Accounts) {t : TipIdx} (ht : (s.tip t).state ≠ .granted)
    (p : PassIdx) (elevation load level : Nat) (grizzly : Option StationIdx) :
    (s.modTip t (Tip.define p elevation load level grizzly)).Accounts := by
  refine h.of_ungranted t (fun i hi => State.modTip_tip_ne _ _ _ hi) ht ?_ ?_ fun _ => rfl
  · rw [State.modTip_tip_self, (Tip.define_rest p elevation load level grizzly _).2.2]
    split
    · exact ht
    · simp
  · rw [State.modTip_tip_self]
    exact Tip.define_timer p elevation load level grizzly (h.timer_of_ungranted ht)

theorem Change.accounts {s t : State} (hc : Change s t) (hl : s.Lists) (hg : s.GrantsRun) (h : s.Accounts) :
    t.Accounts := by
  cases hc with
  | passes ps hp => exact h.of_kept (fun p => (hp p).reserved) fun _ => ⟨rfl, rfl, rfl, rfl⟩
  | tips ts ht => exact h.of_kept (fun _ => rfl) fun i => ⟨(ht i).state, (ht i).pass, (ht i).load, (ht i).timer⟩
  | placeCall i source hd hi => exact h.placeCall hi
  | withdraw i hi => exact h.withdraw (by simp [hi])
  | ungrant i hi => exact h.ungrant hi
  | requeue i hi => exact h.requeue hi
  | grant p i hi =>
    obtain ⟨hw, hp⟩ := (hl.mem p i).mp (State.chooseCall_mem hi).1
    exact h.grant (by simp [hw]) hp
  | definePass p height profile =>
    refine h.of_kept (fun q => ?_) fun _ => ⟨rfl, rfl, rfl, rfl⟩
    rw [State.modPass_pass]
    split
    case isTrue hq => subst hq; exact Pass.define_reserved fun hd => h.reserved_of_undefined hl hd
    case isFalse => rfl
  | defineTip i p elevation load level grizzly hm =>
    have hi := hg.not_granted hl hm
    split
    · refine (h.withdraw hi).modTip_define ?_ ..
      rw [State.withdrawCall_tip, if_pos rfl]
      simp
    · exact h.modTip_define hi ..
  | start =>
    refine h.of_kept (fun p => ?_) fun _ => ⟨rfl, rfl, rfl, rfl⟩
    rw [State.mapPasses_pass]
    exact Pass.start_reserved _
  | setup =>
    have htip (i : TipIdx) : s.enterSetup.tip i
        = { s.tip i with state := if (s.tip i).state = .waiting then .idle else (s.tip i).state } := by
      rw [State.enterSetup, State.mapChutes_tip, State.mapTips_tip]
      rfl
    have hstate (i : TipIdx) : (s.enterSetup.tip i).state = .granted ↔ (s.tip i).state = .granted := by
      rw [htip]
      dsimp only
      split <;> simp_all
    constructor
    case reserved =>
      intro p
      rw [State.grantedLoad_eq, State.enterSetup, State.mapChutes_pass, State.mapTips_pass, State.mapPasses_pass]
      refine (h.reserved p).trans ((s.grantedLoad_eq p).trans (Finset.sum_congr rfl fun i _ => ?_))
      exact (State.grantWeight_congr (hstate i) (by rw [htip]) (by rw [htip]) p).symm
    case timer =>
      intro i
      rw [hstate, ← h.timer, htip]
  | @retire e ev hev =>
    subst hev
    obtain ⟨ps, es, heq⟩ := ev.retire_frame e
    refine h.of_kept (fun p => ?_) fun i => by rw [heq]; exact ⟨rfl, rfl, rfl, rfl⟩
    rcases ev.retire_pass e p with hp | ⟨-, hp⟩ <;> rw [hp]
    exact Pass.leaveService_reserved _
  | _ => exact h.of_same rfl rfl

/-- In RUN a RUNNING pass runs on through every change. -/
theorem Pass.Steps.running {s : State} {p : PassIdx} {q : Pass} (h : Pass.Steps s p q) (hs : s.Service)
    (hrun : s.station.mode = .run) (hp : (s.pass p).state = .running) : q.state = .running := by
  cases h with
  | evolves h => exact h.running hp
  | calls h => exact h.state.trans hp
  | define height profile hm =>
    rcases hm with hm | hm
    · exact absurd (hm.symm.trans hrun) (by decide)
    · exact absurd (hm.symm.trans hp) (by decide)
  | start hm => exact absurd (hm.symm.trans hrun) (by decide)
  | leave e hu hserves => exact absurd (((hs.out p).mpr ⟨e, hu, hserves⟩).symm.trans hp) (by decide)

/-- A tip point with a grant after a change stays on its pass. -/
theorem Tip.Steps.pass_of_granted {s : State} {i : TipIdx} {y : Tip} (h : Tip.Steps s i y) (hl : s.Lists)
    (hg : s.GrantsRun) (hy : y.state = .granted) : y.pass = (s.tip i).pass := by
  cases h with
  | evolves h => exact h.pass
  | calls => rfl
  | @define x p elevation load level grizzly hx _ hm =>
    rw [(Tip.define_rest p elevation load level grizzly x).2.2] at hy
    split at hy
    · rcases hx with rfl | rfl
      · exact absurd hy (hg.not_granted hl hm)
      · cases hy
    · cases hy

theorem Change.grantsRun {s t : State} (hc : Change s t) (hl : s.Lists) (hs : s.Service) (hg : s.GrantsRun) :
    t.GrantsRun := by
  intro i hi
  have hsteps := hc.tip_steps i
  obtain ⟨hrun, hpass⟩ : s.station.mode = .run ∧ (s.pass (s.tip i).pass).state = .running := by
    rcases hsteps.granted hi with hgranted | ⟨p, hp⟩
    · exact hg i hgranted
    · obtain ⟨-, hrun, hpass, -⟩ := State.eligible_of_chooseCall hp
      exact ⟨hrun, hpass⟩
  refine ⟨hc.run hrun, ?_⟩
  rw [hsteps.pass_of_granted hl hg hi]
  exact (hc.pass_steps _).running hs hrun hpass

/-- What the grants' law needs beside it. -/
structure State.Granting (s : State) : Prop where
  lists : s.Lists
  service : s.Service
  accounts : s.Accounts
  runs : s.GrantsRun

theorem Change.granting {s t : State} (hc : Change s t) (h : s.Granting) : t.Granting :=
  ⟨hc.lists h.lists, hc.service h.service, hc.accounts h.lists h.runs h.accounts,
    hc.grantsRun h.lists h.service h.runs⟩

theorem Changes.granting {s t : State} (hc : Changes s t) (h : s.Granting) : t.Granting :=
  hc.keep (fun _ _ hc => hc.granting) h

/-! ## Each stage keeps them -/

theorem State.Accounts.revoke {ev : Event} (h : ev.st.Accounts) (t : TipIdx) : (ev.revoke t).st.Accounts := by
  unfold Event.revoke
  split
  case isTrue ht =>
    split
    · exact h.requeue ht
    · exact h.ungrant ht
  case isFalse => exact h

theorem State.Accounts.revokeWhere {ev : Event} (h : ev.st.Accounts) (which : TipIdx → Bool) :
    (ev.revokeWhere which).st.Accounts :=
  Event.revokeWhere_induct (P := fun ev => ev.st.Accounts) which (fun _ t _ h => h.revoke t) ev h

theorem Event.revokeWhere_mode (which : TipIdx → Bool) (ev : Event) :
    (ev.revokeWhere which).st.station = ev.st.station := by
  rw [(Event.revokeWhere_revoked which ev).frame]

/-- Where every grant that may not stand is revoked, the grants stand lawfully. -/
theorem State.GrantsRun.revokeWhere {ev : Event} {which : TipIdx → Bool}
    (h : ∀ t, (ev.st.tip t).state = .granted → which t = false →
      ev.st.station.mode = .run ∧ (ev.st.pass (ev.st.tip t).pass).state = .running) :
    (ev.revokeWhere which).st.GrantsRun := by
  intro t ht
  have hkeep : ¬ (which t = true ∧ (ev.st.tip t).state = .granted) := fun hn =>
    Event.revokeWhere_not_granted (fun _ => hn.1) ht
  have htip : (ev.revokeWhere which).st.tip t = ev.st.tip t := by rw [Event.revokeWhere_tip, if_neg hkeep]
  rw [htip] at ht ⊢
  rw [Event.revokeWhere_mode, Event.revokeWhere_pass]
  exact h t ht (by simpa using fun hw => hkeep ⟨hw, ht⟩)

theorem State.Granting.revokeWhere {ev : Event} {which : TipIdx → Bool} (hl : ev.st.Lists) (hs : ev.st.Service)
    (ha : ev.st.Accounts) (h : ∀ t, (ev.st.tip t).state = .granted → which t = false →
      ev.st.station.mode = .run ∧ (ev.st.pass (ev.st.tip t).pass).state = .running) :
    (ev.revokeWhere which).st.Granting where
  lists := (ev.revokeWhere_changes which).keep (fun _ _ hc => hc.lists) hl
  service := (ev.revokeWhere_changes which).keep (fun _ _ hc => hc.service) hs
  accounts := ha.revokeWhere which
  runs := State.GrantsRun.revokeWhere h

/-- The grants are lawful again once those of a pass that is RUNNING no more are revoked. -/
theorem State.Granting.revokePass {s u : State} {p : PassIdx} {ev : Event} {which : TipIdx → Bool} (h : s.Granting)
    (hev : ev.st = u) (hl : u.Lists) (hs : u.Service) (htips : u.tips = s.tips) (hmode : u.station = s.station)
    (hpass : ∀ q, q ≠ p → u.pass q = s.pass q) (hreserved : (u.pass p).reserved = (s.pass p).reserved)
    (hw : ∀ t, (s.tip t).state = .granted → (s.tip t).pass = p → which t = true) :
    (ev.revokeWhere which).st.Granting := by
  subst hev
  have htip (t : TipIdx) : ev.st.tip t = s.tip t := by simp only [State.tip, htips]
  refine .revokeWhere hl hs ?_ fun t ht hn => ?_
  · refine h.accounts.of_kept (fun q => ?_) fun t => by rw [htip]; exact ⟨rfl, rfl, rfl, rfl⟩
    by_cases hq : q = p
    · exact hq ▸ hreserved
    · rw [hpass q hq]
  · rw [htip] at ht ⊢
    have hne : (s.tip t).pass ≠ p := fun hp => absurd ((hw t ht hp).symm.trans hn) (by decide)
    rw [hmode, hpass _ hne]
    exact h.runs t ht

theorem State.Granting.of_same {s u : State} (h : s.Granting) (hl : u.Lists) (hs : u.Service)
    (hp : u.passes = s.passes) (ht : u.tips = s.tips) (hm : u.station = s.station) : u.Granting where
  lists := hl
  service := hs
  accounts := h.accounts.of_same hp ht
  runs t hg := by
    have hpass (p : PassIdx) : u.pass p = s.pass p := by simp only [State.pass, hp]
    have htip (t : TipIdx) : u.tip t = s.tip t := by simp only [State.tip, ht]
    rw [htip] at hg ⊢
    rw [hpass, hm]
    exact h.runs t hg

theorem Stage.granting {s t : State} (hst : Stage s t) (h : s.Granting) : t.Granting := by
  cases hst with
  | change hc => exact hc.granting h
  | @hang p m ev hev hm hr hh =>
    have ho : Opens s (s.modPass p (Pass.measure m)) := .hang p m hm hr hh
    refine (Event.abortWhere_changes _ _).granting (h.revokePass hev (ho.lists h.lists)
      (ho.keeps_service h.service) rfl rfl (fun q hq => State.modPass_pass_ne _ _ _ hq) ?_ fun t ht hp => ?_)
    · rw [State.modPass_pass_self]
      exact Pass.measure_reserved ..
    · exact decide_eq_true ⟨hp, ht⟩
  | @halt cause ev hev =>
    subst hev
    have ho := Opens.halt (s := ev.st) cause
    have hrevoked := State.Granting.revokeWhere (ev := ev.update (State.modStation fun x =>
      { x with mode := .halted, causes := x.causes.add cause, conds := raise .halted x.conds }))
      (which := fun t => decide ((ev.st.tip t).state = .granted)) (ho.lists h.lists) (ho.keeps_service h.service)
      (h.accounts.of_same rfl rfl) fun t ht hn => absurd ht (of_decide_eq_false hn)
    exact (Event.haltBreaker_change _).granting ((Event.abortWhere_changes _ _).granting hrevoked)
  | @post e x ev hev hfree hx hs hp =>
    subst hev
    have ho := Opens.post e x hfree hx hs hp
    exact (ev.post_changes e x).granting (h.of_same (ho.lists h.lists) (ho.keeps_service h.service) rfl rfl rfl)
  | @force e ev hev hu hw hs =>
    subst hev
    rcases ev.enterForce_cases e with ⟨heq, hservice⟩ | ⟨p, hk, hp, hn, heq⟩
    · rw [heq]
      have ho := Opens.force e hu hs hservice
      exact h.of_same (ho.lists h.lists) (ho.keeps_service h.service) rfl rfl rfl
    · rw [heq]
      have ho := Opens.service e p hu hs hk hp hn
      refine h.revokePass (ev := (ev.update (State.modEntry e Entry.forced)).update (State.modPass p Pass.enterService))
        rfl (ho.lists h.lists) (ho.keeps_service h.service) rfl rfl
        (fun q hq => State.modPass_pass_ne _ _ _ hq) ?_ fun t ht hp => decide_eq_true ⟨hp, ht⟩
      rw [Event.update_st, State.modPass_pass_self]
      rfl

theorem Law.granting : Law State.Granting where
  outer s r ls lk at' pd h := ⟨Law.lists.outer s r ls lk at' pd h.lists, Law.service.outer s r ls lk at' pd h.service,
    ⟨h.accounts.reserved, h.accounts.timer⟩, h.runs⟩
  reset := by
    have hg := State.grantsLawful_iff.mp (show State.reset.grantsLawful = true by decide)
    exact ⟨Law.lists.reset, Law.service.reset, hg.1, hg.2⟩
  stage _ _ hst := hst.granting

end Sys2Proof.Machine
end

section
/-! Covered plant keeps still through every step (R60, R100, R129, R130). -/

namespace Sys2Proof.Machine

/-! ## What an entry keeps still -/

/-- No tip point the entry covers is GRANTED, no station it covers is worked at, and once it is IN_FORCE its gates are
CLOSED and its breaker PARKED. -/
def State.KeptStill (s : State) (e : EntryIdx) : Prop :=
  (∀ t, s.coversTip e t = true → (s.tip t).state ≠ .granted)
    ∧ (∀ k, s.coversStation e k = true → s.breakerAt k = false)
    ∧ ((s.entry e).state = .inForce → (∀ c, s.coversChute e c = true → (s.chute c).state = .closed)
      ∧ (s.carriesBreaker e = true → s.breaker.state = .parked))

theorem State.coverageLawful_iff {s : State} : s.coverageLawful = true ↔ ∀ e, s.KeptStill e := by
  simp only [State.coverageLawful, State.KeptStill, List.all_eq_true, List.mem_finRange, true_imp_iff,
    Bool.and_eq_true, Bool.or_eq_true, Bool.not_eq_true', decide_eq_true_eq, or_iff_not_imp_left, Bool.not_eq_false,
    not_not, and_assoc]

/-! ## Coverage through a change of its records -/

section

variable {s u : State} {e : EntryIdx}

theorem State.coversTip_evolves (he : (s.entry e).Evolves (u.entry e)) {t : TipIdx}
    (hd : (u.tip t).defined = (s.tip t).defined) (hp : (u.tip t).pass = (s.tip t).pass)
    (hel : (u.tip t).elevation = (s.tip t).elevation) : u.coversTip e t = s.coversTip e t := by
  simp only [State.coversTip, he.inUse, he.kind, he.pass, he.low, he.maskTips, hd, hp, hel]

theorem State.coversChute_evolves (he : (s.entry e).Evolves (u.entry e)) {c : ChuteIdx}
    (hd : (u.chute c).defined = (s.chute c).defined) (hp : (u.chute c).pass = (s.chute c).pass)
    (hel : (u.chute c).elevation = (s.chute c).elevation) : u.coversChute e c = s.coversChute e c := by
  simp only [State.coversChute, he.inUse, he.kind, he.pass, he.high, he.maskChutes, hd, hp, hel]

theorem State.carriesBreaker_evolves (he : (s.entry e).Evolves (u.entry e)) :
    u.carriesBreaker e = s.carriesBreaker e := by
  simp only [State.carriesBreaker, he.inUse, he.maskBreaker]

/-- Plant that keeps its place and comes no nearer to what the entry forbids is kept still on. -/
theorem State.KeptStill.of_place (h : s.KeptStill e) (he : (s.entry e).Evolves (u.entry e))
    (hk : ∀ k, (s.bst k).Evolves (u.bst k))
    (ht : ∀ t, ((u.tip t).defined = (s.tip t).defined ∧ (u.tip t).pass = (s.tip t).pass
      ∧ (u.tip t).elevation = (s.tip t).elevation)
      ∧ (s.coversTip e t = true → (u.tip t).state = .granted → (s.tip t).state = .granted))
    (hc : ∀ c, ((u.chute c).defined = (s.chute c).defined ∧ (u.chute c).pass = (s.chute c).pass
      ∧ (u.chute c).elevation = (s.chute c).elevation)
      ∧ (s.coversChute e c = true → (s.chute c).state = .closed → (u.chute c).state = .closed))
    (hb : (s.carriesBreaker e = true → s.breaker.state = .parked → u.breaker.state = .parked)
      ∧ ∀ k, s.coversStation e k = true → u.breakerAt k = true → s.breakerAt k = true) : u.KeptStill e := by
  obtain ⟨h1, h2, h3⟩ := h
  have htip (t : TipIdx) : u.coversTip e t = s.coversTip e t :=
    State.coversTip_evolves he (ht t).1.1 (ht t).1.2.1 (ht t).1.2.2
  refine ⟨fun t hcov hg => ?_, fun k hcov => ?_, fun hf => ⟨fun c hcov => ?_, fun hcar => ?_⟩⟩
  · rw [htip] at hcov
    exact h1 t hcov ((ht t).2 hcov hg)
  · have hstation : s.coversStation e k = true := by
      rw [State.coversStation, (hk k).defined, (hk k).tip, htip] at hcov
      exact hcov
    by_contra hat
    have := (h2 k hstation).symm.trans (hb.2 k hstation (by simpa using hat))
    cases this
  · rw [State.coversChute_evolves he (hc c).1.1 (hc c).1.2.1 (hc c).1.2.2] at hcov
    exact (hc c).2 hcov ((h3 (he.state.mp hf)).1 c hcov)
  · rw [State.carriesBreaker_evolves he] at hcar
    exact hb.1 hcar ((h3 (he.state.mp hf)).2 hcar)

/-- Only the tip points change: their states, and no new grant on covered plant. -/
theorem State.KeptStill.of_tips (h : s.KeptStill e) (hu : u = { s with passes := u.passes, tips := u.tips })
    (ht : ∀ t, ((u.tip t).defined = (s.tip t).defined ∧ (u.tip t).pass = (s.tip t).pass
      ∧ (u.tip t).elevation = (s.tip t).elevation)
      ∧ (s.coversTip e t = true → (u.tip t).state = .granted → (s.tip t).state = .granted)) : u.KeptStill e := by
  have hentries : u.entries = s.entries := by rw [hu]
  have hstations (k : StationIdx) : u.bst k = s.bst k := by rw [hu]; rfl
  have hchutes (c : ChuteIdx) : u.chute c = s.chute c := by rw [hu]; rfl
  have hbreaker : u.breaker = s.breaker := by rw [hu]
  refine h.of_place (State.entry_evolves_refl hentries e) (fun k => by rw [hstations]; exact .refl _) ht
    (fun c => by rw [hchutes]; exact ⟨⟨rfl, rfl, rfl⟩, fun _ => id⟩) ⟨fun _ => by rw [hbreaker]; exact id, fun k _ => ?_⟩
  simp only [State.breakerAt, hbreaker]
  exact id

/-- Only the breaker and the scanner change, and the breaker comes to no covered work. -/
theorem State.KeptStill.of_breaker {b : Breaker} {sc : Scanner} (h : s.KeptStill e)
    (hp : s.carriesBreaker e = true → s.breaker.state = .parked → b.state = .parked)
    (hk : ∀ k, s.coversStation e k = true → State.breakerAt { s with breaker := b } k = true →
      s.breakerAt k = true) : State.KeptStill { s with breaker := b, scanner := sc } e :=
  h.of_place (.refl _) (fun _ => .refl _) (fun _ => ⟨⟨rfl, rfl, rfl⟩, fun _ => id⟩)
    (fun _ => ⟨⟨rfl, rfl, rfl⟩, fun _ => id⟩) ⟨hp, hk⟩

theorem State.chuteCovered_of_covers {c : ChuteIdx} (h : s.coversChute e c = true) : s.chuteCovered c = true :=
  List.any_eq_true.mpr ⟨e, List.mem_finRange e, h⟩

theorem State.tipCovered_of_covers {t : TipIdx} (h : s.coversTip e t = true) : s.tipCovered t = true :=
  List.any_eq_true.mpr ⟨e, List.mem_finRange e, h⟩

theorem State.stationCovered_of_covers {k : StationIdx} (h : s.coversStation e k = true) : s.stationCovered k = true :=
  List.any_eq_true.mpr ⟨e, List.mem_finRange e, h⟩

theorem State.breakerCovered_of_carries (h : s.carriesBreaker e = true) : s.breakerCovered = true :=
  List.any_eq_true.mpr ⟨e, List.mem_finRange e, h⟩

end

/-! ## Work that is not under way -/

theorem State.breakerAt_of_not_goes {s : State} (h : s.breaker.state.goes = false) (k : StationIdx) :
    s.breakerAt k = false := by
  rw [← Bool.not_eq_true, State.breakerAt_iff]
  exact fun hat => absurd (h.symm.trans hat.1) (by decide)

theorem State.goes_eq_false_of_setup {s : State} (h : s.plantSafe = true) (hm : s.station.mode = .setup) :
    s.breaker.state.goes = false :=
  ((State.plantSafe_iff.mp h).resolve_left (by simp [hm])).2.2

/-- Where a tip point may be defined again the breaker works at no station over it. -/
theorem State.breakerAt_of_redefined {s : State} (h : ∀ e, s.KeptStill e) (hs : s.Service)
    (hsafe : s.plantSafe = true) (hst : ∀ k, (s.bst k).defined = true → (s.tip (s.bst k).tip).defined = true)
    {t : TipIdx} (hm : s.station.mode = .setup ∨ (s.tip t).defined = false
      ∨ (s.pass (s.tip t).pass).state = .outOfService) {k : StationIdx} (hk : (s.bst k).defined = true)
    (ht : (s.bst k).tip = t) : s.breakerAt k = false := by
  subst ht
  have hd := hst k hk
  rcases hm with hm | hm | hm
  · exact State.breakerAt_of_not_goes (State.goes_eq_false_of_setup hsafe hm) k
  · exact absurd (hd.symm.trans hm) (by decide)
  · obtain ⟨e, hu, hkind, hpass, -⟩ := (hs.out _).mp hm
    refine (h e).2.1 k ?_
    simp [State.coversStation, State.coversTip, hk, hu, hd, hkind, hpass]

theorem State.breakerAt_of_held {s : State} (h : ∀ e, s.KeptStill e) (hheld : s.breakerHeldInForce = true)
    (k : StationIdx) : s.breakerAt k = false := by
  simp only [State.breakerHeldInForce, List.any_eq_true, List.mem_finRange, true_and, Bool.and_eq_true,
    decide_eq_true_eq] at hheld
  obtain ⟨e, hcar, hf⟩ := hheld
  have hp := ((h e).2.2 hf).2 hcar
  exact State.breakerAt_of_not_goes (by simp [hp, BreakerState.goes]) k

/-! ## Each change keeps covered plant still -/

/-- What the law of the covered plant needs beside it. -/
structure State.Covering (s : State) : Prop where
  granting : s.Granting
  safe : s.plantSafe = true
  stations : ∀ k, (s.bst k).defined = true → (s.tip (s.bst k).tip).defined = true
  still : ∀ e, s.KeptStill e

theorem Tip.define_not_granted {p : PassIdx} {elevation load level : Nat} {grizzly : Option StationIdx} {x : Tip}
    (h : x.state ≠ .granted) : (Tip.define p elevation load level grizzly x).state ≠ .granted := by
  rw [(Tip.define_rest p elevation load level grizzly x).2.2]
  split
  · exact h
  · simp

theorem State.KeptStill.defineTip {s u : State} {e : EntryIdx} {t : TipIdx} (h : s.KeptStill e)
    (hu : u = { s with passes := u.passes, tips := u.tips }) (hother : ∀ i, i ≠ t → u.tip i = s.tip i)
    (hg : (u.tip t).state ≠ .granted)
    (hk : ∀ k, (s.bst k).defined = true → (s.bst k).tip = t → s.breakerAt k = false) : u.KeptStill e := by
  have hentries (e : EntryIdx) : u.entry e = s.entry e := by rw [hu]; rfl
  have hstations (k : StationIdx) : u.bst k = s.bst k := by rw [hu]; rfl
  have hchutes (c : ChuteIdx) : u.chute c = s.chute c := by rw [hu]; rfl
  have hbreaker : u.breaker = s.breaker := by rw [hu]
  have htip (i : TipIdx) (hi : i ≠ t) : u.coversTip e i = s.coversTip e i :=
    State.coversTip_evolves (hentries e ▸ .refl _) (by rw [hother i hi]) (by rw [hother i hi]) (by rw [hother i hi])
  have hat (k : StationIdx) : u.breakerAt k = s.breakerAt k := by simp only [State.breakerAt, hbreaker]
  have hchute (c : ChuteIdx) : u.coversChute e c = s.coversChute e c :=
    State.coversChute_evolves (hentries e ▸ .refl _) (by rw [hchutes]) (by rw [hchutes]) (by rw [hchutes])
  obtain ⟨h1, h2, h3⟩ := h
  refine ⟨fun i hcov => ?_, fun k hcov => ?_, fun hf => ?_⟩
  · by_cases hi : i = t
    · exact hi ▸ hg
    · rw [htip i hi] at hcov
      rw [hother i hi]
      exact h1 i hcov
  · rw [hat]
    rw [State.coversStation, hstations, Bool.and_eq_true] at hcov
    by_cases hi : (s.bst k).tip = t
    · exact hk k hcov.1 hi
    · rw [htip _ hi] at hcov
      exact h2 k (by rw [State.coversStation, hcov.1, hcov.2]; rfl)
  · rw [hentries] at hf
    refine ⟨fun c hcov => ?_, fun hcar => ?_⟩
    · rw [hchutes]
      exact (h3 hf).1 c ((hchute c).symm.trans hcov)
    · rw [hbreaker]
      refine (h3 hf).2 (Eq.trans ?_ hcar)
      simp only [State.carriesBreaker, hentries]

theorem State.KeptStill.ungrant {s : State} {e : EntryIdx} (h : s.KeptStill e) (t : TipIdx) {state : TipState}
    (hs : state ≠ .granted) : (s.ungrant t state).KeptStill e := by
  refine h.of_tips rfl fun i => ?_
  rw [State.ungrant_tip]
  split
  · exact ⟨⟨rfl, rfl, rfl⟩, fun _ hg => absurd hg hs⟩
  · exact ⟨⟨rfl, rfl, rfl⟩, fun _ => id⟩

theorem State.KeptStill.withdraw {s : State} {e : EntryIdx} (h : s.KeptStill e) (t : TipIdx) :
    (s.withdrawCall t).KeptStill e := by
  refine h.of_tips rfl fun i => ?_
  rw [State.withdrawCall_tip]
  split
  · exact ⟨⟨rfl, rfl, rfl⟩, fun _ hg => by cases hg⟩
  · exact ⟨⟨rfl, rfl, rfl⟩, fun _ => id⟩

theorem State.KeptStill.placeCall {s : State} {e : EntryIdx} (h : s.KeptStill e) (t : TipIdx) (source : CallSource) :
    ((s.modTip t fun x => { x with state := .waiting, source := source }).modPass (s.tip t).pass fun q =>
      { q with waiting := q.waiting ++ [t] }).KeptStill e := by
  refine h.of_tips rfl fun i => ?_
  rw [State.modPass_tip, State.modTip_tip]
  split
  case isTrue hi => subst hi; exact ⟨⟨rfl, rfl, rfl⟩, fun _ hg => by cases hg⟩
  case isFalse => exact ⟨⟨rfl, rfl, rfl⟩, fun _ => id⟩

theorem State.KeptStill.grant {s : State} {e : EntryIdx} (h : s.KeptStill e) (p : PassIdx) {t : TipIdx}
    (ht : s.tipCovered t = false) : (s.grant p t).KeptStill e := by
  refine h.of_tips rfl fun i => ?_
  rw [State.grant_tip]
  split
  case isTrue hi =>
    subst hi
    exact ⟨⟨rfl, rfl, rfl⟩, fun hcov _ => absurd (ht.symm.trans (State.tipCovered_of_covers hcov)) (by decide)⟩
  case isFalse => exact ⟨⟨rfl, rfl, rfl⟩, fun _ => id⟩

theorem State.KeptStill.setup {s : State} {e : EntryIdx} (h : s.KeptStill e) : s.enterSetup.KeptStill e := by
  refine h.of_place (.refl _) (fun _ => .refl _) (fun t => ?_) (fun c => ?_) ⟨fun _ => id, fun _ _ => id⟩
  · rw [State.enterSetup, State.mapChutes_tip, State.mapTips_tip]
    refine ⟨⟨rfl, rfl, rfl⟩, fun _ hg => ?_⟩
    change (if (s.tip t).state = .waiting then TipState.idle else (s.tip t).state) = _ at hg
    split at hg
    · cases hg
    · exact hg
  · rw [State.enterSetup, State.mapChutes_chute]
    exact ⟨⟨rfl, rfl, rfl⟩, fun _ => id⟩

/-- A change of one entry leaves the others' plant as it is. -/
theorem State.KeptStill.of_entry {s u : State} {e : EntryIdx} (h : s.KeptStill e)
    (hu : u = { s with passes := u.passes, entries := u.entries }) (he : (s.entry e).Evolves (u.entry e)) :
    u.KeptStill e := by
  have htips (t : TipIdx) : u.tip t = s.tip t := by rw [hu]; rfl
  have hstations (k : StationIdx) : u.bst k = s.bst k := by rw [hu]; rfl
  have hchutes (c : ChuteIdx) : u.chute c = s.chute c := by rw [hu]; rfl
  have hbreaker : u.breaker = s.breaker := by rw [hu]
  refine h.of_place he (fun k => by rw [hstations]; exact .refl _)
    (fun t => by rw [htips]; exact ⟨⟨rfl, rfl, rfl⟩, fun _ => id⟩)
    (fun c => by rw [hchutes]; exact ⟨⟨rfl, rfl, rfl⟩, fun _ => id⟩) ⟨fun _ => by rw [hbreaker]; exact id, fun k _ => ?_⟩
  simp only [State.breakerAt, hbreaker]
  exact id

/-- A free entry covers nothing. -/
theorem State.keptStill_of_free {s : State} {e : EntryIdx} (h : (s.entry e).inUse = false) : s.KeptStill e := by
  refine ⟨fun t hcov => ?_, fun k hcov => ?_, fun _ => ⟨fun c hcov => ?_, fun hcar => ?_⟩⟩
  · simp [State.coversTip, h] at hcov
  · simp [State.coversStation, State.coversTip, h] at hcov
  · simp [State.coversChute, h] at hcov
  · simp [State.carriesBreaker, h] at hcar

theorem State.KeptStill.defineStation {s : State} {e : EntryIdx} (h : s.KeptStill e) (k : StationIdx)
    (f : Station → Station) (hat : ∀ k, s.breakerAt k = false) : (s.modBst k f).KeptStill e :=
  ⟨h.1, fun k _ => hat k, h.2.2⟩

theorem State.KeptStill.defineChute {s u : State} {e : EntryIdx} (h : s.KeptStill e) {c : ChuteIdx}
    {p : PassIdx} {elevation volume : Nat} (hc : (s.chute c).defined = true → (s.chute c).state = .closed)
    (hu : u = s.modChute c (Chute.define p elevation volume)) : u.KeptStill e := by
  subst hu
  have hchute (i : ChuteIdx) (hcov : (s.modChute c (Chute.define p elevation volume)).coversChute e i = true) :
      i = c ∨ s.coversChute e i = true ∧ (s.modChute c (Chute.define p elevation volume)).chute i = s.chute i := by
    by_cases hi : i = c
    · exact .inl hi
    · have heq : (s.modChute c (Chute.define p elevation volume)).chute i = s.chute i :=
        State.modChute_chute_ne _ _ _ hi
      exact .inr ⟨(State.coversChute_evolves (s := s) (u := s.modChute c (Chute.define p elevation volume)) (.refl _)
        (by rw [heq]) (by rw [heq]) (by rw [heq])).symm.trans hcov, heq⟩
  refine ⟨h.1, h.2.1, fun hf => ⟨fun i hcov => ?_, (h.2.2 hf).2⟩⟩
  rcases hchute i hcov with rfl | ⟨hcov, heq⟩
  · rw [State.modChute_chute_self]
    exact Chute.define_state hc
  · rw [heq]
    exact (h.2.2 hf).1 i hcov

theorem Change.keptStill {s t : State} (hc : Change s t) (h : s.Covering) (e : EntryIdx) : t.KeptStill e := by
  have he := h.still e
  cases hc with
  | tips ts ht =>
    exact he.of_tips rfl fun i => ⟨⟨(ht i).defined, (ht i).pass, (ht i).elevation⟩, fun _ hg => (ht i).state.symm.trans hg⟩
  | chutes cs hcs =>
    refine he.of_place (.refl _) (fun _ => .refl _) (fun _ => ⟨⟨rfl, rfl, rfl⟩, fun _ => id⟩) (fun c => ?_)
      ⟨fun _ => id, fun _ _ => id⟩
    refine ⟨⟨(hcs c).defined, (hcs c).pass, (hcs c).elevation⟩, fun hcov hx => ((hcs c).leaves hx).resolve_right ?_⟩
    simp [State.chuteCovered_of_covers hcov]
  | stations ks hks =>
    exact he.of_place (.refl _) hks (fun _ => ⟨⟨rfl, rfl, rfl⟩, fun _ => id⟩)
      (fun _ => ⟨⟨rfl, rfl, rfl⟩, fun _ => id⟩) ⟨fun _ => id, fun _ _ => id⟩
  | entries es hes => exact he.of_entry rfl (hes e)
  | breaker b sc hb =>
    refine he.of_breaker (fun hcar hp => (hb.leaves hp).resolve_right ?_) fun k hcov hat =>
      (hb.reaches k hat).resolve_right ?_
    · simp [State.breakerCovered_of_carries hcar]
    · simp [State.stationCovered_of_covers hcov]
  | placeCall i source => exact he.placeCall i source
  | withdraw i => exact he.withdraw i
  | ungrant i => exact he.ungrant i (by simp)
  | requeue i =>
    have hi : (s.ungrant i .waiting).KeptStill e := he.ungrant i (by simp)
    exact hi
  | grant p i hi => exact he.grant p (State.eligible_of_chooseCall hi).2.2.2.1
  | defineTip i p elevation load level grizzly hm =>
    have hi := h.granting.runs.not_granted h.granting.lists hm
    refine he.defineTip (t := i) ?_ (fun j hj => ?_) ?_
      fun k => State.breakerAt_of_redefined h.still h.granting.service h.safe h.stations hm
    · split <;> rfl
    · rw [State.modTip_tip_ne _ _ _ hj]
      split
      · rw [State.withdrawCall_tip, if_neg hj]
      · rfl
    · have hbefore : ((if (s.tip i).defined && decide ((s.tip i).state = .waiting) then s.withdrawCall i else s).tip
          i).state ≠ .granted := by
        split
        · rw [State.withdrawCall_tip, if_pos rfl]
          simp
        · exact hi
      rw [State.modTip_tip_self]
      exact Tip.define_not_granted hbefore
  | defineChute c p elevation volume hcl => exact he.defineChute hcl rfl
  | defineStation k i group hm =>
    refine he.defineStation k _ fun j => ?_
    rcases hm with hm | hm
    · exact State.breakerAt_of_not_goes (State.goes_eq_false_of_setup h.safe hm) j
    · exact State.breakerAt_of_held h.still hm j
  | setup => exact he.setup
  | @retire i ev hev =>
    subst hev
    by_cases hi : e = i
    · subst hi
      refine State.keptStill_of_free ?_
      rw [Event.retire_entry, if_pos rfl]
      rfl
    · obtain ⟨ps, es, heq⟩ := ev.retire_frame i
      refine he.of_entry (by rw [heq]) ?_
      rw [Event.retire_entry, if_neg hi]
      exact .refl _
  | _ => exact he

/-! ## Each stage keeps covered plant still -/

theorem State.KeptStill.revokeWhere {ev : Event} {e : EntryIdx} (h : ev.st.KeptStill e) (which : TipIdx → Bool) :
    (ev.revokeWhere which).st.KeptStill e := by
  have hr := Event.revokeWhere_revoked which ev
  refine h.of_tips hr.frame fun t => ?_
  obtain ⟨hd, hp, hel, -, -⟩ := hr.tip_rest t
  refine ⟨⟨hd, hp, hel⟩, fun _ hg => ?_⟩
  rw [Event.revokeWhere_tip] at hg
  split at hg
  case isTrue hn => exact hn.2
  case isFalse => exact hg

theorem State.abortedChute_of_closed {s : State} {c : ChuteIdx} (h : (s.chute c).state = .closed) :
    s.abortedChute c = s.chute c := by
  simp only [State.abortedChute, h]

theorem State.KeptStill.abortWhere {ev : Event} {e : EntryIdx} (h : ev.st.KeptStill e) (which : ChuteIdx → Bool) :
    (ev.abortWhere which).st.KeptStill e := by
  have ha := Event.abortWhere_aborted which ev
  have hstations (k : StationIdx) : (ev.abortWhere which).st.bst k = ev.st.bst k := by rw [ha.frame]; rfl
  have hbreaker : (ev.abortWhere which).st.breaker = ev.st.breaker := by rw [ha.frame]
  refine h.of_place (State.entry_evolves_refl ha.entries e) (fun k => by rw [hstations]; exact .refl _)
    (fun t => by rw [Event.abortWhere_tip]; exact ⟨⟨rfl, rfl, rfl⟩, fun _ => id⟩)
    (fun c => ⟨ha.chute_rest c, fun _ hc => ?_⟩) ⟨fun _ => by rw [hbreaker]; exact id, fun k _ => ?_⟩
  · rw [ha.chute]
    split
    · rw [State.abortedChute_of_closed hc]
      exact hc
    · exact hc
  · simp only [State.breakerAt, hbreaker]
    exact id

theorem State.KeptStill.stopBreaker {s : State} {e : EntryIdx} {b : Breaker} {sc : Scanner} (h : s.KeptStill e)
    (hb : b.state.goes = false) (hp : s.breaker.state = .parked → b.state = .parked) :
    State.KeptStill { s with breaker := b, scanner := sc } e := by
  refine h.of_breaker (fun _ => hp) fun k _ hat => ?_
  have := State.breakerAt_of_not_goes (s := { s with breaker := b }) hb k
  exact absurd (this.symm.trans hat) (by decide)

theorem State.KeptStill.haltBreaker {ev : Event} {e : EntryIdx} (h : ev.st.KeptStill e) :
    ev.haltBreaker.st.KeptStill e := by
  obtain ⟨b, sc, hst, hb, hp⟩ := ev.haltedBreaker_frame
  rw [Event.haltBreaker_st, hst]
  exact h.stopBreaker hb hp

/-- An aborted breaker is at work no more (R118). -/
theorem Event.abortBreaker_frame (ev : Event) : ∃ b sc,
    ev.abortBreaker.st = { ev.st with breaker := b, scanner := sc } ∧ b.state = .returning := by
  rcases ev.moveBreaker_st fun b => { b.sendHome with jobs := b.current.toList ++ b.jobs } with h | h
  · exact ⟨_, ev.st.scanner, h, rfl⟩
  · exact ⟨_, _, h.trans (State.wakeScanner_eq _), rfl⟩

theorem State.KeptStill.abortBreaker {ev : Event} {e : EntryIdx} (h : ev.st.KeptStill e)
    (hg : ev.st.breaker.state.goes = true) : ev.abortBreaker.st.KeptStill e := by
  obtain ⟨b, sc, hst, hb⟩ := ev.abortBreaker_frame
  rw [hst]
  exact h.stopBreaker (by simp [hb, BreakerState.goes]) fun hp => by simp [hp, BreakerState.goes] at hg

/-- What a posting leaves of the covered plant before it reaches for the breaker (R128 steps 3 to 5). -/
def Event.stilled (e : EntryIdx) (ev : Event) : Event :=
  (ev.revokeWhere fun t => ev.st.coversTip e t && decide ((ev.st.tip t).state = .granted)).abortWhere
    (ev.st.coversChute e)

theorem Event.post_st (e : EntryIdx) (x : Entry) (ev : Event) : (ev.post e x).st
    = if ((ev.update (State.modEntry e fun _ => x)).stilled e).st.breakerReached e
      then ((ev.update (State.modEntry e fun _ => x)).stilled e).abortBreaker.st
      else ((ev.update (State.modEntry e fun _ => x)).stilled e).st := by
  unfold Event.post
  dsimp only
  rw [Event.touch_st]
  exact apply_ite Event.st ..

theorem State.breakerReached_goes {s : State} {e : EntryIdx} (h : s.breakerReached e = true) :
    s.breaker.state.goes = true := by
  simp only [State.breakerReached, Bool.and_eq_true, decide_eq_true_eq] at h
  exact BreakerState.goes_iff.mpr h.1

theorem Event.stilled_frame (e : EntryIdx) (ev : Event) : ∃ ps ts cs,
    (ev.stilled e).st = { ev.st with passes := ps, tips := ts, chutes := cs } := by
  have hr := (Event.revokeWhere_revoked (fun t => ev.st.coversTip e t && decide ((ev.st.tip t).state = .granted))
    ev).frame
  have ha := (Event.abortWhere_aborted (ev.st.coversChute e)
    (ev.revokeWhere fun t => ev.st.coversTip e t && decide ((ev.st.tip t).state = .granted))).frame
  rw [hr] at ha
  exact ⟨_, _, _, ha⟩

theorem Event.stilled_entries (e : EntryIdx) (ev : Event) : (ev.stilled e).st.entries = ev.st.entries := by
  obtain ⟨ps, ts, cs, h⟩ := ev.stilled_frame e
  rw [h]

/-- No covered tip point keeps its grant through a posting. -/
theorem Event.stilled_tips {e : EntryIdx} {ev : Event} {t : TipIdx}
    (h : (ev.stilled e).st.coversTip e t = true) : ((ev.stilled e).st.tip t).state ≠ .granted := by
  have hr := Event.revokeWhere_revoked (fun t => ev.st.coversTip e t && decide ((ev.st.tip t).state = .granted)) ev
  have htip : (ev.stilled e).st.tip t = (ev.revokeWhere fun t =>
      ev.st.coversTip e t && decide ((ev.st.tip t).state = .granted)).st.tip t := Event.abortWhere_tip ..
  have hcov : (ev.stilled e).st.coversTip e t = ev.st.coversTip e t :=
    State.coversTip_congr (ev.stilled_entries e) (by rw [htip, (hr.tip_rest t).1])
      (by rw [htip, (hr.tip_rest t).2.1]) (by rw [htip, (hr.tip_rest t).2.2.1])
  rw [hcov] at h
  rw [htip]
  exact Event.revokeWhere_not_granted fun hg => by simp [h, hg]

/-- A new entry's plant is kept still from its posting on (R128). -/
theorem Event.post_keptStill {e : EntryIdx} {x : Entry} {ev : Event} (hx : x.state ≠ .inForce) :
    (ev.post e x).st.KeptStill e := by
  set posted := (ev.update (State.modEntry e fun _ => x)).stilled e with hposted
  have hentry : posted.st.entry e = x := by
    have hentries : posted.st.entries = (ev.st.modEntry e fun _ => x).entries := Event.stilled_entries ..
    rw [State.entry, hentries]
    exact State.modEntry_entry_self e _ ev.st
  rw [Event.post_st, ← hposted]
  split
  case isTrue hreached =>
    obtain ⟨b, sc, hst, hb⟩ := posted.abortBreaker_frame
    rw [hst]
    refine ⟨fun t hcov => Event.stilled_tips hcov, fun k _ => ?_, fun hf => absurd (hentry ▸ hf) hx⟩
    exact State.breakerAt_of_not_goes (by simp [hb, BreakerState.goes]) k
  case isFalse hreached =>
    refine ⟨fun t hcov => Event.stilled_tips hcov, fun k hcov => ?_, fun hf => absurd (hentry ▸ hf) hx⟩
    rw [← Bool.not_eq_true, State.breakerAt_iff]
    rintro ⟨hg, j, hj, rfl⟩
    refine hreached ?_
    simp [State.breakerReached, BreakerState.goes_iff.mp hg, hj, hcov]

theorem Event.post_keptStill_other {e i : EntryIdx} {x : Entry} {ev : Event} (hi : i ≠ e) (h : ev.st.KeptStill i) :
    (ev.post e x).st.KeptStill i := by
  have hposted : (ev.st.modEntry e fun _ => x).KeptStill i :=
    h.of_entry rfl (by rw [State.modEntry_entry_ne _ _ _ hi]; exact .refl _)
  have hstilled : ((ev.update (State.modEntry e fun _ => x)).stilled e).st.KeptStill i :=
    (State.KeptStill.revokeWhere (ev := ev.update (State.modEntry e fun _ => x)) hposted _).abortWhere _
  rw [Event.post_st]
  split
  case isTrue hreached => exact hstilled.abortBreaker (State.breakerReached_goes hreached)
  case isFalse => exact hstilled

/-- An entry that is settled keeps its plant still in force. -/
theorem State.KeptStill.force {s : State} {e i : EntryIdx} (h : s.KeptStill i) (hs : s.settled e = true) :
    (s.modEntry e Entry.forced).KeptStill i := by
  by_cases hi : i = e
  · subst hi
    obtain ⟨hchute, htip, hcar, hstation⟩ := State.settled_iff.mp hs
    have hentry : (s.modEntry i Entry.forced).entry i = (s.entry i).forced := State.modEntry_entry_self ..
    have hcov (t : TipIdx) : (s.modEntry i Entry.forced).coversTip i t = s.coversTip i t := by
      simp only [State.coversTip, hentry]
      rfl
    refine ⟨fun t ht => htip t ((hcov t).symm.trans ht), fun k hk => hstation k ?_, fun _ => ⟨fun c hc => ?_, fun hb => ?_⟩⟩
    · rw [State.coversStation, hcov] at hk
      exact hk
    · have hc' : s.coversChute i c = true := by
        simp only [State.coversChute, hentry] at hc
        exact hc
      have hsafe := hchute c hc'
      simp only [State.chuteSafe, Bool.and_eq_true, decide_eq_true_eq] at hsafe
      exact hsafe.1
    · simp only [State.carriesBreaker, hentry] at hb
      exact hcar hb
  · exact h.of_entry rfl (by rw [State.modEntry_entry_ne _ _ _ hi]; exact .refl _)

theorem Stage.keptStill {s t : State} (hst : Stage s t) (h : s.Covering) (e : EntryIdx) : t.KeptStill e := by
  have he := h.still e
  cases hst with
  | change hc => exact hc.keptStill h e
  | @hang p m ev hev =>
    have hhung : ev.st.KeptStill e := hev ▸ he
    exact (hhung.revokeWhere _).abortWhere _
  | @halt cause ev hev =>
    subst hev
    exact ((State.KeptStill.revokeWhere (ev := ev.update (State.modStation fun x =>
      { x with mode := .halted, causes := x.causes.add cause, conds := raise .halted x.conds })) he _).abortWhere
        _).haltBreaker
  | @post i x ev hev hfree hx hs =>
    subst hev
    by_cases hi : e = i
    · subst hi
      exact Event.post_keptStill (by simp [hs])
    · exact Event.post_keptStill_other hi he
  | @force i ev hev hu hw hs =>
    subst hev
    rcases ev.enterForce_cases i with ⟨heq, -⟩ | ⟨p, -, -, -, heq⟩
    · rw [heq]
      exact he.force hs
    · rw [heq]
      have hforced : (ev.st.modEntry i Entry.forced).KeptStill e := he.force hs
      exact State.KeptStill.revokeWhere (ev := (ev.update (State.modEntry i Entry.forced)).update
        (State.modPass p Pass.enterService)) hforced _

theorem Law.covering : Law State.Covering where
  outer s r ls lk at' pd h := ⟨Law.granting.outer s r ls lk at' pd h.granting, h.safe, h.stations, h.still⟩
  reset := ⟨Law.granting.reset, Law.plantSafe.reset, Law.stations.reset, State.coverageLawful_iff.mp (by decide)⟩
  stage s t hst h := ⟨hst.granting h.granting, Law.plantSafe.stage s t hst h.safe,
    Law.stations.stage s t hst h.stations, fun e => hst.keptStill h e⟩

end Sys2Proof.Machine
end

section
/-! No settled entry waits, through every step (R129, R130). -/

namespace Sys2Proof.Machine

/-- Lines, links and levels of ATTN matter to a settling test through the closed limits alone. -/
theorem State.HardensAt.of_levels {s u : State} {e : EntryIdx} (he : u.entries = s.entries) (ht : u.tips = s.tips)
    (hc : u.chutes = s.chutes) (hk : u.stations = s.stations) (hb : u.breaker = s.breaker)
    (hl : ∀ c, u.closedHigh c = true → s.closedHigh c = true) : s.HardensAt u e := by
  have hentry : u.entry e = s.entry e := by simp only [State.entry, he]
  have htip (t : TipIdx) : u.tip t = s.tip t := by simp only [State.tip, ht]
  have hchute (c : ChuteIdx) : u.chute c = s.chute c := by simp only [State.chute, hc]
  have hbst (k : StationIdx) : u.bst k = s.bst k := by simp only [State.bst, hk]
  have hcov (t : TipIdx) : u.coversTip e t = s.coversTip e t :=
    State.coversTip_evolves (hentry ▸ .refl _) (by rw [htip]) (by rw [htip]) (by rw [htip])
  exact {
    inUse := fun h => hentry ▸ h
    state := fun h => hentry ▸ h
    chute := fun c h => by
      refine ⟨Eq.trans (State.coversChute_evolves (hentry ▸ .refl _) (by rw [hchute]) (by rw [hchute])
        (by rw [hchute])) h, ?_⟩
      simp only [State.chuteSafe, hchute, Bool.and_eq_true]
      exact fun hsafe => ⟨hsafe.1, hl c hsafe.2⟩
    tip := fun t h => ⟨(hcov t).trans h, fun hg => by rw [htip]; exact hg⟩
    breaker := fun h => ⟨by simpa only [State.carriesBreaker, hentry] using h, fun hp => hb ▸ hp⟩
    station := fun k h => by
      refine ⟨by simpa only [State.coversStation, hbst, hcov] using h, ?_⟩
      simp only [State.breakerAt, hb]
      exact id }

theorem State.noneSettled_of_levels {s u : State} (h : s.noneSettled = true) (he : u.entries = s.entries)
    (ht : u.tips = s.tips) (hc : u.chutes = s.chutes) (hk : u.stations = s.stations) (hb : u.breaker = s.breaker)
    (hl : ∀ c, u.closedHigh c = true → s.closedHigh c = true) : u.noneSettled = true := by
  rw [State.noneSettled_iff] at h ⊢
  intro e
  by_contra hw
  have := (State.HardensAt.of_levels (e := e) he ht hc hk hb hl).awaits (by simpa using hw)
  rw [h e] at this
  cases this

theorem State.noneSettled_of_free {s : State} (h : ∀ e, (s.entry e).inUse = false) : s.noneSettled = true :=
  State.noneSettled_iff.mpr fun e => by simp [State.awaits, h e]

theorem State.refreshLines_closedHigh (s : State) (c : ChuteIdx) : s.refreshLines.closedHigh c = s.closedHigh c :=
  State.level_congr (fun i => by simp) (fun i => by simp) _

theorem State.noneSettled_refreshLines {s : State} (h : s.noneSettled = true) : s.refreshLines.noneSettled = true :=
  State.noneSettled_of_levels h (State.refreshLines_entries s) (State.refreshLines_tips s)
    (State.refreshLines_chutes s) (State.refreshLines_stations s) (State.refreshLines_breaker s)
    fun c => (s.refreshLines_closedHigh c).symm.trans

theorem State.noneSettled_endEvent {s : State} (h : s.noneSettled = true) : s.endEvent.noneSettled = true :=
  State.noneSettled_of_levels h (State.endEvent_entries s) (State.endEvent_tips s)
    (State.endEvent_chutes s) (State.endEvent_stations s) (State.endEvent_breaker s)
    fun c => (s.endEvent_closedHigh c).symm.trans

theorem State.noneSettled_withLink {s : State} (l : Link) (h : s.noneSettled = true) :
    (s.withLink l).noneSettled = true := h

theorem State.modLine_plant_closedHigh (s : State) (i : LineIdx) (b : Bool) (c : ChuteIdx) :
    (s.modLine i fun l => { l with plant := b }).closedHigh c = s.closedHigh c := by
  refine State.level_congr (fun j => ?_) (fun j => ?_) _ <;> rw [State.modLine_line] <;> split
  · next h => rw [h]
  · rfl
  · next h => rw [h]
  · rfl

/-- A function no line is bound to reads low (log 20). -/
theorem State.level_of_unbound {s : State} {f : LineFn} (h : ∀ i, (s.line i).binding ≠ some f) :
    s.level f = false := by
  have hnone : s.lineOf f = none := by
    simp only [State.lineOf, List.find?_eq_none, List.mem_finRange, true_implies, decide_eq_true_eq]
    exact h
  rw [State.level, hnone]

theorem State.release_closedHigh {s : State} {address baud : Nat} (h : ∀ i, (s.line i).binding = none)
    (c : ChuteIdx) : (s.release address baud).closedHigh c = false := by
  refine State.level_of_unbound fun i hb => ?_
  rw [State.release, State.mapLines_line] at hb
  exact absurd ((h i).symm.trans hb) (by simp)

theorem State.heldReset_free (f : Line → Line) (s : State) (e : EntryIdx) : ((s.heldReset f).entry e).inUse = false := by
  have hfree : ∀ e, (State.reset.entry e).inUse = false := by decide
  exact hfree e

/-- With nothing bound while the part is held in reset, no effect of a command leaves a settled entry waiting. -/
theorem Effect.noneSettled {s t : State} (he : Effect s t) (hlines : s.linesSettled = true)
    (h : s.noneSettled = true) : t.noneSettled = true := by
  cases he with
  | link l => exact h
  | reset f =>
    rw [State.resetHeld_eq]
    exact State.noneSettled_refreshLines (State.noneSettled_of_free (s.heldReset_free f))
  | release address baud hr =>
    have hbind (i : LineIdx) : (s.line i).binding = none := (State.linesSettled_iff.mp hlines i).2.2 hr
    refine State.noneSettled_of_levels h rfl rfl rfl rfl rfl fun c hc => ?_
    exact absurd ((State.release_closedHigh hbind c).symm.trans hc) (by decide)
  | level i b =>
    refine State.noneSettled_refreshLines ?_
    exact State.noneSettled_of_levels h rfl rfl rfl rfl rfl fun c => (s.modLine_plant_closedHigh i b c).symm.trans
  | time => exact s.passTime_reached.2 h
  | event l l' u hr hu =>
    exact State.noneSettled_withLink l' (State.noneSettled_endEvent (hu.2 (State.noneSettled_withLink l h)))

theorem State.step_noneSettled {s t : State} (hstep : Machine.step s = .next t) (hlines : s.linesSettled = true)
    (h : s.noneSettled = true) : t.noneSettled = true := by
  rcases step_effect hstep with rfl | ⟨c, rest, -, -, he⟩
  · exact h
  · have hs : State.linesSettled { s with pending := rest } = true := hlines
    have hn : State.noneSettled { s with pending := rest } = true := h
    exact he.noneSettled hs hn

/-- Settles O60: each law is one that every stage of an event keeps together with those it needs, and the end of an
event leaves no settled entry waiting. -/
theorem stepsKeepCallsGrantsAndClearances : Obligations.StepsKeepCallsGrantsAndClearances := by
  intro s t hstep
  refine ⟨fun hl => ?lists, fun he => ?entries, fun hs => ?service, fun hl hs hg => ?grants,
    fun hl hs hg hsafe _ hst hcov => ?coverage, fun hst => ?stations, State.step_noneSettled hstep⟩
  case lists =>
    rw [State.listsLawful_iff] at hl ⊢
    exact Law.lists.step hstep hl
  case entries =>
    rw [State.entriesLawful_iff] at he ⊢
    exact Law.entries.step hstep he
  case service =>
    rw [State.serviceLawful_iff] at hs ⊢
    exact Law.service.step hstep hs
  case grants =>
    obtain ⟨ha, hr⟩ := State.grantsLawful_iff.mp hg
    have h : t.Granting := Law.granting.step hstep
      ⟨State.listsLawful_iff.mp hl, State.serviceLawful_iff.mp hs, ha, hr⟩
    exact State.grantsLawful_iff.mpr ⟨h.accounts, h.runs⟩
  case coverage =>
    obtain ⟨ha, hr⟩ := State.grantsLawful_iff.mp hg
    have h : t.Covering := Law.covering.step hstep
      ⟨⟨State.listsLawful_iff.mp hl, State.serviceLawful_iff.mp hs, ha, hr⟩, hsafe, State.stationsLawful_iff.mp hst,
        State.coverageLawful_iff.mp hcov⟩
    exact State.coverageLawful_iff.mpr h.still
  case stations =>
    rw [State.stationsLawful_iff] at hst ⊢
    exact Law.stations.step hstep hst

end Sys2Proof.Machine
end

section
/-! Pins, debounce timers, ATTN and bindings through every step (R167 to R170, R183). -/

namespace Sys2Proof.Machine

/-! ## What a function commands and a pin carries -/

/-- What is commanded depends on the mode and on what tip points, chutes, breaker and channels are doing. -/
theorem State.command_of_states {s t : State} (hm : s.station.mode = t.station.mode)
    (ht : ∀ i, (s.tip i).state = (t.tip i).state) (hc : ∀ i, (s.chute i).state = (t.chute i).state)
    (hb : s.breaker.state = t.breaker.state) (hcode : s.breaker.code = t.breaker.code)
    (hch : ∀ i, (s.channel i).proof = (t.channel i).proof) (hl : ∀ c, s.closedHigh c = t.closedHigh c) (f : LineFn) :
    s.command f = t.command f := by
  cases f <;> simp only [State.command, hm, ht, hc, hb, hcode, hch, hl]

theorem State.pinLevel_congr {s t : State} {i : LineIdx} (hb : (s.line i).binding = (t.line i).binding)
    (hd : (s.line i).direction = (t.line i).direction) (hl : (s.line i).latch = (t.line i).latch)
    (hp : (s.line i).plant = (t.line i).plant) (hc : ∀ f, s.command f = t.command f) : s.pinLevel i = t.pinLevel i := by
  simp only [State.pinLevel, State.drive, hb, hd, hl, hp, hc]

theorem State.refreshLines_command (s : State) (f : LineFn) : s.refreshLines.command f = s.command f :=
  State.command_congr (by simp) (by simp) (by simp) (by simp) (by simp) (fun c => s.refreshLines_closedHigh c) f

theorem State.pinLevel_refreshLines (s : State) (i : LineIdx) : s.refreshLines.pinLevel i = s.pinLevel i :=
  State.pinLevel_congr (by simp) (by simp) (by simp) (by simp) s.refreshLines_command

/-! ## Lines that stand as their pins do -/

/-- A look at the lines settles them; what is bound while a reset is held must come with it. -/
theorem State.refreshLines_settled {s : State} (h : s.inReset = true → ∀ i, (s.line i).binding = none) :
    s.refreshLines.linesSettled = true := by
  rw [State.linesSettled_iff]
  intro i
  rw [State.pinLevel_refreshLines, State.refreshLines_line, State.refreshLines_inReset]
  refine ⟨State.refreshLine_raw s i _, ?_, fun hr => h hr i⟩
  simp only [State.refreshLine, debounceTimer_isSome]

theorem State.judgeAttn_settled {s : State} (h : s.linesSettled = true) : s.judgeAttn.linesSettled = true := h

theorem State.endEvent_settled {s : State} (hr : s.inReset = false) : s.endEvent.linesSettled = true :=
  State.judgeAttn_settled (State.refreshLines_settled fun ht => by simp [hr] at ht)

theorem State.withLink_settled {s : State} (l : Link) (h : s.linesSettled = true) :
    (s.withLink l).linesSettled = true := h

theorem State.release_settled {s : State} (address baud : Nat) (h : ∀ i, (s.line i).binding = none) :
    (s.release address baud).linesSettled = true := by
  have hline (i : LineIdx) : (s.release address baud).line i
      = { s.line i with raw := s.pinLevel i, debounced := s.pinLevel i, timer := none } := by
    rw [State.release, State.mapLines_line]
    rfl
  rw [State.linesSettled_iff]
  intro i
  have hpin : (s.release address baud).pinLevel i = s.pinLevel i := by
    rw [State.pinLevel_of_unbound (h i), State.pinLevel_of_unbound (by rw [hline]; exact h i), hline]
  rw [hpin, hline]
  exact ⟨rfl, by simp, fun _ => h i⟩

theorem State.passTime_line (s : State) (i : LineIdx) :
    s.passTime.line i = { s.line i with timer := tickDebounce (s.line i).timer } := by
  simp only [State.passTime, State.modBreaker_line, State.mapLines_line, State.mapEntries_line, State.mapChutes_line,
    State.mapTips_line, State.mapChannels_line]

theorem State.passTime_tip (s : State) (t : TipIdx) :
    s.passTime.tip t = { s.tip t with timer := tick (s.tip t).timer } := by
  simp only [State.passTime, State.modBreaker_tip, State.mapLines_tip, State.mapEntries_tip, State.mapChutes_tip,
    State.mapTips_tip, State.mapChannels_tip]

theorem State.passTime_chute (s : State) (c : ChuteIdx) : s.passTime.chute c = { s.chute c with
    strokeTimer := tick (s.chute c).strokeTimer, holdTimer := tick (s.chute c).holdTimer
    nudgeTimer := tick (s.chute c).nudgeTimer } := by
  simp only [State.passTime, State.modBreaker_chute, State.mapLines_chute, State.mapEntries_chute,
    State.mapChutes_chute, State.mapTips_chute, State.mapChannels_chute]

theorem State.passTime_channel (s : State) (ch : ChannelIdx) : s.passTime.channel ch = (s.channel ch).grow := by
  simp only [State.passTime, State.modBreaker_channel, State.mapLines_channel, State.mapEntries_channel,
    State.mapChutes_channel, State.mapTips_channel, State.mapChannels_channel]

theorem State.passTime_entry (s : State) (e : EntryIdx) :
    s.passTime.entry e = { s.entry e with timer := tick (s.entry e).timer } := by
  simp only [State.passTime, State.modBreaker_entry, State.mapLines_entry, State.mapEntries_entry,
    State.mapChutes_entry, State.mapTips_entry, State.mapChannels_entry]

theorem State.passTime_station (s : State) : s.passTime.station = s.station := by
  simp only [State.passTime, State.modBreaker_station, State.mapLines_station, State.mapEntries_station,
    State.mapChutes_station, State.mapTips_station, State.mapChannels_station]

theorem State.passTime_inReset (s : State) : s.passTime.inReset = s.inReset := by
  simp only [State.passTime, State.modBreaker_inReset, State.mapLines_inReset, State.mapEntries_inReset,
    State.mapChutes_inReset, State.mapTips_inReset, State.mapChannels_inReset]

theorem State.passTime_pass (s : State) (p : PassIdx) : s.passTime.pass p = s.pass p := by
  simp only [State.passTime, State.modBreaker_pass, State.mapLines_pass, State.mapEntries_pass,
    State.mapChutes_pass, State.mapTips_pass, State.mapChannels_pass]

theorem State.passTime_bst (s : State) (k : StationIdx) : s.passTime.bst k = s.bst k := by
  simp only [State.passTime, State.modBreaker_bst, State.mapLines_bst, State.mapEntries_bst,
    State.mapChutes_bst, State.mapTips_bst, State.mapChannels_bst]

theorem State.passTime_breaker (s : State) : s.passTime.breaker = { s.breaker with
    travelTimer := tick s.breaker.travelTimer, breakTimer := tick s.breaker.breakTimer
    returnTimer := tick s.breaker.returnTimer } := by
  simp only [State.passTime, State.modBreaker_breaker, State.mapLines_breaker, State.mapEntries_breaker,
    State.mapChutes_breaker, State.mapTips_breaker, State.mapChannels_breaker]

theorem State.passTime_attn (s : State) : s.passTime.attn = s.attn := by
  simp only [State.passTime, State.modBreaker_attn, State.mapLines_attn, State.mapEntries_attn,
    State.mapChutes_attn, State.mapTips_attn, State.mapChannels_attn]

theorem State.passTime_command (s : State) (f : LineFn) : s.passTime.command f = s.command f := by
  refine State.command_of_states (by rw [State.passTime_station]) (fun t => ?_) (fun c => ?_) ?_ ?_ (fun ch => ?_)
    (fun c => ?_) f
  · rw [State.passTime_tip]
  · rw [State.passTime_chute]
  · rw [State.passTime_breaker]
  · rw [State.passTime_breaker]; rfl
  · rw [State.passTime_channel]; rfl
  · exact State.level_congr (fun i => by rw [State.passTime_line]) (fun i => by rw [State.passTime_line]) _

theorem tickDebounce_isSome (t : Timer) : (tickDebounce t).isSome = t.isSome := by
  cases t <;> rfl

theorem State.passTime_settled {s : State} (h : s.linesSettled = true) : s.passTime.linesSettled = true := by
  rw [State.linesSettled_iff] at h ⊢
  intro i
  obtain ⟨hraw, htimer, hbind⟩ := h i
  have hpin : s.passTime.pinLevel i = s.pinLevel i := by
    refine State.pinLevel_congr ?_ ?_ ?_ ?_ s.passTime_command <;> rw [State.passTime_line]
  rw [hpin, State.passTime_line, State.passTime_inReset]
  exact ⟨hraw, (tickDebounce_isSome _).trans htimer, hbind⟩

theorem Stages.inReset {s t : State} (h : Stages s t) : t.inReset = s.inReset := h.frame.2

theorem Effect.linesSettled {s t : State} (he : Effect s t) (h : s.linesSettled = true) : t.linesSettled = true := by
  cases he with
  | link l => exact h
  | reset f hf =>
    rw [State.resetHeld_eq]
    exact State.refreshLines_settled fun _ i => by rw [State.heldReset_line]; exact hf _
  | release address baud hr =>
    exact State.release_settled address baud fun i => (State.linesSettled_iff.mp h i).2.2 hr
  | level i b =>
    refine State.refreshLines_settled fun hr j => ?_
    have hj := (State.linesSettled_iff.mp h j).2.2 hr
    rw [State.modLine_line]
    split
    case isTrue hi => exact hi ▸ hj
    case isFalse => exact hj
  | time => exact State.passTime_settled h
  | event l l' u hr hu =>
    exact State.withLink_settled l' (State.endEvent_settled (hu.1.inReset.trans hr))

/-! ## ATTN -/

/-- ATTN is judged by the conditions of the records and the mask. -/
theorem State.attention_congr {s t : State} (hp : ∀ i, (s.pass i).conds = (t.pass i).conds)
    (ht : ∀ i, (s.tip i).conds = (t.tip i).conds) (hc : ∀ i, (s.chute i).conds = (t.chute i).conds)
    (hk : ∀ i, (s.bst i).conds = (t.bst i).conds) (hb : s.breaker.conds = t.breaker.conds)
    (he : ∀ i, (s.entry i).conds = (t.entry i).conds) (hch : ∀ i, (s.channel i).conds = (t.channel i).conds)
    (hx : s.station = t.station) : s.attention = t.attention := by
  simp only [State.attention, hp, ht, hc, hk, hb, he, hch, hx]

theorem State.passTime_attention (s : State) : s.passTime.attention = s.attention := by
  refine State.attention_congr (fun p => ?_) (fun t => ?_) (fun c => ?_) (fun k => ?_) ?_ (fun e => ?_) (fun ch => ?_)
    s.passTime_station
  · rw [State.passTime_pass]
  · rw [State.passTime_tip]
  · rw [State.passTime_chute]
  · rw [State.passTime_bst]
  · rw [State.passTime_breaker]
  · rw [State.passTime_entry]
  · rw [State.passTime_channel]; rfl

theorem State.withLink_judged {s : State} (l : Link) (h : s.attn = s.attention) :
    (s.withLink l).attn = (s.withLink l).attention := h

theorem State.refreshLines_judged {s : State} (h : s.attn = s.attention) :
    s.refreshLines.attn = s.refreshLines.attention := by
  rw [State.refreshLines_attn, h]
  exact (State.attention_congr (by simp) (by simp) (by simp) (by simp [State.bst]) (by simp) (by simp) (by simp)
    (by simp)).symm

theorem State.heldReset_judged (f : Line → Line) (s : State) : (s.heldReset f).attn = (s.heldReset f).attention := by
  have : State.reset.attn = State.reset.attention := by decide
  exact this

theorem State.modLine_judged {s : State} (i : LineIdx) (f : Line → Line) (h : s.attn = s.attention) :
    (s.modLine i f).attn = (s.modLine i f).attention := h

theorem State.release_judged {s : State} (address baud : Nat) (h : s.attn = s.attention) :
    (s.release address baud).attn = (s.release address baud).attention := h

theorem Effect.attnJudged {s t : State} (he : Effect s t) (h : s.attnJudged = true) : t.attnJudged = true := by
  rw [State.attnJudged_iff] at h ⊢
  cases he with
  | link l => exact State.withLink_judged l h
  | reset f hf => exact State.refreshLines_judged (s.heldReset_judged f)
  | release address baud => exact State.release_judged address baud h
  | level i b => exact State.refreshLines_judged (State.modLine_judged i _ h)
  | time => rw [State.passTime_attn, State.passTime_attention, h]
  | event l l' u hr hu =>
    exact State.withLink_judged l' (by rw [State.endEvent_attn, State.endEvent_attention])

/-! ## Bindings -/

theorem State.bindingsLawful_of_lines {s t : State} (h : t.lines = s.lines) (hs : s.bindingsLawful = true) :
    t.bindingsLawful = true :=
  (State.bindingsLawful_congr fun i => by simp only [State.line, h]).trans hs

theorem Opens.bindingsLawful {s t : State} (ho : Opens s t) (h : s.bindingsLawful = true) :
    t.bindingsLawful = true := by
  cases ho with
  | change hc =>
    cases hc with
    | lines ls db hl => exact hl h
    | retire e hev hu =>
      subst hev
      obtain ⟨ps, es, heq⟩ := Event.retire_frame e _
      exact State.bindingsLawful_of_lines (congrArg State.lines heq) h
    | defineTip =>
      refine State.bindingsLawful_of_lines ?_ h
      split <;> rfl
    | _ => exact h
  | _ => exact h

theorem State.withLink_bindings {s : State} (l : Link) (h : s.bindingsLawful = true) :
    (s.withLink l).bindingsLawful = true := h

theorem State.endEvent_bindings {s : State} (h : s.bindingsLawful = true) : s.endEvent.bindingsLawful = true := by
  refine (State.bindingsLawful_congr fun i => ?_).trans h
  rw [State.endEvent_line, State.refreshLine_binding]

theorem Effect.bindingsLawful {s t : State} (he : Effect s t) (h : s.bindingsLawful = true) :
    t.bindingsLawful = true := by
  have hstages {s u : State} (hu : Stages s u) (h : s.bindingsLawful = true) : u.bindingsLawful = true :=
    hu.keep_of_opens (fun _ _ ho => ho.bindingsLawful) h
  cases he with
  | link l => exact h
  | reset f hf =>
    rw [State.bindingsLawful_iff]
    have hnone (i : LineIdx) : ((s.resetHeld f).line i).binding = none := by
      rw [State.resetHeld_line hf]
      exact hf _
    refine ⟨fun i j g hi _ => ?_, fun i g hi _ => ?_⟩
    · exact absurd ((hnone i).symm.trans hi) (by simp)
    · exact absurd ((hnone i).symm.trans hi) (by simp)
  | release =>
    refine (State.bindingsLawful_congr fun i => ?_).trans h
    rw [State.release, State.mapLines_line]
    rfl
  | level i b =>
    refine (State.bindingsLawful_congr fun j => ?_).trans h
    rw [State.refreshLines_line, State.refreshLine_binding, State.modLine_line]
    split
    case isTrue hj => rw [hj]
    case isFalse => rfl
  | time => exact hstages s.passTime_reached.1 h
  | event l l' u hr hu =>
    exact State.withLink_bindings l' (State.endEvent_bindings (hstages hu.1 (State.withLink_bindings l h)))

/-- The queue is read by none of the three. -/
theorem State.withPending_laws (s : State) (rest : List Instr) :
    State.linesSettled { s with pending := rest } = s.linesSettled
      ∧ State.attnJudged { s with pending := rest } = s.attnJudged
      ∧ State.bindingsLawful { s with pending := rest } = s.bindingsLawful := ⟨rfl, rfl, rfl⟩

/-- Settles O57: every effect of a command leaves lines, ATTN and bindings lawful. -/
theorem stepsKeepLinesAttnAndBindings : Obligations.StepsKeepLinesAttnAndBindings := by
  intro s t hstep
  rcases step_effect hstep with rfl | ⟨c, rest, -, -, he⟩
  · exact ⟨id, id, id⟩
  · obtain ⟨hl, ha, hb⟩ := s.withPending_laws rest
    exact ⟨fun h => he.linesSettled (hl.trans h), fun h => he.attnJudged (ha.trans h),
      fun h => he.bindingsLawful (hb.trans h)⟩

end Sys2Proof.Machine
end

section
/-! The scanner, the readings of a channel and their ages (R33 to R41). -/

namespace Sys2Proof.Machine

/-! ## The choice of the next conversion -/

/-- A search finds the member that comes first in the order of the list. -/
theorem find?_pairwise {α : Type} {R : α → α → Prop} {P : α → Bool} {l : List α} (h : l.Pairwise R) {a : α}
    (ha : l.find? P = some a) {b : α} (hb : b ∈ l) (hP : P b = true) : b = a ∨ R a b := by
  obtain ⟨-, before, after, rfl, hbefore⟩ := List.find?_eq_some_iff_append.mp ha
  rcases List.mem_append.mp hb with hb | hb
  · exact absurd hP (by simpa using hbefore b hb)
  · rcases List.mem_cons.mp hb with rfl | hb
    · exact .inl rfl
    · exact .inr (List.rel_of_pairwise_cons (List.pairwise_append.mp h).2.1 hb)

/-- How many steps of the cycle lie between a position and a channel ahead of it (R34). -/
def stepsAhead (position o : ChannelIdx) : Nat :=
  ([0, 4, 1, 5, 2, 6, 3, 7].idxOf o.val + 7 - [0, 4, 1, 5, 2, 6, 3, 7].idxOf position.val) % 8

theorem walkFrom_ahead (position : ChannelIdx) :
    (walkFrom position).Pairwise fun a b => stepsAhead position a ≤ stepsAhead position b := by
  revert position
  decide

theorem State.enabled_iff {s : State} {ch : ChannelIdx} : s.enabled ch = true ↔ (s.channel ch).defined = true
    ∧ (s.breaker.state = .breaking → (s.channel ch).inBreaking = true)
    ∧ (s.breaker.state ≠ .breaking → (s.channel ch).inQuiet = true) := by
  by_cases hb : s.breaker.state = .breaking <;> simp [State.enabled, hb]

/-- The choice finds the first enabled channel ahead of the position, or none. -/
theorem State.chooseConversion_cases (s : State) :
    (∃ ch, s.chooseConversion = { s with scanner := ⟨ch, true⟩ } ∧ s.enabled ch = true
      ∧ ∀ o, s.enabled o = true → stepsAhead s.scanner.position ch ≤ stepsAhead s.scanner.position o)
    ∨ (s.chooseConversion = { s with scanner := ⟨s.scanner.position, false⟩ } ∧ ∀ o, s.enabled o = false) := by
  unfold State.chooseConversion
  cases h : (walkFrom s.scanner.position).find? s.enabled with
  | some ch =>
    refine .inl ⟨ch, rfl, List.find?_some h, fun o ho => ?_⟩
    rcases find?_pairwise (walkFrom_ahead s.scanner.position) h (mem_walkFrom _ o) ho with rfl | hle
    · exact le_rfl
    · exact hle
  | none =>
    refine .inr ⟨rfl, fun o => ?_⟩
    simpa using List.find?_eq_none.mp h o (mem_walkFrom _ o)

/-- Settles O24. -/
theorem scanTakesTheNextEnabledChannel : Obligations.ScanTakesTheNextEnabledChannel := by
  intro s ch place ahead t
  refine ⟨?_, fun hc => ?_, fun hc => ?_, State.enabled_iff, rfl⟩
  · rcases s.chooseConversion_cases with ⟨ch, h, -⟩ | ⟨h, -⟩ <;> simp only [t, h]
  · rcases s.chooseConversion_cases with ⟨ch, h, hen, hfirst⟩ | ⟨h, -⟩
    · simp only [t, h]
      exact ⟨hen, hfirst⟩
    · simp only [t, h] at hc
      cases hc
  · rcases s.chooseConversion_cases with ⟨ch, h, -⟩ | ⟨h, hnone⟩
    · simp only [t, h] at hc
      cases hc
    · simp only [t, h]
      exact ⟨trivial, hnone⟩

/-! ## A channel's loss of use -/

theorem State.lastUsable_iff {s : State} {p : PassIdx} {ch : ChannelIdx} : s.lastUsable p ch = true ↔
    s.usableFor p ch = true ∧ (s.pass p).state = .running ∧ ∀ o, o ≠ ch → s.usableFor p o = false := by
  simp only [State.lastUsable, Bool.and_eq_true, decide_eq_true_eq, List.all_eq_true, List.mem_finRange, true_implies,
    Bool.or_eq_true, Bool.not_eq_true', and_assoc, or_iff_not_imp_left]

/-- A channel that was of no use to its pass changes with no more to do. -/
theorem State.changeChannel_of_unused {s : State} {ch : ChannelIdx} (f : Channel → Channel)
    (h : ∀ p, (s.channel ch).assignment = some p → s.usableFor p ch = false) :
    s.changeChannel ch f = s.modChannel ch f := by
  cases ha : (s.channel ch).assignment with
  | none => simp only [State.changeChannel, ha]
  | some p => simp [State.changeChannel, ha, h p ha]

/-- A pass with BLIND raised (R41). -/
def Pass.blinded (q : Pass) : Pass := { q with conds := raise .blind q.conds }

/-- A change that leaves the channel of no use to the pass it served leaves a RUNNING pass blind where it was the last
one usable (R41). -/
theorem State.changeChannel_of_lost {s : State} {ch : ChannelIdx} {f : Channel → Channel} {p : PassIdx}
    (ha : (s.channel ch).assignment = some p) (hlost : (s.modChannel ch f).usableFor p ch = false) :
    s.changeChannel ch f = if s.lastUsable p ch then (s.modChannel ch f).modPass p Pass.blinded
      else s.modChannel ch f := by
  have hother (o : ChannelIdx) (ho : o ≠ ch) : (s.modChannel ch f).usableFor p o = s.usableFor p o := by
    simp [State.usableFor, State.modChannel_channel, ho]
  have hpass : ((s.modChannel ch f).pass p).state = (s.pass p).state := by rw [State.modChannel_pass]
  have hall : (List.finRange 8).all (fun o => !(s.modChannel ch f).usableFor p o) = true
      ↔ ∀ o, o ≠ ch → s.usableFor p o = false := by
    simp only [List.all_eq_true, List.mem_finRange, true_implies, Bool.not_eq_true']
    refine ⟨fun h o ho => hother o ho ▸ h o, fun h o => ?_⟩
    by_cases ho : o = ch
    · exact ho ▸ hlost
    · exact (hother o ho).trans (h o ho)
  by_cases hu : s.usableFor p ch = true
  · have hlast : ((s.modChannel ch f).pass p).state = .running
        ∧ (List.finRange 8).all (fun o => !(s.modChannel ch f).usableFor p o) = true ↔ s.lastUsable p ch = true := by
      rw [hpass, hall, State.lastUsable_iff]
      simp [hu]
    simp only [State.changeChannel, ha, hu, hlost, State.loseUse, hlast]
    rfl
  · have hu' : s.usableFor p ch = false := by simpa using hu
    rw [State.changeChannel_of_unused f fun q hq => by rwa [← Option.some.inj (ha.symm.trans hq)],
      if_neg fun h => hu (State.lastUsable_iff.mp h).1]

theorem State.usableFor_modChannel_of_dead {s : State} {p : PassIdx} {ch : ChannelIdx} {f : Channel → Channel}
    (h : (f (s.channel ch)).state.live = false ∨ (f (s.channel ch)).proof ≠ .idle) :
    (s.modChannel ch f).usableFor p ch = false := by
  rw [State.usableFor, State.modChannel_channel_self, Channel.usable]
  rcases h with h | h <;> simp [h]

/-! ## A kept conversion -/

theorem judge_eq_fault_iff {r : Nat} : judge r = .fault ↔ r < 360 ∨ 2100 < r := by
  unfold judge
  split_ifs with h1 h2 h3 h4
  · simp [h1]
  · simp; omega
  · simp; omega
  · simp; omega
  · simp; omega

/-- Readings above the top of the range are judged as the top (section 2.2). -/
theorem judge_min (r : Nat) : judge (min r 2400) = judge r := by
  by_cases h : r ≤ 2400
  · rw [min_eq_left h]
  · have hf : judge r = .fault := judge_eq_fault_iff.mpr (.inr (by omega))
    rw [hf]
    exact judge_eq_fault_iff.mpr (.inr (by omega))

theorem Channel.keep_min (r : Nat) (x : Channel) : Channel.keep (min r 2400) x = { x with
    reading := min r 2400, age := 0
    state :=
      if r < 360 then .fault else if r < 400 then .clamped else if r ≤ 2000 then .valid
      else if r ≤ 2100 then .clamped else .fault
    conds := if (r < 360 ∨ 2100 < r) ∧ x.state ≠ .fault then raise .sensorFault x.conds else x.conds } := by
  rw [Channel.keep, judge_min, raiseIf]
  simp only [decide_eq_true_eq, judge_eq_fault_iff]
  rfl

/-- A completion of a conversion, from an enabled channel or not. -/
theorem exec_conversionCompletion {s : State} {ch : ChannelIdx} {r : Nat} (hr : s.inReset = false)
    (hs : s.scanner = ⟨ch, true⟩) : exec (.conversionCompletion r) s = .next ((if s.enabled ch then
      (Event.of s).keepConversion ch (min r 2400) else Event.of s).update State.chooseConversion).finish := by
  refine congrArg Host.Outcome.next (occur_some hr ?_)
  simp only [hs, if_true]
  rfl

theorem exec_conversionCompletion_of_kept {s : State} {ch : ChannelIdx} {r : Nat} (hr : s.inReset = false)
    (hs : s.scanner = ⟨ch, true⟩) (hen : s.enabled ch = true) {u : State}
    (hk : (Event.of s).keepConversion ch (min r 2400) = Event.of u) :
    exec (.conversionCompletion r) s = .next u.chooseConversion.endEvent := by
  rw [exec_conversionCompletion hr hs, if_pos hen, hk, Event.finish_update]

/-- A kept conversion the pass does not see ends with the channel's record. -/
theorem Event.keepConversion_of_unseen {s : State} {ch : ChannelIdx} {r : Nat}
    (h : (s.channel ch).proof = .held
      ∨ (s.channel ch).proof = .idle ∧ ((s.channel ch).assignment = none ∨ (judge r).live = false)) :
    (Event.of s).keepConversion ch r = Event.of (s.changeChannel ch (Channel.keep r)) := by
  have hx : (s.changeChannel ch (Channel.keep r)).channel ch = Channel.keep r (s.channel ch) := by
    unfold State.changeChannel State.loseUse
    dsimp only
    split <;> (try split) <;> (try split) <;> simp [State.modPass_channel, State.modChannel_channel_self]
  have hp : ((s.changeChannel ch (Channel.keep r)).channel ch).proof = (s.channel ch).proof := by rw [hx]; rfl
  have ha : ((s.changeChannel ch (Channel.keep r)).channel ch).assignment = (s.channel ch).assignment := by rw [hx]; rfl
  have hl : ((s.changeChannel ch (Channel.keep r)).channel ch).state.live = (judge r).live := by rw [hx]; rfl
  unfold Event.keepConversion
  simp only [Event.update_st, Event.of_st, hp, ha, hl]
  rcases h with h | ⟨h, ha | hd⟩
  · simp only [h]
    rfl
  · simp only [h, ha]
    rfl
  · simp only [h, hd]
    cases (s.channel ch).assignment <;> rfl

/-- Settles O25. -/
theorem conversionsAreKeptAndJudged : Obligations.ConversionsAreKeptAndJudged := by
  intro s ch p r hr usable c judged
  have husable (o : ChannelIdx) : s.usableFor p o = usable o := by
    rw [Bool.eq_iff_iff, State.usableFor_iff]
    simp only [usable, Bool.and_eq_true, decide_eq_true_eq, and_assoc]
  have hjudged : s.modChannel ch (Channel.keep (min r 2400)) = judged :=
    State.modChannel_congr (Channel.keep_min r (s.channel ch))
  refine ⟨?_, fun hc => ?_, fun hs hen => ?_, fun hs hen => ⟨fun h => ?_, fun hp ha hbad => ?_⟩⟩
  · simp only [State.lastUsable_iff, husable]
  · exact congrArg Host.Outcome.next (occur_none (if_neg (by simp [hc])))
  · rw [exec_conversionCompletion hr hs, if_neg (by simp [hen]), Event.finish_update]
  · rcases h with h | h | ⟨hp, ha, hd, hlow, hhigh⟩
    · have hunused : s.changeChannel ch (Channel.keep (min r 2400)) = judged :=
        (State.changeChannel_of_unused _ fun q _ => by simp [State.usableFor, Channel.usable, h]).trans hjudged
      refine exec_conversionCompletion_of_kept hr hs hen ?_
      rw [Event.keepConversion_of_unseen (.inl h), hunused]
    · have hunused : s.changeChannel ch (Channel.keep (min r 2400)) = judged :=
        (State.changeChannel_of_unused _ fun q hq => by simp [h.2] at hq).trans hjudged
      refine exec_conversionCompletion_of_kept hr hs hen ?_
      rw [Event.keepConversion_of_unseen (.inr ⟨h.1, .inl h.2⟩), hunused]
    · have hpass : (judged.pass p).defined = false := by rw [← hjudged, State.modChannel_pass]; exact hd
      have hmin : min r 2400 = r := by omega
      have hkeep : s.modChannel ch (fun x => { x with
          reading := r, age := 0, state := if 400 ≤ r ∧ r ≤ 2000 then .valid else .clamped }) = judged := by
        rw [← hjudged, hmin]
        refine State.modChannel_congr ?_
        have hnot : decide (judge r = .fault ∧ (s.channel ch).state ≠ .fault) = false :=
          decide_eq_false fun hf => by rcases judge_eq_fault_iff.mp hf.1 with h | h <;> omega
        rw [Channel.keep, hnot, judge_of_usable hlow hhigh]
        rfl
      refine exec_conversionCompletion_of_kept hr hs hen ?_
      rw [hmin, Event.keepConversion_of_usable (State.enabled_iff.mp hen).1 ha hp hlow hhigh, hkeep,
        Event.handMeasurement]
      exact if_neg (by simp [hpass])
  · have hdead : (judge (min r 2400)).live = false := by
      rw [judge_min, judge_eq_fault_iff.mpr hbad]
      rfl
    refine exec_conversionCompletion_of_kept hr hs hen ?_
    rw [Event.keepConversion_of_unseen (.inr ⟨hp, .inr hdead⟩),
      State.changeChannel_of_lost ha (State.usableFor_modChannel_of_dead (.inl hdead)), hjudged]
    rfl

/-! ## The passage of time and staleness -/

/-- What a state is but for its records that hold a timer. -/
theorem State.eq_but_timers {s t : State} (h1 : t.inReset = s.inReset) (h2 : t.station = s.station)
    (h3 : t.passes = s.passes) (h4 : t.stations = s.stations) (h5 : t.scanner = s.scanner)
    (h6 : t.debounce = s.debounce) (h7 : t.link = s.link) (h8 : t.attn = s.attn) (h9 : t.pending = s.pending) :
    t = { s with channels := t.channels, tips := t.tips, chutes := t.chutes, entries := t.entries
                 lines := t.lines, breaker := t.breaker } := by
  cases t
  subst h1 h2 h3 h4 h5 h6 h7 h8 h9
  rfl

theorem State.passTime_frame (s : State) : s.passTime = { s with
    channels := s.passTime.channels, tips := s.passTime.tips, chutes := s.passTime.chutes
    entries := s.passTime.entries, lines := s.passTime.lines, breaker := s.passTime.breaker } := by
  have hpasses : s.passTime.passes = s.passes := by
    simp only [State.passTime, State.modBreaker_passes, State.mapLines_passes, State.mapEntries_passes,
      State.mapChutes_passes, State.mapTips_passes, State.mapChannels_passes]
  have hstations : s.passTime.stations = s.stations := by
    simp only [State.passTime, State.modBreaker_stations, State.mapLines_stations, State.mapEntries_stations,
      State.mapChutes_stations, State.mapTips_stations, State.mapChannels_stations]
  have hscanner : s.passTime.scanner = s.scanner := by
    simp only [State.passTime, State.modBreaker_scanner, State.mapLines_scanner, State.mapEntries_scanner,
      State.mapChutes_scanner, State.mapTips_scanner, State.mapChannels_scanner]
  have hdebounce : s.passTime.debounce = s.debounce := by
    simp only [State.passTime, State.modBreaker_debounce, State.mapLines_debounce, State.mapEntries_debounce,
      State.mapChutes_debounce, State.mapTips_debounce, State.mapChannels_debounce]
  have hlink : s.passTime.link = s.link := by
    simp only [State.passTime, State.modBreaker_link, State.mapLines_link, State.mapEntries_link,
      State.mapChutes_link, State.mapTips_link, State.mapChannels_link]
  have hpending : s.passTime.pending = s.pending := by
    simp only [State.passTime, State.modBreaker_pending, State.mapLines_pending, State.mapEntries_pending,
      State.mapChutes_pending, State.mapTips_pending, State.mapChannels_pending]
  exact State.eq_but_timers s.passTime_inReset s.passTime_station hpasses hstations hscanner hdebounce hlink
    s.passTime_attn hpending

/-- The reading of a channel goes STALE at the expiry of its staleness timer, and only there (R40). -/
theorem exec_stalenessExpiry_of_due {s : State} {ch : ChannelIdx} {p : PassIdx} (hr : s.inReset = false)
    (ha : (s.channel ch).assignment = some p) (hd : s.staleDue (s.pass p).staleLimit p ch = true) :
    exec (.stalenessExpiry ch) s = .next (s.makeStale ch).endEvent := by
  refine congrArg Host.Outcome.next ((occur_some hr (ev := (Event.of s).update (State.makeStale ch)) ?_).trans
    (Event.finish_update _ s))
  simp only [ha, hd, if_true]

theorem exec_stalenessExpiry_of_not_due {s : State} {ch : ChannelIdx}
    (h : ∀ p, (s.channel ch).assignment = some p → s.staleDue (s.pass p).staleLimit p ch = false) :
    exec (.stalenessExpiry ch) s = .next s := by
  refine congrArg Host.Outcome.next (occur_none ?_)
  cases ha : (s.channel ch).assignment with
  | none => rfl
  | some p => simp [h p ha]

theorem State.staleDue_iff {s : State} {limit : Nat} {p : PassIdx} {ch : ChannelIdx} :
    s.staleDue limit p ch = true ↔ (s.channel ch).assignment = some p
      ∧ ((s.channel ch).state = .valid ∨ (s.channel ch).state = .clamped) ∧ limit ≤ (s.channel ch).age := by
  simp [State.staleDue, ReadingState.live_iff, and_assoc]

/-- Settles O27. -/
theorem agesGrowAndReadingsGoStale : Obligations.AgesGrowAndReadingsGoStale := by
  intro s ch p hr
  refine ⟨⟨s.passTime, congrArg _ (if_neg (by simp [hr])), s.passTime_frame, s.passTime_channel, s.passTime_tip,
    s.passTime_chute, s.passTime_entry, s.passTime_line, s.passTime_breaker⟩, fun ha hlive hage => ?_, fun h => ?_⟩
  · have hstale : s.makeStale ch = if s.lastUsable p ch then
        (s.modChannel ch fun x => { x with state := .stale }).modPass p Pass.blinded
        else s.modChannel ch fun x => { x with state := .stale } :=
      State.changeChannel_of_lost ha (State.usableFor_modChannel_of_dead (.inl rfl))
    rw [exec_stalenessExpiry_of_due hr ha (State.staleDue_iff.mpr ⟨ha, hlive, hage⟩), hstale]
    rfl
  · refine exec_stalenessExpiry_of_not_due fun q hq => ?_
    rw [← Bool.not_eq_true, State.staleDue_iff]
    rintro ⟨-, hlive, hage⟩
    rcases h with h | ⟨ha, hlt⟩ | ⟨hv, hc⟩
    · simp [h] at hq
    · obtain rfl := Option.some.inj (ha.symm.trans hq)
      omega
    · rcases hlive with h | h
      · exact hv h
      · exact hc h

end Sys2Proof.Machine
end

section
/-! The test-current proof of a channel (R151 to R153). -/

namespace Sys2Proof.Machine

theorem State.modChannel_modChannel (ch : ChannelIdx) (f g : Channel → Channel) (s : State) :
    (s.modChannel ch f).modChannel ch g = s.modChannel ch fun x => g (f x) := by
  simp [State.modChannel, State.channel]

theorem State.changeChannel_channel_self (ch : ChannelIdx) (f : Channel → Channel) (s : State) :
    (s.changeChannel ch f).channel ch = f (s.channel ch) := by
  unfold State.changeChannel State.loseUse
  dsimp only
  split
  · split
    · split
      · rw [State.modPass_channel, State.modChannel_channel_self]
      · exact State.modChannel_channel_self ..
    · exact State.modChannel_channel_self ..
  · exact State.modChannel_channel_self ..

/-- A kept conversion of a PROVING channel is offered to the Proof Unit alone (R42, R152). -/
theorem Event.keepConversion_of_proving {s : State} {ch : ChannelIdx} (r : Nat)
    (hp : (s.channel ch).proof = .proving) : (Event.of s).keepConversion ch r
      = Event.of (s.modChannel ch fun x => (x.keep r).offered r) := by
  have hkeep : s.changeChannel ch (Channel.keep r) = s.modChannel ch (Channel.keep r) :=
    State.changeChannel_of_unused _ fun q _ => by simp [State.usableFor, Channel.usable, hp]
  have hproof : ((s.modChannel ch (Channel.keep r)).channel ch).proof = .proving := by
    rw [State.modChannel_channel_self]
    exact hp
  unfold Event.keepConversion
  simp only [Event.update_st, Event.of_st, hkeep, hproof]
  exact congrArg Event.of ((congrArg _ hkeep).trans (s.modChannel_modChannel ch _ _))

theorem exec_conversionCompletion_of_proving {s : State} {ch : ChannelIdx} {r : Nat} {f : Channel → Channel}
    (hr : s.inReset = false) (hs : s.scanner = ⟨ch, true⟩) (hen : s.enabled ch = true)
    (hp : (s.channel ch).proof = .proving)
    (hf : (Channel.keep (min r 2400) (s.channel ch)).offered (min r 2400) = f (s.channel ch)) :
    exec (.conversionCompletion r) s = .next (s.modChannel ch f).chooseConversion.endEvent := by
  refine exec_conversionCompletion_of_kept hr hs hen ?_
  rw [Event.keepConversion_of_proving _ hp]
  exact congrArg Event.of (State.modChannel_congr hf)

/-! ## PROVE CHANNEL and ACCEPT PROOF -/

theorem State.proveChannelReply_val (ch : ChannelIdx) (s : State) : s.proveChannelReply ch =
    if !(s.channel ch).defined || (s.channel ch).assignment.isNone || !s.bound (.test ch) then .no .noRecord
    else if (s.channel ch).proof ≠ .idle then .no .busy
    else .take ((Event.of s).update (State.changeChannel ch (Channel.prove s.station.proofWindow)))
      fun t => bigEndian 1 (t.channel ch).proof.code ++ bigEndian 2 s.station.proofWindow := withIndex_val ..

theorem exec_proveChannel_of_ready {rq : Request} {ch : ChannelIdx} {p : PassIdx} {s : State}
    (ht : s.takes rq 1 = true) (hd : (s.channel ch).defined = true) (ha : (s.channel ch).assignment = some p)
    (hb : s.bound (.test ch) = true) (hp : (s.channel ch).proof = .idle) : exec (.proveChannel rq ch) s
      = .next ((if s.lastUsable p ch then
          (s.modChannel ch (Channel.prove s.station.proofWindow)).modPass p Pass.blinded
        else s.modChannel ch (Channel.prove s.station.proofWindow)).endEvent.answered rq .accepted
          (bigEndian 1 1 ++ bigEndian 2 s.station.proofWindow)) := by
  have hreply := (s.proveChannelReply_val ch).trans ((if_neg (by simp [hd, ha, hb])).trans (if_neg (by simp [hp])))
  have hlost := State.changeChannel_of_lost (f := Channel.prove s.station.proofWindow) ha
    (State.usableFor_modChannel_of_dead (.inr (by simp [Channel.prove])))
  change (Host.Outcome.next (request rq 1 (State.proveChannelReply ch) s) : Result) = _
  rw [request_of_reply_take ht hreply, Event.finish_update, State.endEvent_channel,
    State.changeChannel_channel_self, hlost]
  rfl

theorem State.acceptChannelReply_val (ch : ChannelIdx) (s : State) : s.acceptProofReply 6 ch =
    if !(s.channel ch).defined then .no .noRecord
    else if (s.channel ch).proof = .proving then .no .busy
    else .take (if (s.channel ch).proof = .held then
        (Event.of s).update (State.modChannel ch fun x => { x with proof := .idle, state := .none })
      else Event.of s)
      fun t => bigEndian 1 (t.channel ch).lastProof.code ++ bigEndian 1 (t.channel ch).proof.code := by
  change withIndex 8 ch.val _ = _
  exact withIndex_val ..

/-- Settles O26. -/
theorem channelProofsRunTheirCourse : Obligations.ChannelProofsRunTheirCourse := by
  intro rq ch p r s x result
  refine ⟨fun ht => ⟨fun hd ha hb hp => ⟨?_, exec_proveChannel_of_ready ht hd ha hb hp⟩, fun hd ha hb hp => ?_,
    fun h => ?_⟩, fun hr hp => ⟨fun hw => ?_, fun hm => ?_, fun hs hen hlow hhigh => ?_, fun hs hen hbad => ?_⟩,
    fun ht => ⟨fun hd hp => ?_, fun hd hp => ?_, fun hd hp => ?_, fun hd => ?_⟩⟩
  · simp [State.command]
  · have hx : (!(s.channel ch).defined || (s.channel ch).assignment.isNone || !s.bound (.test ch)) = false := by
      simp [show (s.channel ch).defined = true from hd, show (s.channel ch).assignment = some p from ha, hb]
    exact congrArg Host.Outcome.next (request_of_reply_no (owner := State.proveChannelReply ch) ht
      ((s.proveChannelReply_val ch).trans ((if_neg (by simp [hx])).trans (if_pos hp))))
  · refine congrArg Host.Outcome.next (request_of_reply_no (owner := State.proveChannelReply ch) ht
      ((s.proveChannelReply_val ch).trans (if_pos ?_)))
    rcases h with h | h | h
    · simp [show (s.channel ch).defined = false from h]
    · simp [show (s.channel ch).assignment = none from h]
    · simp [h]
  · exact congrArg Host.Outcome.next ((occur_some hr (if_pos ⟨hp, hw⟩)).trans (Event.finish_update _ s))
  · exact congrArg Host.Outcome.next ((occur_some hr (if_pos ⟨hp, hm⟩)).trans (Event.finish_update _ s))
  · refine exec_conversionCompletion_of_proving hr hs hen hp ?_
    have hmin : min r 2400 = r := by omega
    have hnot : decide (judge r = .fault ∧ (s.channel ch).state ≠ .fault) = false :=
      decide_eq_false fun hf => by rcases judge_eq_fault_iff.mp hf.1 with h | h <;> omega
    rw [hmin, Channel.offered, Channel.keep, hnot, judge_of_usable hlow hhigh]
    exact if_congr (and_iff_right hp) rfl rfl
  · refine exec_conversionCompletion_of_proving hr hs hen hp ?_
    have hno : ¬ ((Channel.keep (min r 2400) x).proof = .proving ∧ (Channel.keep (min r 2400) x).settleMark = none
        ∧ 1160 ≤ min r 2400 ∧ min r 2400 ≤ 1240) := by omega
    have hfault : judge (min r 2400) = .fault := (judge_min r).trans (judge_eq_fault_iff.mpr hbad)
    refine (if_neg hno).trans ?_
    have hconds : raiseIf (decide (ReadingState.fault = .fault ∧ x.state ≠ .fault)) .sensorFault x.conds
        = if x.state = .fault then x.conds else raise .sensorFault x.conds := by
      by_cases hx : x.state = .fault <;> simp [raiseIf, hx]
    rw [Channel.keep, hfault, hconds]
  · have hreply := (s.acceptChannelReply_val ch).trans ((if_neg (by simp [show (s.channel ch).defined = true from hd])).trans
      (if_neg (by simp [show (s.channel ch).proof = .held from hp])))
    change (Host.Outcome.next (request rq 2 (State.acceptProofReply 6 ch) s) : Result) = _
    rw [request_of_reply_take ht hreply, if_pos hp, Event.finish_update, State.endEvent_channel,
      State.modChannel_channel_self]
    rfl
  · have hreply := (s.acceptChannelReply_val ch).trans ((if_neg (by simp [show (s.channel ch).defined = true from hd])).trans
      (if_neg (by simp [show (s.channel ch).proof = .idle from hp])))
    have hnot : (s.channel ch).proof ≠ .held := by simp [show (s.channel ch).proof = .idle from hp]
    change (Host.Outcome.next (request rq 2 (State.acceptProofReply 6 ch) s) : Result) = _
    rw [request_of_reply_take ht hreply, if_neg hnot, Event.finish_of, State.endEvent_channel,
      show (s.channel ch).proof = .idle from hp]
    rfl
  · exact congrArg Host.Outcome.next (request_of_reply_no (owner := State.acceptProofReply 6 ch) ht
      ((s.acceptChannelReply_val ch).trans ((if_neg (by simp [show (s.channel ch).defined = true from hd])).trans
        (if_pos hp))))
  · exact congrArg Host.Outcome.next (request_of_reply_no (owner := State.acceptProofReply 6 ch) ht
      ((s.acceptChannelReply_val ch).trans (if_pos (by simp [show (s.channel ch).defined = false from hd]))))

end Sys2Proof.Machine
end

section
/-! DEFINE CHANNEL and SCAN LIST (R29 to R31, R43). -/

namespace Sys2Proof.Machine

/-! ## Operands -/

theorem optionIndex?_eq_some {n : Nat} {o : Option Nat} {a : Option (Fin n)} (h : optionIndex? n o = some a) :
    o = a.map Fin.val := by
  cases o with
  | none => cases h; rfl
  | some i =>
    obtain ⟨j, hj, rfl⟩ := Option.map_eq_some_iff.mp h
    exact congrArg some (index?_eq_some hj).symm

theorem lines?_eq_some {os : List (Option Nat)} {ls : List (Option LineIdx)} (h : lines? os = some ls) :
    os = ls.map (Option.map Fin.val) := by
  induction os generalizing ls with
  | nil => cases h; rfl
  | cons o os ih =>
    unfold lines? at h
    split at h
    case h_1 l ls' hl hls =>
      cases h
      rw [List.map_cons, ← ih hls, ← optionIndex?_eq_some hl]
    case h_2 => cases h

/-- The pass named in RUN by an index must be one, and out of service (log 26). -/
theorem State.namedInService_iff {s : State} {n : Nat} :
    s.namedInService n = true ↔ ∃ p : PassIdx, p.val = n ∧ (s.pass p).state = .outOfService := by
  unfold State.namedInService
  constructor
  · intro h
    split at h
    case h_1 p hp => exact ⟨p, index?_eq_some hp, by simpa using h⟩
    case h_2 => cases h
  · rintro ⟨p, rfl, hp⟩
    simp [index?_val, hp]

theorem State.namedInService_val {s : State} {p : PassIdx} :
    s.namedInService p.val = true ↔ (s.pass p).state = .outOfService := by
  simp [State.namedInService, index?_val]

theorem outside_iff {a b x : Nat} : outside a b x = true ↔ x < a ∨ b < x := by
  simp [outside]

theorem outputInBankF_iff {l : Option LineIdx} : outputInBankF l = true ↔ ∃ i, l = some i ∧ 40 ≤ i.val := by
  cases l <;> simp [outputInBankF, inBankF]

/-- Two members of a list in ascending order are two of its length. -/
theorem two_le_length_iff {n : Nat} {l : List (Fin n)} (h : l.Pairwise (· < ·)) :
    2 ≤ l.length ↔ ∃ a b, a < b ∧ a ∈ l ∧ b ∈ l := by
  constructor
  · intro hlen
    match l, hlen with
    | a :: b :: l, _ => exact ⟨a, b, List.rel_of_pairwise_cons h (by simp), by simp, by simp⟩
  · rintro ⟨a, b, hab, ha, hb⟩
    match l with
    | [] => cases ha
    | [c] => exact absurd hab (by simp_all)
    | _ :: _ :: _ => simp

/-! ## DEFINE CHANNEL -/

/-- DEFINE CHANNEL is taken in SETUP, and in RUN where every pass it names is OUT_OF_SERVICE (R29). -/
def State.definesChannel (s : State) (ch : ChannelIdx) (a : Option Nat) : Prop :=
  s.station.mode = .setup ∨ (s.station.mode = .run
    ∧ (∀ q, (s.channel ch).assignment = some q → (s.pass q).state = .outOfService)
    ∧ ∀ n, a = some n → s.namedInService n = true)

theorem State.definesChannel_iff {s : State} {ch : ChannelIdx} {a : Option Nat} :
    s.modeAllows (s.assignmentsInService ch a) = true ↔ s.definesChannel ch a := by
  simp [modeAllows_iff, State.assignmentsInService, State.definesChannel, Option.all_eq_true]

theorem State.channelsFull_iff {s : State} {ch : ChannelIdx} {q : PassIdx} : s.channelsFull ch q = true ↔
    ∃ o1 o2 : ChannelIdx, o1 < o2 ∧ o1 ≠ ch ∧ o2 ≠ ch
      ∧ (s.channel o1).assignment = some q ∧ (s.channel o2).assignment = some q := by
  have hsorted := (List.pairwise_lt_finRange 8).filter fun o =>
    decide (o ≠ ch) && decide ((s.channel o).assignment = some q)
  rw [State.channelsFull, decide_eq_true_eq, two_le_length_iff hsorted]
  simp only [List.mem_filter, List.mem_finRange, true_and, Bool.and_eq_true, decide_eq_true_eq]
  constructor
  · rintro ⟨a, b, hab, ⟨ha, ha'⟩, hb, hb'⟩
    exact ⟨a, b, hab, ha, hb, ha', hb'⟩
  · rintro ⟨a, b, hab, ha, hb, ha', hb'⟩
    exact ⟨a, b, hab, ⟨ha, ha'⟩, hb, hb'⟩

section
variable {s : State} {ch : ChannelIdx} {zeroAt span : Nat}

theorem defineChannelReply_of_not_allowed {a l : Option Nat} (h : ¬ s.definesChannel ch a) :
    s.defineChannelReply ch a zeroAt span l = .no .wrongMode := by
  unfold State.defineChannelReply
  rw [withIndex_val]
  exact if_pos (by simpa using mt State.definesChannel_iff.mp h)

theorem defineChannelReply_of_busy {a l : Option Nat} (h : s.definesChannel ch a)
    (hp : (s.channel ch).proof ≠ .idle) : s.defineChannelReply ch a zeroAt span l = .no .busy := by
  unfold State.defineChannelReply
  rw [withIndex_val]
  exact (if_neg (by simp [State.definesChannel_iff.mpr h])).trans (if_pos hp)

theorem defineChannelReply_of_bad {a l : Option Nat} (h : s.definesChannel ch a)
    (hp : (s.channel ch).proof = .idle) (hbad : 30000 < zeroAt ∨ span < 100 ∨ 30000 < span
      ∨ a.any (fun n => decide (5 < n)) = true ∨ l.any (fun n => decide (39 < n)) = true) :
    s.defineChannelReply ch a zeroAt span l = .no .outOfRange := by
  unfold State.defineChannelReply
  rw [withIndex_val]
  refine (if_neg (by simp [State.definesChannel_iff.mpr h])).trans ((if_neg (by simp [hp])).trans ?_)
  split
  case h_1 a' l' ha hl =>
    refine if_pos ?_
    obtain rfl := optionIndex?_eq_some ha
    obtain rfl : l = l'.map Fin.val := by simpa using lines?_eq_some hl
    simp only [Bool.or_eq_true, outside_iff, outputInBankF_iff]
    rcases hbad with h | h | h | h | h
    · omega
    · omega
    · omega
    · obtain ⟨n, hn, h5⟩ := Option.any_eq_true _ _ |>.mp h
      obtain ⟨p, -, rfl⟩ := Option.map_eq_some_iff.mp hn
      have := p.isLt
      simp at h5
      omega
    · obtain ⟨n, hn, h39⟩ := Option.any_eq_true _ _ |>.mp h
      obtain ⟨i, hi, rfl⟩ := Option.map_eq_some_iff.mp hn
      exact .inr ⟨i, hi, Nat.lt_of_not_le (by simpa using h39)⟩
  case h_2 => rfl

/-- The rest of DEFINE CHANNEL, once its values are found in range. -/
theorem defineChannelReply_of_ranges {a : Option PassIdx} {l : Option LineIdx}
    (h : s.definesChannel ch (a.map Fin.val)) (hp : (s.channel ch).proof = .idle) (hz : zeroAt ≤ 30000)
    (hlow : 100 ≤ span) (hhigh : span ≤ 30000) (hl : ∀ i, l = some i → i.val < 40) :
    s.defineChannelReply ch (a.map Fin.val) zeroAt span (l.map Fin.val) =
      if a.any (fun p => !(s.pass p).defined) then .no .noRecord
      else if a.any (s.channelsFull ch) then .no .tableFull
      else if s.lineConflict [(.test ch, l)] then .no .lineConflict
      else
        let s1 := (s.changeChannel ch (Channel.define a zeroAt span)).bindLines [(.test ch, l)]
        .done (Event.of (if s1.listed ch then s1.wakeScanner else s1)) := by
  have hlines : lines? [l.map Fin.val] = some [l] := lines?_map_val [l]
  have hrange : ¬ (outside 0 30000 zeroAt || outside 100 30000 span || outputInBankF l) = true := by
    simp only [Bool.or_eq_true, outside_iff, outputInBankF_iff, not_or, not_exists, not_and, not_le]
    exact ⟨by omega, hl⟩
  unfold State.defineChannelReply
  rw [withIndex_val]
  refine (if_neg (by simp [State.definesChannel_iff.mpr h])).trans ((if_neg (by simp [hp])).trans ?_)
  simp only [optionIndex?_map_val, hlines]
  exact if_neg hrange

end

/-- A channel defined anew is of no use to its old pass until it is read (R29, R31). -/
theorem State.changeChannel_define (s : State) (ch : ChannelIdx) (a : Option PassIdx) (zeroAt span : Nat) :
    s.changeChannel ch (Channel.define a zeroAt span) = match (s.channel ch).assignment with
      | some q => if s.lastUsable q ch then
          (s.modChannel ch (Channel.define a zeroAt span)).modPass q Pass.blinded
          else s.modChannel ch (Channel.define a zeroAt span)
      | none => s.modChannel ch (Channel.define a zeroAt span) := by
  cases hx : (s.channel ch).assignment with
  | none => exact State.changeChannel_of_unused _ fun p hp => by simp [hx] at hp
  | some q => exact State.changeChannel_of_lost hx (State.usableFor_modChannel_of_dead (.inl rfl))

theorem State.bindLines_listed (roles : Roles) (s : State) (ch : ChannelIdx) :
    (s.bindLines roles).listed ch = s.listed ch := by
  simp [State.listed]

theorem State.changeChannel_breaker (ch : ChannelIdx) (f : Channel → Channel) (s : State) :
    (s.changeChannel ch f).breaker = s.breaker ∧ (s.changeChannel ch f).scanner = s.scanner := by
  unfold State.changeChannel State.loseUse
  dsimp only
  split
  · split
    · split <;> exact ⟨rfl, rfl⟩
    · exact ⟨rfl, rfl⟩
  · exact ⟨rfl, rfl⟩

theorem State.changeChannel_listed (s : State) (ch : ChannelIdx) (a : Option PassIdx) (zeroAt span : Nat) :
    (s.changeChannel ch (Channel.define a zeroAt span)).listed ch = s.listed ch := by
  rw [State.listed, (s.changeChannel_breaker ch _).1, State.changeChannel_channel_self]
  rfl

/-- A listed channel wakes an idle scanner (R31, R34). -/
theorem State.wakeListed_eq (u : State) (ch : ChannelIdx) : (if u.listed ch then u.wakeScanner else u)
    = if u.listed ch = true ∧ u.scanner.converting = false then u.chooseConversion else u := by
  by_cases hl : u.listed ch = true <;> by_cases hc : u.scanner.converting = true <;> simp [hl, hc, State.wakeScanner]

/-- Settles O28. -/
theorem defineChannelAndScanListSetTheChannels : Obligations.DefineChannelAndScanListSetTheChannels := by
  intro rq ch a zeroAt span l a' l' quiet breaking s x serving raw rawAllowed c allowed full
  have hserving (n : Nat) : serving n = s.namedInService n := by
    rw [Bool.eq_iff_iff, State.namedInService_iff]
    simp [serving]
  have hraw : rawAllowed ↔ s.definesChannel ch a' := by
    simp only [rawAllowed, State.definesChannel, Option.all_eq_true, hserving, x]
  have hallowed : allowed ↔ s.definesChannel ch (a.map Fin.val) := by
    refine or_congr_right (and_congr_right fun _ => ⟨fun h => ⟨fun q hq => h q (.inl hq), fun n hn => ?_⟩,
      fun ⟨h, h'⟩ q hq => hq.elim (h q) fun hq => State.namedInService_val.mp (h' _ (by simp [hq]))⟩)
    obtain ⟨q, hq, rfl⟩ := Option.map_eq_some_iff.mp hn
    exact State.namedInService_val.mpr (h q (.inr hq))
  refine ⟨fun ht => ⟨fun h => ?_, fun h hp => ?_, fun h hp hbad => ?_, fun h hp hz hlow hhigh hl => ?_⟩, fun ht => ?_⟩
  · exact congrArg Host.Outcome.next (request_of_reply_no ht (defineChannelReply_of_not_allowed (mt hraw.mpr h)))
  · exact congrArg Host.Outcome.next (request_of_reply_no ht (defineChannelReply_of_busy (hraw.mp h) hp))
  · exact congrArg Host.Outcome.next (request_of_reply_no ht (defineChannelReply_of_bad (hraw.mp h) hp hbad))
  · have hreply := defineChannelReply_of_ranges (hallowed.mp h) hp hz hlow hhigh hl
    refine ⟨fun ⟨q, hq, hd⟩ => ?_, fun hdef => ⟨fun ⟨q, hq, hfull⟩ => ?_, fun hroom => ⟨fun hc => ?_, fun hc => ?_⟩⟩⟩
    · exact congrArg Host.Outcome.next (request_of_reply_no ht (hreply.trans (if_pos (by simp [hq, hd]))))
    · exact congrArg Host.Outcome.next (request_of_reply_no ht (hreply.trans ((if_neg (by simp [hq, hdef q hq])).trans
        (if_pos (by simp [hq, State.channelsFull_iff.mpr hfull])))))
    all_goals
      have hundefined : ¬ a.any (fun p => !(s.pass p).defined) = true := by
        rw [Option.any_eq_true]
        rintro ⟨q, hq, hd⟩
        simp [hdef q hq] at hd
      have hfull : ¬ a.any (s.channelsFull ch) = true := by
        rw [Option.any_eq_true]
        rintro ⟨q, hq, hf⟩
        exact hroom q hq (State.channelsFull_iff.mp hf)
    · exact congrArg Host.Outcome.next (request_of_reply_no ht
        (hreply.trans ((if_neg hundefined).trans ((if_neg hfull).trans (if_pos hc)))))
    · have htake := hreply.trans ((if_neg hundefined).trans ((if_neg hfull).trans (if_neg (by simp [hc]))))
      refine congrArg Host.Outcome.next ((request_of_reply_take ht htake).trans ?_)
      rw [Event.finish_of, State.wakeListed_eq, State.bindLines_listed, State.changeChannel_listed,
        State.bindLines_scanner, (s.changeChannel_breaker ch _).2, State.changeChannel_define]
      rfl
  · exact congrArg Host.Outcome.next ((request_of_reply_take ht rfl).trans
      (congrArg (fun u : State => u.answered rq .accepted [quiet, breaking]) (Event.finish_update _ s)))

end Sys2Proof.Machine
end

section
/-! DEFINE TIP (R46 to R48). -/

namespace Sys2Proof.Machine

theorem any_above_map_val {n k : Nat} {o : Option (Fin n)} :
    (o.map Fin.val).any (fun i => decide (k < i)) = true ↔ ∃ i, o = some i ∧ k < i.val := by
  cases o <;> simp

/-- No index of a range of `n` lies above its last. -/
theorem not_any_above {n k : Nat} {o : Option (Fin n)} (h : n ≤ k + 1) :
    ¬ (o.map Fin.val).any (fun i => decide (k < i)) = true := by
  rw [any_above_map_val]
  rintro ⟨i, -, hi⟩
  have := i.isLt
  omega

theorem outputInBankF_map {l : Option LineIdx} :
    outputInBankF l = true ↔ (l.map Fin.val).any (fun i => decide (39 < i)) = true := by
  rw [outputInBankF_iff, any_above_map_val]
  rfl

theorem State.modTip_modTip (t : TipIdx) (f g : Tip → Tip) (s : State) :
    (s.modTip t f).modTip t g = s.modTip t fun x => g (f x) := by
  simp [State.modTip, State.tip]

theorem State.modTip_congr {t : TipIdx} {f g : Tip → Tip} {s : State} (h : f (s.tip t) = g (s.tip t)) :
    s.modTip t f = s.modTip t g := by
  unfold State.modTip
  exact congrArg (fun x => { s with tips := s.tips.set t x }) h

/-- DEFINE TIP is taken in SETUP, and in RUN where the passes it names are OUT_OF_SERVICE (R46). -/
def State.definesTip (s : State) (t : TipIdx) (pass : Nat) : Prop :=
  s.station.mode = .setup ∨ (s.station.mode = .run ∧ s.namedInService pass = true
    ∧ ((s.tip t).defined = true → (s.pass (s.tip t).pass).state = .outOfService))

theorem State.definesTip_iff {s : State} {t : TipIdx} {pass : Nat} :
    s.modeAllows (s.namedInService pass
      && (!(s.tip t).defined || decide ((s.pass (s.tip t).pass).state = .outOfService))) = true
    ↔ s.definesTip t pass := by
  simp [modeAllows_iff, State.definesTip, ← imp_iff_not_or, ← Bool.not_eq_true]

section
variable {s : State} {t : TipIdx} {n elevation load level : Nat}

theorem defineTipReply_of_not_allowed {g call sensor lamp oversize : Option Nat} (h : ¬ s.definesTip t n) :
    s.defineTipReply t n elevation load level g call sensor lamp oversize = .no .wrongMode := by
  unfold State.defineTipReply
  rw [withIndex_val]
  exact if_pos (by rw [Bool.not_eq_true', ← Bool.not_eq_true]; exact mt State.definesTip_iff.mp h)

theorem defineTipReply_of_bad {g call sensor lamp oversize : Option Nat} (h : s.definesTip t n)
    (hbad : 5 < n ∨ 30000 < elevation ∨ load < 5 ∨ 600 < load ∨ level < 1 ∨ 7 < level
      ∨ g.any (fun i => decide (3 < i)) = true ∨ call.any (fun i => decide (47 < i)) = true
      ∨ sensor.any (fun i => decide (47 < i)) = true ∨ lamp.any (fun i => decide (39 < i)) = true
      ∨ oversize.any (fun i => decide (47 < i)) = true ∨ (oversize.isSome = true ∧ g = none)) :
    s.defineTipReply t n elevation load level g call sensor lamp oversize = .no .outOfRange := by
  unfold State.defineTipReply
  rw [withIndex_val]
  refine (if_neg (by simp [State.definesTip_iff.mpr h])).trans ?_
  split
  case h_1 p' g' call' sensor' lamp' oversize' hp hg hls =>
    refine if_pos ?_
    obtain rfl := index?_eq_some hp
    obtain rfl := optionIndex?_eq_some hg
    obtain ⟨rfl, rfl, rfl, rfl⟩ : call = call'.map Fin.val ∧ sensor = sensor'.map Fin.val
        ∧ lamp = lamp'.map Fin.val ∧ oversize = oversize'.map Fin.val := by simpa using lines?_eq_some hls
    have hp := p'.isLt
    simp only [Bool.or_eq_true, outside_iff, outputInBankF_map, Bool.and_eq_true, Option.isNone_iff_eq_none]
    rcases hbad with h | h | h | h | h | h | h | h | h | h | h | ⟨h, hn⟩
    · omega
    · omega
    · omega
    · omega
    · omega
    · omega
    · exact absurd h (not_any_above (by omega))
    · exact absurd h (not_any_above (by omega))
    · exact absurd h (not_any_above (by omega))
    · exact .inl (.inr h)
    · exact absurd h (not_any_above (by omega))
    · exact .inr ⟨by simpa using h, by simpa using hn⟩
  case h_2 => rfl

/-- The rest of DEFINE TIP, once its values are found in range. -/
theorem defineTipReply_of_ranges {p : PassIdx} {g : Option StationIdx} {call sensor lamp oversize : Option LineIdx}
    (h : s.definesTip t p) (he : elevation ≤ 30000) (hlow : 5 ≤ load) (hhigh : load ≤ 600) (hl1 : 1 ≤ level)
    (hl7 : level ≤ 7) (hlamp : ∀ i, lamp = some i → i.val < 40)
    (ho : oversize.isSome = true → g.isSome = true) :
    s.defineTipReply t p elevation load level (g.map Fin.val) (call.map Fin.val) (sensor.map Fin.val)
        (lamp.map Fin.val) (oversize.map Fin.val) =
      if !(s.pass p).defined then .no .noRecord
      else if g.isSome && (List.finRange 16).any (fun o =>
          decide (o ≠ t) && (s.tip o).defined && decide ((s.tip o).grizzly = g)) then .no .duplicate
      else if decide (s.station.mode = .run) && s.tipGeometry t p elevation g call sensor lamp oversize then
        .no .geometry
      else if s.lineConflict (tipRoles t call sensor lamp oversize) then .no .lineConflict
      else .done ((Event.of s).update (State.defineTip t p elevation load level g
        (tipRoles t call sensor lamp oversize))).touchAll := by
  have hlines : lines? [call.map Fin.val, sensor.map Fin.val, lamp.map Fin.val, oversize.map Fin.val]
      = some [call, sensor, lamp, oversize] := lines?_map_val [call, sensor, lamp, oversize]
  have hrange : ¬ (outside 0 30000 elevation || outside 5 600 load || outside 1 7 level
      || outputInBankF lamp || (oversize.isSome && g.isNone)) = true := by
    simp only [Bool.or_eq_true, outside_iff, outputInBankF_iff, not_or, not_exists, not_and, not_le, Bool.and_eq_true,
      Bool.not_eq_true]
    exact ⟨⟨⟨⟨by omega, by omega⟩, by omega⟩, hlamp⟩, fun h => by simpa using ho h⟩
  unfold State.defineTipReply
  rw [withIndex_val]
  refine (if_neg (by simp [State.definesTip_iff.mpr h])).trans ?_
  simp only [index?_val, optionIndex?_map_val, hlines]
  exact if_neg hrange

end

theorem State.tipGeometry_iff {s : State} {t : TipIdx} {p : PassIdx} {elevation : Nat} {g : Option StationIdx}
    {call sensor lamp oversize : Option LineIdx} : s.tipGeometry t p elevation g call sensor lamp oversize = true ↔
    (s.pass p).height < elevation ∨ call = none ∨ sensor = none ∨ lamp = none
      ∨ (g.isSome = true ∧ oversize = none)
      ∨ (∃ k, (s.bst k).defined = true ∧ (s.bst k).tip = t ∧ g ≠ some k)
      ∨ ∃ k, g = some k ∧ (s.bst k).defined = true ∧ (s.bst k).tip ≠ t := by
  simp only [State.tipGeometry, Bool.or_eq_true, decide_eq_true_eq, Option.isNone_iff_eq_none, Bool.and_eq_true,
    List.any_eq_true, List.mem_finRange, true_and, Option.any_eq_true, or_assoc, and_assoc]

/-- The working state an accepted DEFINE TIP makes (R48). -/
theorem State.defineTip_eq (s : State) (t : TipIdx) (p : PassIdx) (elevation load level : Nat)
    (g : Option StationIdx) (roles : Roles) : s.defineTip t p elevation load level g roles =
      ((if (s.tip t).defined = true ∧ (s.tip t).state = .waiting then
          s.modPass (s.tip t).pass fun q => { q with waiting := q.waiting.filter (· ≠ t) }
        else s).modTip t fun y =>
          if y.defined then { y with
            pass := p, elevation := elevation, load := load, level := level, grizzly := g
            state := if y.state = .waiting then .idle else y.state }
          else ⟨true, p, elevation, load, level, g, y.timeout, .idle, .field, none, 0⟩).bindLines roles := by
  unfold State.defineTip
  by_cases hw : (s.tip t).defined = true ∧ (s.tip t).state = .waiting
  · obtain ⟨hd, hst⟩ := hw
    have hb : ((s.tip t).defined && decide ((s.tip t).state = .waiting)) = true := by simp [hd, hst]
    rw [if_pos hb, if_pos ⟨hd, hst⟩]
    refine congrArg (State.bindLines roles) ?_
    rw [State.withdrawCall, State.modTip_modTip]
    refine State.modTip_congr ?_
    simp [Tip.define, hd, hst]
  · have hb : ¬ ((s.tip t).defined && decide ((s.tip t).state = .waiting)) = true := by simpa using hw
    rw [if_neg hb, if_neg hw]
    refine congrArg (State.bindLines roles) (State.modTip_congr ?_)
    unfold Tip.define
    by_cases hd : (s.tip t).defined = true
    · have hst : (s.tip t).state ≠ .waiting := fun h => hw ⟨hd, h⟩
      simp only [hd, if_true, if_neg hst]
    · simp only [hd]
      rfl

/-- Settles O29. -/
theorem defineTipTreatsTheWorkingState : Obligations.DefineTipTreatsTheWorkingState := by
  intro rq t p n elevation load level g call sensor lamp oversize g' call' sensor' lamp' oversize' s ht x roles above
    raw rawAllowed c misplaced
  have hraw : rawAllowed ↔ s.definesTip t n :=
    or_congr_right (and_congr_right fun _ => and_congr_left fun _ => State.namedInService_iff.symm)
  refine ⟨fun h => ?_, fun h hbad => ?_, fun h he hlow hhigh hl1 hl7 hlamp ho => ?_⟩
  · exact congrArg Host.Outcome.next (request_of_reply_no ht (defineTipReply_of_not_allowed (mt hraw.mpr h)))
  · exact congrArg Host.Outcome.next (request_of_reply_no ht (defineTipReply_of_bad (hraw.mp h) hbad))
  · have hallowed : s.definesTip t p := h.imp_right fun ⟨hm, hp, hx⟩ => ⟨hm, State.namedInService_val.mpr hp, hx⟩
    have hreply := defineTipReply_of_ranges (call := call) (sensor := sensor) hallowed he hlow hhigh hl1 hl7 hlamp ho
    refine ⟨fun hd => ?_, fun hd => ⟨fun ⟨o, ho, hdo, hg, hgo⟩ => ?_, fun hfree => ?_⟩⟩
    · exact congrArg Host.Outcome.next (request_of_reply_no ht (hreply.trans (if_pos (by simp [hd]))))
    · refine congrArg Host.Outcome.next (request_of_reply_no ht
        (hreply.trans ((if_neg (by simp [hd])).trans (if_pos ?_))))
      simp only [Bool.and_eq_true, List.any_eq_true, List.mem_finRange, true_and, decide_eq_true_eq]
      exact ⟨hg, o, ⟨ho, hdo⟩, hgo⟩
    have hduplicate : ¬ (g.isSome && (List.finRange 16).any (fun o =>
        decide (o ≠ t) && (s.tip o).defined && decide ((s.tip o).grizzly = g))) = true := by
      simp only [Bool.and_eq_true, List.any_eq_true, List.mem_finRange, true_and, decide_eq_true_eq]
      rintro ⟨hg, o, ⟨ho, hdo⟩, hgo⟩
      exact hfree o ho hdo hg hgo
    have hfound := hreply.trans ((if_neg (by simp [hd])).trans (if_neg hduplicate))
    refine ⟨fun hm hgeo => ?_, fun hgeo => ⟨fun hc => ?_, fun hc => ?_⟩⟩
    · exact congrArg Host.Outcome.next (request_of_reply_no ht
        (hfound.trans (if_pos (by simp [hm, State.tipGeometry_iff.mpr hgeo]))))
    all_goals
      have hplaced : ¬ (decide (s.station.mode = .run)
          && s.tipGeometry t p elevation g call sensor lamp oversize) = true := by
        rw [Bool.and_eq_true, decide_eq_true_eq]
        exact fun h => hgeo h.1 (State.tipGeometry_iff.mp h.2)
    · exact congrArg Host.Outcome.next (request_of_reply_no ht
        (hfound.trans ((if_neg hplaced).trans (if_pos hc))))
    · have htake := hfound.trans ((if_neg hplaced).trans (if_neg (Bool.not_eq_true _ ▸ hc)))
      refine congrArg Host.Outcome.next ((request_of_reply_take ht htake).trans ?_)
      refine congrArg (fun ev : Event => ev.finish.answered rq .accepted []) ?_
      exact congrArg (fun u : State => (⟨u, [], [], false, List.finRange 24⟩ : Event))
        (s.defineTip_eq t p elevation load level g roles)

end Sys2Proof.Machine
end

section
/-! DEFINE CHUTE (R73 to R75). -/

namespace Sys2Proof.Machine

/-- DEFINE CHUTE is taken in SETUP, and in RUN where the passes it names are OUT_OF_SERVICE (R73). -/
def State.definesChute (s : State) (c : ChuteIdx) (pass : Nat) : Prop :=
  s.station.mode = .setup ∨ (s.station.mode = .run ∧ s.namedInService pass = true
    ∧ ((s.chute c).defined = true → (s.pass (s.chute c).pass).state = .outOfService))

theorem State.definesChute_iff {s : State} {c : ChuteIdx} {pass : Nat} :
    s.modeAllows (s.namedInService pass
      && (!(s.chute c).defined || decide ((s.pass (s.chute c).pass).state = .outOfService))) = true
    ↔ s.definesChute c pass := by
  simp [modeAllows_iff, State.definesChute, ← imp_iff_not_or, ← Bool.not_eq_true]

section
variable {s : State} {c : ChuteIdx} {n elevation volume : Nat}

theorem defineChuteReply_of_not_allowed {ov cv ol cl lc : Option Nat} (h : ¬ s.definesChute c n) :
    s.defineChuteReply c n elevation volume ov cv ol cl lc = .no .wrongMode := by
  unfold State.defineChuteReply
  rw [withIndex_val]
  exact if_pos (by rw [Bool.not_eq_true', ← Bool.not_eq_true]; exact mt State.definesChute_iff.mp h)

theorem defineChuteReply_of_busy {ov cv ol cl lc : Option Nat} (h : s.definesChute c n)
    (hd : (s.chute c).defined = true) (hst : (s.chute c).state ≠ .closed) :
    s.defineChuteReply c n elevation volume ov cv ol cl lc = .no .busy := by
  unfold State.defineChuteReply
  rw [withIndex_val]
  exact (if_neg (by simp [State.definesChute_iff.mpr h])).trans (if_pos (by simp [hd, hst]))

theorem defineChuteReply_of_bad {ov cv ol cl lc : Option Nat} (h : s.definesChute c n)
    (hst : (s.chute c).defined = true → (s.chute c).state = .closed)
    (hbad : 5 < n ∨ 30000 < elevation ∨ volume < 5 ∨ 600 < volume
      ∨ ov.any (fun i => decide (39 < i)) = true ∨ cv.any (fun i => decide (39 < i)) = true
      ∨ ol.any (fun i => decide (47 < i)) = true ∨ cl.any (fun i => decide (47 < i)) = true
      ∨ lc.any (fun i => decide (47 < i)) = true) :
    s.defineChuteReply c n elevation volume ov cv ol cl lc = .no .outOfRange := by
  unfold State.defineChuteReply
  rw [withIndex_val]
  refine (if_neg (by simp [State.definesChute_iff.mpr h])).trans ((if_neg (by simpa using hst)).trans ?_)
  split
  case h_1 p' ov' cv' ol' cl' lc' hp hls =>
    refine if_pos ?_
    obtain rfl := index?_eq_some hp
    obtain ⟨rfl, rfl, rfl, rfl, rfl⟩ : ov = ov'.map Fin.val ∧ cv = cv'.map Fin.val ∧ ol = ol'.map Fin.val
        ∧ cl = cl'.map Fin.val ∧ lc = lc'.map Fin.val := by simpa using lines?_eq_some hls
    have hp := p'.isLt
    simp only [Bool.or_eq_true, outside_iff, outputInBankF_map]
    rcases hbad with h | h | h | h | h | h | h | h | h
    · omega
    · omega
    · omega
    · omega
    · exact .inl (.inr h)
    · exact .inr h
    · exact absurd h (not_any_above (by omega))
    · exact absurd h (not_any_above (by omega))
    · exact absurd h (not_any_above (by omega))
  case h_2 => rfl

/-- The geometry checks of DEFINE CHUTE in RUN (R74). -/
def State.chuteMisplaced (s : State) (p : PassIdx) (elevation : Nat) (ov cv ol cl lc : Option LineIdx) : Bool :=
  decide ((s.pass p).height < elevation) || ov.isNone || cv.isNone || ol.isNone || cl.isNone || lc.isNone

theorem State.chuteMisplaced_iff {p : PassIdx} {ov cv ol cl lc : Option LineIdx} :
    s.chuteMisplaced p elevation ov cv ol cl lc = true ↔
      (s.pass p).height < elevation ∨ ov = none ∨ cv = none ∨ ol = none ∨ cl = none ∨ lc = none := by
  simp only [State.chuteMisplaced, Bool.or_eq_true, decide_eq_true_eq, Option.isNone_iff_eq_none, or_assoc]

/-- The rest of DEFINE CHUTE, once its values are found in range. -/
theorem defineChuteReply_of_ranges {p : PassIdx} {ov cv ol cl lc : Option LineIdx}
    (h : s.definesChute c p) (hst : (s.chute c).defined = true → (s.chute c).state = .closed)
    (he : elevation ≤ 30000) (hlow : 5 ≤ volume) (hhigh : volume ≤ 600)
    (hout : ∀ j, ov = some j ∨ cv = some j → j.val < 40) :
    s.defineChuteReply c p elevation volume (ov.map Fin.val) (cv.map Fin.val) (ol.map Fin.val) (cl.map Fin.val)
        (lc.map Fin.val) =
      if !(s.pass p).defined then .no .noRecord
      else if decide (s.station.mode = .run) && s.chuteMisplaced p elevation ov cv ol cl lc then .no .geometry
      else if s.lineConflict (chuteRoles c ov cv ol cl lc) then .no .lineConflict
      else .done (((Event.of s).update (State.modChute c (Chute.define p elevation volume))).update
        (State.bindLines (chuteRoles c ov cv ol cl lc))).touchAll := by
  have hlines : lines? [ov.map Fin.val, cv.map Fin.val, ol.map Fin.val, cl.map Fin.val, lc.map Fin.val]
      = some [ov, cv, ol, cl, lc] := lines?_map_val [ov, cv, ol, cl, lc]
  have hrange : ¬ (outside 0 30000 elevation || outside 5 600 volume || outputInBankF ov || outputInBankF cv)
      = true := by
    simp only [Bool.or_eq_true, outside_iff, outputInBankF_iff, not_or, not_exists, not_and, not_le]
    exact ⟨⟨⟨by omega, by omega⟩, fun j hj => hout j (.inl hj)⟩, fun j hj => hout j (.inr hj)⟩
  unfold State.defineChuteReply
  rw [withIndex_val]
  refine (if_neg (by simp [State.definesChute_iff.mpr h])).trans ((if_neg (by simpa using hst)).trans ?_)
  simp only [index?_val, hlines]
  exact if_neg hrange

end

/-- Settles O34. -/
theorem defineChuteTreatsTheWorkingState : Obligations.DefineChuteTreatsTheWorkingState := by
  intro rq c p n elevation volume ov cv ol cl lc ov' cv' ol' cl' lc' s ht x roles above raw rawAllowed i misplaced
  have hraw : rawAllowed ↔ s.definesChute c n :=
    or_congr_right (and_congr_right fun _ => and_congr_left fun _ => State.namedInService_iff.symm)
  refine ⟨fun h => ?_, fun h hd hst => ?_, fun h hst hbad => ?_, fun h hst he hlow hhigh hout => ?_⟩
  · exact congrArg Host.Outcome.next (request_of_reply_no ht (defineChuteReply_of_not_allowed (mt hraw.mpr h)))
  · exact congrArg Host.Outcome.next (request_of_reply_no ht (defineChuteReply_of_busy (hraw.mp h) hd hst))
  · exact congrArg Host.Outcome.next (request_of_reply_no ht (defineChuteReply_of_bad (hraw.mp h) hst hbad))
  · have hallowed : s.definesChute c p := h.imp_right fun ⟨hm, hp, hx⟩ => ⟨hm, State.namedInService_val.mpr hp, hx⟩
    have hreply := defineChuteReply_of_ranges (ol := ol) (cl := cl) (lc := lc) hallowed hst he hlow hhigh hout
    refine ⟨fun hd => ?_, fun hd => ⟨fun hm hgeo => ?_, fun hgeo => ⟨fun hc => ?_, fun hc => ?_⟩⟩⟩
    · exact congrArg Host.Outcome.next (request_of_reply_no ht (hreply.trans (if_pos (by simp [hd]))))
    · exact congrArg Host.Outcome.next (request_of_reply_no ht (hreply.trans ((if_neg (by simp [hd])).trans
        (if_pos (by simp [hm, State.chuteMisplaced_iff.mpr hgeo])))))
    all_goals
      have hplaced : ¬ (decide (s.station.mode = .run) && s.chuteMisplaced p elevation ov cv ol cl lc) = true := by
        rw [Bool.and_eq_true, decide_eq_true_eq]
        exact fun h => hgeo h.1 (State.chuteMisplaced_iff.mp h.2)
    · exact congrArg Host.Outcome.next (request_of_reply_no ht (hreply.trans ((if_neg (by simp [hd])).trans
        ((if_neg hplaced).trans (if_pos hc)))))
    · have htake := hreply.trans ((if_neg (by simp [hd])).trans
        ((if_neg hplaced).trans (if_neg (Bool.not_eq_true _ ▸ hc))))
      refine congrArg Host.Outcome.next ((request_of_reply_take ht htake).trans ?_)
      refine congrArg (fun ev : Event => ev.finish.answered rq .accepted []) ?_
      rfl

end Sys2Proof.Machine
end

section
/-! DEFINE BREAKER STATION, DEFINE BREAKER and DEFINE STATION (R100 to R102, R157); and a start try (R82). -/

namespace Sys2Proof.Machine

/-- The breaker's requests are taken in SETUP, and in RUN while an IN_FORCE entry carries the breaker (R100, R102). -/
def State.definesBreaker (s : State) : Prop :=
  s.station.mode = .setup ∨ (s.station.mode = .run
    ∧ ∃ e, s.carriesBreaker e = true ∧ (s.entry e).state = .inForce)

theorem State.definesBreaker_iff {s : State} : s.modeAllows s.breakerHeldInForce = true ↔ s.definesBreaker := by
  simp [modeAllows_iff, State.breakerHeldInForce, State.definesBreaker]

/-! ## DEFINE BREAKER STATION -/

section
variable {s : State} {k : StationIdx} {t : TipIdx} {n group : Nat}

theorem defineStationReply_of_not_allowed (h : ¬ s.definesBreaker) :
    s.defineStationReply k n group = .no .wrongMode := by
  unfold State.defineStationReply
  rw [withIndex_val]
  exact if_pos (by simpa using mt State.definesBreaker_iff.mp h)

theorem defineStationReply_of_busy (h : s.definesBreaker) (hj : ∃ j ∈ s.breaker.jobs, j.station = k) :
    s.defineStationReply k n group = .no .busy := by
  unfold State.defineStationReply
  rw [withIndex_val]
  exact (if_neg (by simp [State.definesBreaker_iff.mpr h])).trans (if_pos (by simpa using hj))

theorem defineStationReply_of_bad (h : s.definesBreaker) (hj : ¬ ∃ j ∈ s.breaker.jobs, j.station = k)
    (hbad : 15 < n ∨ 3 < group) : s.defineStationReply k n group = .no .outOfRange := by
  unfold State.defineStationReply
  rw [withIndex_val]
  refine (if_neg (by simp [State.definesBreaker_iff.mpr h])).trans ((if_neg (by simpa using hj)).trans ?_)
  by_cases hn : 15 < n
  · simp only [index?_ge hn]
  · have hgroup : outside 0 3 group = true := outside_iff.mpr (by omega)
    have hindex := index?_val (⟨n, by omega⟩ : TipIdx)
    simp only at hindex
    simp only [hindex, hgroup, if_true]

/-- The rest of DEFINE BREAKER STATION, once its values are found in range. -/
theorem defineStationReply_of_ranges (h : s.definesBreaker) (hj : ¬ ∃ j ∈ s.breaker.jobs, j.station = k)
    (hg : group ≤ 3) : s.defineStationReply k t group =
      if !(s.tip t).defined then .no .noRecord
      else if (List.finRange 4).any (fun o =>
          decide (o ≠ k) && (s.bst o).defined && decide ((s.bst o).tip = t)) then .no .duplicate
      else if decide (s.station.mode = .run) && decide ((s.tip t).grizzly ≠ some k) then .no .geometry
      else .done ((Event.of s).update (State.modBst k (Station.define t group))).triggerChoice.touchAll := by
  unfold State.defineStationReply
  rw [withIndex_val]
  refine (if_neg (by simp [State.definesBreaker_iff.mpr h])).trans ((if_neg (by simpa using hj)).trans ?_)
  simp only [index?_val]
  refine if_neg ?_
  rw [outside_iff]
  omega

/-- Another station stands over the tip point already (R100). -/
theorem stationTwice_iff : (List.finRange 4).any (fun o =>
    decide (o ≠ k) && (s.bst o).defined && decide ((s.bst o).tip = t)) = true
    ↔ ∃ o, o ≠ k ∧ (s.bst o).defined = true ∧ (s.bst o).tip = t := by
  simp only [List.any_eq_true, List.mem_finRange, true_and, Bool.and_eq_true, decide_eq_true_eq, and_assoc]

end

/-! ## DEFINE BREAKER -/

section
variable {s : State} {go code0 code1 inPosition grizzlyClear parked : Option Nat}

theorem defineBreakerReply_of_not_allowed (h : ¬ s.definesBreaker) :
    s.defineBreakerReply go code0 code1 inPosition grizzlyClear parked = .no .wrongMode :=
  if_pos (by simpa using mt State.definesBreaker_iff.mp h)

theorem defineBreakerReply_of_bad (h : s.definesBreaker)
    (hbad : go.any (fun i => decide (39 < i)) = true ∨ code0.any (fun i => decide (39 < i)) = true
      ∨ code1.any (fun i => decide (39 < i)) = true ∨ inPosition.any (fun i => decide (47 < i)) = true
      ∨ grizzlyClear.any (fun i => decide (47 < i)) = true ∨ parked.any (fun i => decide (47 < i)) = true) :
    s.defineBreakerReply go code0 code1 inPosition grizzlyClear parked = .no .outOfRange := by
  refine (if_neg (by simp [State.definesBreaker_iff.mpr h])).trans ?_
  split
  case h_1 g c0 c1 ip gc pk hls =>
    refine if_pos ?_
    obtain ⟨rfl, rfl, rfl, rfl, rfl, rfl⟩ : go = g.map Fin.val ∧ code0 = c0.map Fin.val ∧ code1 = c1.map Fin.val
        ∧ inPosition = ip.map Fin.val ∧ grizzlyClear = gc.map Fin.val ∧ parked = pk.map Fin.val := by
      simpa using lines?_eq_some hls
    simp only [Bool.or_eq_true, outputInBankF_map]
    rcases hbad with h | h | h | h | h | h
    · exact .inl (.inl h)
    · exact .inl (.inr h)
    · exact .inr h
    · exact absurd h (not_any_above (by omega))
    · exact absurd h (not_any_above (by omega))
    · exact absurd h (not_any_above (by omega))
  case h_2 => rfl

end

/-- The rest of DEFINE BREAKER, once its lines are found in range. -/
theorem defineBreakerReply_of_ranges {s : State} {go code0 code1 inPosition grizzlyClear parked : Option LineIdx}
    (h : s.definesBreaker) (hout : ∀ i, go = some i ∨ code0 = some i ∨ code1 = some i → i.val < 40) :
    s.defineBreakerReply (go.map Fin.val) (code0.map Fin.val) (code1.map Fin.val) (inPosition.map Fin.val)
        (grizzlyClear.map Fin.val) (parked.map Fin.val) =
      if decide (s.station.mode = .run) && (go.isNone || code0.isNone || code1.isNone || inPosition.isNone
          || grizzlyClear.isNone || parked.isNone) then .no .geometry
      else if s.lineConflict (breakerRoles go code0 code1 inPosition grizzlyClear parked) then .no .lineConflict
      else .done ((Event.of s).update
        (State.bindLines (breakerRoles go code0 code1 inPosition grizzlyClear parked))) := by
  have hlines : lines? [go.map Fin.val, code0.map Fin.val, code1.map Fin.val, inPosition.map Fin.val,
      grizzlyClear.map Fin.val, parked.map Fin.val] = some [go, code0, code1, inPosition, grizzlyClear, parked] :=
    lines?_map_val [go, code0, code1, inPosition, grizzlyClear, parked]
  have hrange : ¬ (outputInBankF go || outputInBankF code0 || outputInBankF code1) = true := by
    simp only [Bool.or_eq_true, outputInBankF_iff, not_or, not_exists, not_and, not_le]
    exact ⟨⟨fun i hi => hout i (.inl hi), fun i hi => hout i (.inr (.inl hi))⟩, fun i hi => hout i (.inr (.inr hi))⟩
  refine (if_neg (by simp [State.definesBreaker_iff.mpr h])).trans ?_
  simp only [hlines]
  exact if_neg hrange

/-! ## DEFINE STATION -/

theorem defineEstopReply_of_bad {s : State} {estop : Option Nat} (hm : s.station.mode = .setup)
    (hbad : estop.any (fun i => decide (i < 40 ∨ 47 < i)) = true) :
    s.defineEstopReply estop = .no .outOfRange := by
  refine (if_neg (by simp [hm])).trans ?_
  split
  case h_1 l hls =>
    refine if_pos ?_
    obtain rfl : estop = l.map Fin.val := by simpa using lines?_eq_some hls
    cases l with
    | none => cases hbad
    | some i =>
      have := i.isLt
      simp only [Option.map_some, Option.any_some, decide_eq_true_eq] at hbad
      simp only [Option.any_some, inBankF, Bool.not_eq_true', decide_eq_false_iff_not, not_le]
      omega
  case h_2 => rfl

theorem defineEstopReply_of_range {s : State} {estop : Option LineIdx} (hm : s.station.mode = .setup)
    (h : ∀ i, estop = some i → 40 ≤ i.val) : s.defineEstopReply (estop.map Fin.val) =
      if s.lineConflict [(.estop, estop)] then .no .lineConflict
      else .done ((Event.of s).update (State.bindLines [(.estop, estop)])) := by
  have hlines : lines? [estop.map Fin.val] = some [estop] := lines?_map_val [estop]
  have hrange : ¬ estop.any (fun i => !inBankF i) = true := by
    rw [Option.any_eq_true]
    rintro ⟨i, hi, hb⟩
    have := h i hi
    simp only [inBankF, Bool.not_eq_true', decide_eq_false_iff_not] at hb
    exact hb this
  refine (if_neg (by simp [hm])).trans ?_
  simp only [hlines]
  exact if_neg hrange

/-- Settles O45. -/
theorem defineBreakerAndStationStoreAndBind : Obligations.DefineBreakerAndStationStoreAndBind := by
  intro rq k t n group go code0 code1 inPosition grizzlyClear parked estop go' code0' code1' inPosition'
    grizzlyClear' parked' estop' s above raw1 raw2 raw3 c1 c2 c3 roles allowed listed twice
  have hgeometry : (decide (s.station.mode = .run) && (go.isNone || code0.isNone || code1.isNone
      || inPosition.isNone || grizzlyClear.isNone || parked.isNone)) = true
      ↔ s.station.mode = .run ∧ ∃ r ∈ roles, r.2 = none := by
    simp [roles, or_assoc]
  have hplaced (h : s.station.mode = .run → ∀ r ∈ roles, r.2.isSome = true) :
      ¬ (decide (s.station.mode = .run) && (go.isNone || code0.isNone || code1.isNone
        || inPosition.isNone || grizzlyClear.isNone || parked.isNone)) = true := by
    rw [hgeometry]
    rintro ⟨hm, r, hr, hn⟩
    simpa [hn] using h hm r hr
  refine ⟨fun ht => ⟨fun h => ?_, fun h hj => ?_, fun h hj hbad => ?_, fun h hj hg =>
      ⟨fun hd => ?_, fun hd h2 => ?_, fun hd h2 => ⟨fun hm hgeo => ?_, fun hgeo => ?_⟩⟩⟩,
    fun ht => ⟨fun h => ?_, fun h hbad => ?_, fun h hout => ⟨fun hm hgeo => ?_, fun hgeo => ⟨fun hc => ?_, fun hc => ?_⟩⟩⟩,
    fun ht => ⟨fun hm => ?_, fun hm hbad => ?_, fun hm h => ⟨fun hc => ?_, fun hc => ?_⟩⟩⟩
  · exact congrArg Host.Outcome.next (request_of_reply_no ht (defineStationReply_of_not_allowed h))
  · exact congrArg Host.Outcome.next (request_of_reply_no ht (defineStationReply_of_busy h hj))
  · exact congrArg Host.Outcome.next (request_of_reply_no ht (defineStationReply_of_bad h hj hbad))
  · exact congrArg Host.Outcome.next (request_of_reply_no ht
      ((defineStationReply_of_ranges h hj hg).trans (if_pos (by simp [hd]))))
  · exact congrArg Host.Outcome.next (request_of_reply_no ht
      ((defineStationReply_of_ranges h hj hg).trans ((if_neg (by simp [hd])).trans (if_pos (stationTwice_iff.mpr h2)))))
  · exact congrArg Host.Outcome.next (request_of_reply_no ht
      ((defineStationReply_of_ranges h hj hg).trans ((if_neg (by simp [hd])).trans
        ((if_neg (mt stationTwice_iff.mp h2)).trans (if_pos (by simp [hm, hgeo]))))))
  · have htake := (defineStationReply_of_ranges h hj hg).trans ((if_neg (by simp [hd])).trans
        ((if_neg (mt stationTwice_iff.mp h2)).trans (if_neg (by simpa using hgeo))))
    exact congrArg Host.Outcome.next (request_of_reply_take ht htake)
  · exact congrArg Host.Outcome.next (request_of_reply_no ht (defineBreakerReply_of_not_allowed h))
  · exact congrArg Host.Outcome.next (request_of_reply_no ht (defineBreakerReply_of_bad h hbad))
  · exact congrArg Host.Outcome.next (request_of_reply_no ht
      ((defineBreakerReply_of_ranges h hout).trans (if_pos (hgeometry.mpr ⟨hm, hgeo⟩))))
  · exact congrArg Host.Outcome.next (request_of_reply_no ht
      ((defineBreakerReply_of_ranges h hout).trans ((if_neg (hplaced hgeo)).trans (if_pos hc))))
  · have htake := (defineBreakerReply_of_ranges h hout).trans
      ((if_neg (hplaced hgeo)).trans (if_neg (Bool.not_eq_true _ ▸ hc)))
    exact congrArg Host.Outcome.next ((request_of_reply_take ht htake).trans
      (congrArg (fun u : State => u.answered rq .accepted []) (Event.finish_update _ s)))
  · exact congrArg Host.Outcome.next (request_of_reply_no ht (if_pos hm))
  · exact congrArg Host.Outcome.next (request_of_reply_no ht (defineEstopReply_of_bad hm hbad))
  · exact congrArg Host.Outcome.next (request_of_reply_no ht ((defineEstopReply_of_range hm h).trans (if_pos hc)))
  · have htake := (defineEstopReply_of_range hm h).trans (if_neg (Bool.not_eq_true _ ▸ hc))
    exact congrArg Host.Outcome.next ((request_of_reply_take ht htake).trans
      (congrArg (fun u : State => u.answered rq .accepted []) (Event.finish_update _ s)))

/-! ## A start try -/

theorem State.startReady_iff {s : State} {c : ChuteIdx} : s.startReady c = true ↔
    (s.chute c).state = .closed ∧ s.level (.closedLimit c) = true ∧ (s.chute c).held = false
      ∧ (s.chute c).faultHold = false ∧ (s.chute c).proofHold = false ∧ s.station.mode = .run
      ∧ (s.pass (s.chute c).pass).state = .running ∧ ∀ e, s.coversChute e c = false := by
  simp [State.startReady, State.chuteSafe, State.chuteCovered, State.closedHigh, and_assoc]

/-- Settles O35. -/
theorem startTryMakesItsEightTests : Obligations.StartTryMakesItsEightTests := by
  intro s c x q ready started
  refine ⟨fun h => if_pos ?_, fun hp hd hready => ?_⟩
  · rcases h with h | h | h
    · simp [show (s.chute c).callPending = false from h]
    · simp [show (s.chute c).defined = false from h]
    · have : s.startReady c = false := by simpa using mt State.startReady_iff.mp h
      simp [this]
  · have htests : ¬ (!(s.chute c).defined || !(s.chute c).callPending || !s.startReady c) = true := by
      simp [show (s.chute c).callPending = true from hp, show (s.chute c).defined = true from hd,
        State.startReady_iff.mpr hready]
    refine ⟨fun hc => ?_, fun hc hlow => ?_, fun hc hroom => ⟨?_, ?_, ?_⟩⟩
    · refine ((if_neg htests).trans (if_pos hc)).trans (State.modChute_congr ?_)
      by_cases he : (s.chute c).emptyReported = true <;> simp [Chute.reportEmpty, raiseIf, x, he]
    · refine ((if_neg htests).trans ((if_neg hc).trans (if_pos hlow))).trans (State.modChute_congr ?_)
      by_cases he : (s.chute c).cushionReported = true <;> simp [Chute.reportCushion, raiseIf, x, he]
    · exact (if_neg htests).trans ((if_neg hc).trans (if_neg (Nat.not_lt.mpr hroom)))
    · simp [started, State.command, CycleState.opens, hready.2.2.2.2.2.1]
    · simp [started, State.command, CycleState.closes]

end Sys2Proof.Machine
end

section
/-! The choices of the arbiters: the best eligible call (R57 to R60) and the highest startable job (R109, R110). -/

namespace Sys2Proof.Machine

/-! ## A choice of the best, the earliest among equals -/

/-- Going through a list and keeping the best so far ends with a member that beats those before it and is beaten by
none after it. -/
theorem foldl_better_split {α : Type} {lt : α → α → Prop} [DecidableRel lt] {better : Option α → α → Option α}
    (hnone : ∀ x, better none x = some x) (hsome : ∀ b x, better (some b) x = if lt b x then some x else some b)
    (htrans : ∀ a b c, lt a b → lt b c → lt a c) (hneg : ∀ a b c, ¬ lt a b → lt a c → lt b c) (l : List α) :
    (l = [] ∧ l.foldl better none = none) ∨ ∃ before x after, l = before ++ x :: after
      ∧ l.foldl better none = some x ∧ (∀ y ∈ before, lt y x) ∧ ∀ y ∈ after, ¬ lt x y := by
  induction l using List.reverseRecOn with
  | nil => exact .inl ⟨rfl, rfl⟩
  | append_singleton l y ih =>
    refine .inr ?_
    rw [List.foldl_append, List.foldl_cons, List.foldl_nil]
    rcases ih with ⟨rfl, -⟩ | ⟨before, x, after, rfl, hx, hbefore, hafter⟩
    · exact ⟨[], y, [], rfl, hnone y, by simp, by simp⟩
    · rw [hx, hsome]
      by_cases hlt : lt x y
      · refine ⟨before ++ x :: after, y, [], rfl, if_pos hlt, fun z hz => ?_, by simp⟩
        rcases List.mem_append.mp hz with hz | hz
        · exact htrans _ _ _ (hbefore z hz) hlt
        · rcases List.mem_cons.mp hz with rfl | hz
          · exact hlt
          · exact hneg _ _ _ (hafter z hz) hlt
      · refine ⟨before, x, after ++ [y], by simp, if_neg hlt, hbefore, fun z hz => ?_⟩
        rcases List.mem_append.mp hz with hz | hz
        · exact hafter z hz
        · rwa [List.mem_singleton.mp hz]

/-- A member that fits stands before another that fits where it does so among those that fit. -/
theorem idxOf_le_of_filter {α : Type} [DecidableEq α] {P : α → Bool} {l before after : List α} {x y : α}
    (h : l.filter P = before ++ x :: after) (hx : x ∉ before) (hy : P y = true) (hyb : y ∉ before) :
    l.idxOf x ≤ l.idxOf y := by
  obtain ⟨l1, l2, rfl, rfl, hl2⟩ := List.filter_eq_append_iff.mp h
  obtain ⟨l3, l4, rfl, hl3, hPx, -⟩ := List.filter_eq_cons_iff.mp hl2
  have hout {z : α} (hz : P z = true) (hb : z ∉ l1.filter P) : z ∉ l1 ++ l3 := by
    rw [List.mem_append]
    rintro (hm | hm)
    · exact hb (List.mem_filter.mpr ⟨hm, hz⟩)
    · exact hl3 z hm hz
  rw [← List.append_assoc, List.idxOf_append_of_notMem (hout hPx hx), List.idxOf_append_of_notMem (hout hy hyb),
    List.idxOf_cons_self]
  omega

/-! ## The choice of a call -/

theorem State.eligible_iff {s : State} {c : TipIdx} : s.eligible c = true ↔ (s.tip c).defined = true
    ∧ s.station.mode = .run ∧ (s.pass (s.tip c).pass).state = .running ∧ (∀ e, s.coversTip e c = false)
    ∧ s.blocked c = false := by
  simp [State.eligible, State.tipCovered, and_assoc]

theorem State.blocked_iff {s : State} {c : TipIdx} : s.blocked c = true ↔ ∃ k, (s.tip c).grizzly = some k
    ∧ (s.level (.oversize c) = true ∨ (∃ j ∈ s.breaker.jobs, j.station = k)
      ∨ s.breaker.current.map Job.station = some k) := by
  unfold State.blocked
  cases (s.tip c).grizzly with
  | none => simp
  | some k => simp [State.jobHeld, Option.any_eq_true]

/-- The choice splits the eligible calls of the list into lower ones before it and ones not higher after it (R59). -/
theorem State.chooseCall_split (s : State) (p : PassIdx) :
    ((s.pass p).waiting.filter s.eligible = [] ∧ s.chooseCall p = none)
    ∨ ∃ before x after, (s.pass p).waiting.filter s.eligible = before ++ x :: after ∧ s.chooseCall p = some x
      ∧ (∀ y ∈ before, (s.tip y).level < (s.tip x).level) ∧ ∀ y ∈ after, ¬ (s.tip x).level < (s.tip y).level :=
  foldl_better_split (lt := fun a b => (s.tip a).level < (s.tip b).level) (fun _ => rfl) (fun _ _ => rfl)
    (fun _ _ _ => Nat.lt_trans) (fun _ _ _ h h' => Nat.lt_of_le_of_lt (Nat.le_of_not_lt h) h') _

theorem State.chooseCall_eq_none_iff {s : State} {p : PassIdx} :
    s.chooseCall p = none ↔ ∀ x ∈ (s.pass p).waiting, s.eligible x = false := by
  have hnil : (s.pass p).waiting.filter s.eligible = [] ↔ ∀ x ∈ (s.pass p).waiting, s.eligible x = false := by
    simp
  rw [← hnil]
  rcases s.chooseCall_split p with ⟨hl, hn⟩ | ⟨before, x, after, hl, hx, -⟩
  · exact ⟨fun _ => hl, fun _ => hn⟩
  · simp [hx, hl]

theorem State.chooseCall_best {s : State} {p : PassIdx} {x y : TipIdx} (h : s.chooseCall p = some x)
    (hy : y ∈ (s.pass p).waiting) (he : s.eligible y = true) : (s.tip y).level < (s.tip x).level
      ∨ ((s.tip y).level = (s.tip x).level ∧ (s.pass p).waiting.idxOf x ≤ (s.pass p).waiting.idxOf y) := by
  rcases s.chooseCall_split p with ⟨-, hn⟩ | ⟨before, x', after, hl, hx, hbefore, hafter⟩
  · rw [h] at hn; cases hn
  · obtain rfl : x = x' := Option.some.inj (h.symm.trans hx)
    by_cases hb : y ∈ before
    · exact .inl (hbefore y hb)
    · have hmem : y ∈ before ++ x :: after := hl ▸ List.mem_filter.mpr ⟨hy, he⟩
      have hle : (s.tip y).level ≤ (s.tip x).level := by
        rcases List.mem_append.mp hmem with hm | hm
        · exact absurd hm hb
        · rcases List.mem_cons.mp hm with rfl | hm
          · exact le_rfl
          · exact Nat.le_of_not_lt (hafter y hm)
      have hidx := idxOf_le_of_filter hl (fun hm => Nat.lt_irrefl _ (hbefore x hm)) he hb
      omega

/-! ## A run of the arbiter -/

theorem State.eligible_grant {s : State} (p : PassIdx) (x y : TipIdx) :
    (s.grant p x).eligible y = s.eligible y := by
  have htip : ((s.grant p x).tip y).defined = (s.tip y).defined ∧ ((s.grant p x).tip y).pass = (s.tip y).pass
      ∧ ((s.grant p x).tip y).elevation = (s.tip y).elevation ∧ ((s.grant p x).tip y).grizzly = (s.tip y).grizzly := by
    rw [State.grant_tip]
    split <;> exact ⟨rfl, rfl, rfl, rfl⟩
  have hpass (q : PassIdx) : ((s.grant p x).pass q).state = (s.pass q).state := by
    rw [State.grant_pass]
    split <;> rfl
  have hcov (e : EntryIdx) : (s.grant p x).coversTip e y = s.coversTip e y :=
    State.coversTip_congr rfl htip.1 htip.2.1 htip.2.2.1
  have hlevel : (s.grant p x).level (.oversize y) = s.level (.oversize y) := State.level_of_lines rfl _
  rw [Bool.eq_iff_iff, State.eligible_iff, State.eligible_iff, ← Bool.not_eq_true, ← Bool.not_eq_true,
    State.blocked_iff, State.blocked_iff, htip.1, htip.2.1, htip.2.2.2, hpass, hlevel]
  simp only [hcov]
  rfl

theorem State.grant_waiting_length {s : State} {p : PassIdx} {x : TipIdx} (h : s.chooseCall p = some x) :
    ((s.grant p x).pass p).waiting.length < (s.pass p).waiting.length := by
  rw [State.grant_pass, if_pos rfl]
  exact List.length_filter_lt_length_iff_exists.mpr ⟨x, (State.chooseCall_mem h).1, by simp⟩

/-- Fuel beyond the length of the list is not used. -/
theorem arbiterLoop_fuel {p : PassIdx} {n m : Nat} {s : State} (hn : (s.pass p).waiting.length ≤ n)
    (hm : (s.pass p).waiting.length ≤ m) : arbiterLoop n p s = arbiterLoop m p s := by
  have hempty {s : State} (h : (s.pass p).waiting.length ≤ 0) : s.chooseCall p = none := by
    rw [State.chooseCall_eq_none_iff, List.eq_nil_of_length_eq_zero (Nat.le_zero.mp h)]
    simp
  induction n generalizing m s with
  | zero =>
    cases m with
    | zero => rfl
    | succ m => simp only [arbiterLoop, hempty hn]
  | succ n ih =>
    cases m with
    | zero => simp only [arbiterLoop, hempty hm]
    | succ m =>
      unfold arbiterLoop
      cases hc : s.chooseCall p with
      | none => rfl
      | some x =>
        have hlt := State.grant_waiting_length hc
        dsimp only
        split
        · exact ih (by omega) (by omega)
        · rfl

theorem State.runArbiter_of_none {s : State} {p : PassIdx} (h : s.chooseCall p = none) : s.runArbiter p = s := by
  unfold State.runArbiter
  cases (s.pass p).waiting.length with
  | zero => rfl
  | succ n => simp only [arbiterLoop, h]

theorem State.runArbiter_of_full {s : State} {p : PassIdx} {x : TipIdx} (h : s.chooseCall p = some x)
    (hr : s.roomTest p x = false) : s.runArbiter p = s := by
  unfold State.runArbiter
  cases (s.pass p).waiting.length with
  | zero => rfl
  | succ n => simp [arbiterLoop, h, hr]

theorem State.runArbiter_of_room {s : State} {p : PassIdx} {x : TipIdx} (h : s.chooseCall p = some x)
    (hr : s.roomTest p x = true) : s.runArbiter p = (s.grant p x).runArbiter p := by
  have hlt := State.grant_waiting_length h
  obtain ⟨n, hn⟩ : ∃ n, (s.pass p).waiting.length = n + 1 := ⟨(s.pass p).waiting.length - 1, by omega⟩
  have hfuel : ((s.grant p x).pass p).waiting.length ≤ n := by omega
  calc s.runArbiter p = arbiterLoop (n + 1) p s := by rw [State.runArbiter, hn]
    _ = arbiterLoop n p (s.grant p x) := by simp only [arbiterLoop, h, hr, if_true]
    _ = (s.grant p x).runArbiter p := arbiterLoop_fuel hfuel le_rfl

theorem State.roomTest_iff {s : State} {p : PassIdx} {x : TipIdx} : s.roomTest p x = true ↔
    (s.pass p).e + (s.pass p).reserved + (s.tip x).load ≤ (s.pass p).tipLimit := by
  simp [State.roomTest]

/-- What a run of the arbiter of a pass makes of the state. -/
structure State.Arbitrated (p : PassIdx) (s t : State) : Prop where
  frame : t = { s with passes := t.passes, tips := t.tips }
  other : ∀ o, o ≠ p → t.pass o = s.pass o
  own : t.pass p = { s.pass p with waiting := (t.pass p).waiting, reserved := (t.pass p).reserved }
  list : (t.pass p).waiting.Sublist (s.pass p).waiting
  tip : ∀ x, t.tip x = s.tip x ∨ (x ∈ (s.pass p).waiting ∧ x ∉ (t.pass p).waiting ∧ s.eligible x = true
    ∧ t.tip x = { s.tip x with state := .granted, timer := some (s.tip x).timeout })
  left : ∀ x, x ∈ (s.pass p).waiting → x ∈ (t.pass p).waiting ∨ (t.tip x).state = .granted
  reserved : (s.pass p).waiting.Nodup → (t.pass p).reserved = (s.pass p).reserved
    + (((s.pass p).waiting.filter fun x => decide (x ∉ (t.pass p).waiting)).map fun x => (s.tip x).load).sum
  room : t = s ∨ (s.pass p).e + (t.pass p).reserved ≤ (s.pass p).tipLimit
  ends : ∀ x, t.chooseCall p = some x → (s.pass p).tipLimit < (s.pass p).e + (t.pass p).reserved + (s.tip x).load

theorem State.Arbitrated.stop {p : PassIdx} {s : State}
    (h : ∀ x, s.chooseCall p = some x → s.roomTest p x = false) : State.Arbitrated p s s where
  frame := rfl
  other _ _ := rfl
  own := rfl
  list := .refl _
  tip _ := .inl rfl
  left _ := .inl
  reserved _ := by
    have : (s.pass p).waiting.filter (fun x => decide (x ∉ (s.pass p).waiting)) = [] := by simp
    rw [this]
    rfl
  room := .inl rfl
  ends x hx := by
    have := h x hx
    rw [← Bool.not_eq_true, State.roomTest_iff] at this
    omega

/-- The calls that leave a list without repetitions are the one granted and those that leave the rest. -/
theorem sum_left_cons {w v : List TipIdx} (hw : w.Nodup) {x : TipIdx} (hx : x ∈ w) (hxv : x ∉ v) (f : TipIdx → Nat) :
    ((w.filter fun y => decide (y ∉ v)).map f).sum
      = f x + (((w.filter (· ≠ x)).filter fun y => decide (y ∉ v)).map f).sum := by
  have hperm : (w.filter fun y => decide (y ∉ v)).Perm
      ((x :: w.filter (· ≠ x)).filter fun y => decide (y ∉ v)) := by
    refine List.Perm.filter _ ?_
    have herase : w.erase x = w.filter (· ≠ x) := (hw.erase_eq_filter x).trans (List.filter_congr fun y _ => by
      simp only [bne, beq_eq_decide, ne_eq, decide_not])
    exact herase ▸ List.perm_cons_erase hx
  rw [(hperm.map f).sum_eq, List.filter_cons_of_pos (by simpa using hxv), List.map_cons, List.sum_cons]

theorem State.Arbitrated.grant {p : PassIdx} {s t : State} {x : TipIdx} (hc : s.chooseCall p = some x)
    (hr : s.roomTest p x = true) (h : State.Arbitrated p (s.grant p x) t) : State.Arbitrated p s t := by
  obtain ⟨hmem, hel⟩ := State.chooseCall_mem hc
  have hpass : (s.grant p x).pass p = { s.pass p with
      reserved := (s.pass p).reserved + (s.tip x).load, waiting := (s.pass p).waiting.filter (· ≠ x) } := by
    rw [State.grant_pass, if_pos rfl]
  have hload (y : TipIdx) : ((s.grant p x).tip y).load = (s.tip y).load := by
    rw [State.grant_tip]
    split <;> rfl
  have hlist : (t.pass p).waiting.Sublist ((s.pass p).waiting.filter (· ≠ x)) := by
    have := h.list
    rwa [hpass] at this
  have hgone : x ∉ (t.pass p).waiting := fun hm => by simpa using hlist.subset hm
  have hx : t.tip x = { s.tip x with state := .granted, timer := some (s.tip x).timeout } := by
    have hgx : (s.grant p x).tip x = { s.tip x with state := .granted, timer := some (s.tip x).timeout } := by
      rw [State.grant_tip, if_pos rfl]
    rcases h.tip x with hx | ⟨hin, -⟩
    · exact hx.trans hgx
    · rw [hpass] at hin
      simp at hin
  refine ⟨?_, fun o ho => ?_, ?_, hlist.trans List.filter_sublist, fun y => ?_, fun y hy => ?_, fun hn => ?_, .inr ?_,
    fun y hy => ?_⟩
  · rw [h.frame]
    rfl
  · rw [h.other o ho, State.grant_pass, if_neg ho]
  · rw [h.own, hpass]
  · by_cases hyx : y = x
    · subst hyx
      exact .inr ⟨hmem, hgone, hel, hx⟩
    · have hsame : (s.grant p x).tip y = s.tip y := by rw [State.grant_tip, if_neg hyx]
      rcases h.tip y with hy | ⟨hin, hout, he, hy⟩
      · exact .inl (hy.trans hsame)
      · rw [hpass] at hin
        exact .inr ⟨(List.mem_filter.mp hin).1, hout, (State.eligible_grant p x y).symm.trans he, by rw [hy, hsame]⟩
  · by_cases hyx : y = x
    · exact .inr (by rw [hyx, hx])
    · exact h.left y (by rw [hpass]; exact List.mem_filter.mpr ⟨hy, by simpa using hyx⟩)
  · have := h.reserved (by rw [hpass]; exact hn.filter _)
    rw [hpass] at this
    simp only [hload] at this
    rw [this, sum_left_cons hn hmem hgone]
    omega
  · rcases h.room with ht | hroom
    · rw [ht, hpass]
      exact Nat.add_assoc .. ▸ State.roomTest_iff.mp hr
    · rw [hpass] at hroom
      exact hroom
  · have := h.ends y hy
    rw [hpass, hload] at this
    exact this

theorem State.runArbiter_arbitrated (p : PassIdx) (s : State) : State.Arbitrated p s (s.runArbiter p) := by
  induction hn : (s.pass p).waiting.length using Nat.strong_induction_on generalizing s with
  | h n ih =>
    cases hc : s.chooseCall p with
    | none => rw [State.runArbiter_of_none hc]; exact .stop fun x hx => by simp [hc] at hx
    | some x =>
      by_cases hr : s.roomTest p x = true
      · rw [State.runArbiter_of_room hc hr]
        exact .grant hc hr (ih _ (hn ▸ State.grant_waiting_length hc) _ rfl)
      · have hr' : s.roomTest p x = false := by simpa using hr
        rw [State.runArbiter_of_full hc hr']
        exact .stop fun y hy => by rwa [← Option.some.inj (hc.symm.trans hy)]

/-- Settles O31. -/
theorem arbiterGrantsTheBestEligibleCalls : Obligations.ArbiterGrantsTheBestEligibleCalls := by
  intro s p c t q
  have h := s.runArbiter_arbitrated p
  refine ⟨State.eligible_iff, State.blocked_iff, h.frame, h.other, h.own, h.list, h.tip, h.left, h.reserved,
    fun hw => ?_, h.ends, fun x hx => ⟨fun hr => ?_, fun hr => ?_⟩, State.runArbiter_of_none,
    State.chooseCall_eq_none_iff, fun x hx => ?_⟩
  · exact h.room.resolve_left fun ht => hw (congrArg (fun u : State => (u.pass p).waiting) ht)
  · exact State.runArbiter_of_room hx (State.roomTest_iff.mpr hr)
  · refine State.runArbiter_of_full hx ?_
    rw [← Bool.not_eq_true, State.roomTest_iff]
    exact Nat.not_le.mpr hr
  · obtain ⟨hmem, hel⟩ := State.chooseCall_mem hx
    exact ⟨hmem, hel, fun y hy he => State.chooseCall_best hx hy he⟩

/-! ## The choice of a job -/

/-- In RUN the effective floor is the floor (R107, R109). -/
theorem State.startable_floor_iff {s : State} {j : Job} : s.startable j = true ↔ s.station.mode = .run
    ∧ s.breaker.floor < j.level ∧ (∀ e, s.carriesBreaker e = false) ∧ ∀ e, s.coversStation e j.station = false := by
  rw [State.startable_iff]
  refine and_congr_right fun hm => ?_
  have hfloor : s.effectiveFloor = s.breaker.floor := if_pos hm
  rw [hfloor]
  simp [State.breakerCovered, State.stationCovered]

/-- The choice splits the startable jobs into those it beats before it and those that do not beat it after it
(R110). -/
theorem State.pickJob_split (s : State) :
    (s.breaker.jobs.filter s.startable = [] ∧ s.pickJob = none)
    ∨ ∃ before j after, s.breaker.jobs.filter s.startable = before ++ j :: after ∧ s.pickJob = some j
      ∧ (∀ x ∈ before, s.jobBefore x j = true) ∧ ∀ x ∈ after, ¬ s.jobBefore j x = true := by
  refine foldl_better_split (lt := fun a b => s.jobBefore a b = true) (fun _ => rfl) (fun _ _ => rfl) ?_ ?_ _
  · intro a b c hab hbc
    simp only [State.jobBefore, decide_eq_true_eq, Fin.lt_def] at hab hbc ⊢
    omega
  · intro a b c hab hbc
    simp only [State.jobBefore, decide_eq_true_eq, Fin.lt_def] at hab hbc ⊢
    omega

/-- Settles O41. -/
theorem theChoiceTakesTheHighestStartableJob : Obligations.TheChoiceTakesTheHighestStartableJob := by
  intro s j
  refine ⟨State.startable_floor_iff, ?_, fun h => ?_, fun hb h => ?_, fun h => ?_⟩
  · have hnil : s.breaker.jobs.filter s.startable = [] ↔ ∀ x ∈ s.breaker.jobs, s.startable x = false := by simp
    rw [← hnil]
    rcases s.pickJob_split with ⟨hl, hn⟩ | ⟨before, x, after, hl, hx, -⟩
    · exact ⟨fun _ => hl, fun _ => hn⟩
    · simp [hx, hl]
  · obtain ⟨hmem, hst⟩ := State.pickJob_mem h
    refine ⟨hmem, hst, fun x hx hsx => ?_⟩
    rcases s.pickJob_split with ⟨-, hn⟩ | ⟨before, j', after, hl, hj, hbefore, hafter⟩
    · rw [h] at hn; cases hn
    · obtain rfl : j = j' := Option.some.inj (h.symm.trans hj)
      have hin : x ∈ before ++ j :: after := hl ▸ List.mem_filter.mpr ⟨hx, hsx⟩
      rcases List.mem_append.mp hin with hin | hin
      · have := hbefore x hin
        simp only [State.jobBefore, decide_eq_true_eq, Fin.lt_def] at this
        rw [Fin.le_def]
        omega
      · rcases List.mem_cons.mp hin with rfl | hin
        · exact .inr ⟨rfl, .inr ⟨rfl, le_rfl⟩⟩
        · have := hafter x hin
          simp only [State.jobBefore, decide_eq_true_eq, Fin.lt_def] at this
          rw [Fin.le_def]
          omega
  · rw [State.chooseJob, if_pos hb, h]
    rfl
  · rw [State.chooseJob]
    split
    case isTrue hb => rw [h.resolve_left fun hn => hn hb]
    case isFalse => rfl

end Sys2Proof.Machine
end

section
/-! The ends of a grant, and tips (R62 to R64). -/

namespace Sys2Proof.Machine

theorem State.modPass_modPass (p : PassIdx) (f g : Pass → Pass) (s : State) :
    (s.modPass p f).modPass p g = s.modPass p fun q => g (f q) := by
  simp [State.modPass, State.pass]

theorem State.modPass_modTip (p : PassIdx) (t : TipIdx) (f : Pass → Pass) (g : Tip → Tip) (s : State) :
    (s.modPass p f).modTip t g = (s.modTip t g).modPass p f := rfl

theorem State.modTip_chutesOf (t : TipIdx) (p : PassIdx) (f : Tip → Tip) (s : State) :
    (s.modTip t f).chutesOf p = s.chutesOf p := rfl

/-- A change of a tip point's state alone is not seen by what covers it (R125). -/
theorem State.coversTip_modTip {s : State} {t i : TipIdx} {f : Tip → Tip} {e : EntryIdx}
    (hd : (f (s.tip t)).defined = (s.tip t).defined) (hp : (f (s.tip t)).pass = (s.tip t).pass)
    (he : (f (s.tip t)).elevation = (s.tip t).elevation) : (s.modTip t f).coversTip e i = s.coversTip e i := by
  refine State.coversTip_congr rfl ?_ ?_ ?_ <;> rw [State.modTip_tip] <;> split
  · next h => rw [h, hd]
  · rfl
  · next h => rw [h, hp]
  · rfl
  · next h => rw [h, he]
  · rfl

/-- The end of a grant (R62, R63): the reservation is given back, the entries covering the tip point make their
settling tests and the arbiter runs. -/
theorem Event.endGrant_of (t : TipIdx) (state : TipState) (s : State) : (Event.of s).endGrant t state =
    ⟨(s.modTip t fun x => { x with state := state, timer := none }).modPass (s.tip t).pass
      fun q => { q with reserved := q.reserved - (s.tip t).load }, [(s.tip t).pass], [], false, s.coveringTip t⟩ := by
  have hcov : (List.finRange 24).filter (((s.modTip t fun x => { x with state := state, timer := none }).modPass
      (s.tip t).pass fun q => { q with reserved := q.reserved - (s.tip t).load }).coversTip · t) = s.coveringTip t := by
    refine List.filter_congr fun e _ => ?_
    rw [State.modPass_coversTip]
    exact State.coversTip_modTip rfl rfl rfl
  change (⟨_, [(s.tip t).pass], [], false, _ ++ []⟩ : Event) = _
  rw [List.append_nil]
  exact congrArg (Event.mk _ _ _ _) hcov

/-- A lapse is the end of a grant with LAPSED raised (R62). -/
theorem Event.lapse_of (t : TipIdx) (s : State) : (Event.of s).lapse t =
    ⟨(s.modTip t fun x => { x with state := .idle, timer := none, conds := raise .lapsed x.conds }).modPass
      (s.tip t).pass fun q => { q with reserved := q.reserved - (s.tip t).load }, [(s.tip t).pass], [], false,
      s.coveringTip t⟩ := by
  have hst : ((s.modTip t fun x => { x with state := .idle, timer := none }).modPass (s.tip t).pass fun q =>
        { q with reserved := q.reserved - (s.tip t).load }).modTip t (fun x => { x with conds := raise .lapsed x.conds })
      = (s.modTip t fun x => { x with state := .idle, timer := none, conds := raise .lapsed x.conds }).modPass
        (s.tip t).pass fun q => { q with reserved := q.reserved - (s.tip t).load } := by
    rw [State.modPass_modTip, State.modTip_modTip]
  rw [Event.lapse, Event.endGrant_of]
  exact congrArg (fun u : State => (⟨u, [(s.tip t).pass], [], false, s.coveringTip t⟩ : Event)) hst

/-- A credit or debit is handed on exactly where it changes E (R17, R18, R26). -/
theorem Event.changeFill_eq (p : PassIdx) (f : Pass → Pass) (ev : Event) : ev.changeFill p f =
    ⟨ev.st.modPass p f, (if (f (ev.st.pass p)).e = (ev.st.pass p).e then [] else [p]) ++ ev.arb,
      (if (f (ev.st.pass p)).e = (ev.st.pass p).e then [] else ev.st.chutesOf p) ++ ev.tries, ev.choice,
      ev.touched⟩ := by
  unfold Event.changeFill
  dsimp only
  split
  · rfl
  · rfl

/-- The credit of R17 on a pass whose fields but the reservation are `q`'s. -/
theorem Pass.credit_eq (load : Nat) (q : Pass) : q.credit load =
    if q.defined = true ∧ q.known = true then { q with
      e := min (q.e + load) q.capacity
      r := if q.state = .running then min (q.r + load) 16777215 else q.r
      conds := if q.capacity < q.e + load then raise .overtop q.conds else q.conds }
    else q := by
  unfold Pass.credit raiseIf
  refine if_congr (by simp) ?_ rfl
  simp only [decide_eq_true_eq]
  rfl

@[simp] theorem State.debounced_pass (s : State) (i : LineIdx) (p : PassIdx) :
    (s.debounced i).pass p = s.pass p := State.modLine_pass ..
@[simp] theorem State.debounced_coversTip (s : State) (i : LineIdx) (e : EntryIdx) (t : TipIdx) :
    (s.debounced i).coversTip e t = s.coversTip e t := State.modLine_coversTip ..
@[simp] theorem State.debounced_coveringTip (s : State) (i : LineIdx) (t : TipIdx) :
    (s.debounced i).coveringTip t = s.coveringTip t := rfl
@[simp] theorem State.debounced_chutesOf (s : State) (i : LineIdx) (p : PassIdx) :
    (s.debounced i).chutesOf p = s.chutesOf p := rfl

/-- A tip at a GRANTED tip point consumes its grant and is credited (R63). -/
theorem Event.tipArrives_of_granted {t : TipIdx} {s : State} (hg : (s.tip t).state = .granted) :
    (Event.of s).tipArrives t = ⟨((s.modTip t fun y => { y with state := .idle, timer := none }).modPass (s.tip t).pass
        fun y => Pass.credit (s.tip t).load { y with reserved := y.reserved - (s.tip t).load }).recordBreach
          (s.coversTip · t) .tipSensed t,
      (if ((s.pass (s.tip t).pass).credit (s.tip t).load).e = (s.pass (s.tip t).pass).e then []
        else [(s.tip t).pass]) ++ [(s.tip t).pass],
      (if ((s.pass (s.tip t).pass).credit (s.tip t).load).e = (s.pass (s.tip t).pass).e then []
        else s.chutesOf (s.tip t).pass), false, s.coveringTip t⟩ := by
  have hq (q : Pass) (r : Nat) : (Pass.credit (s.tip t).load { q with reserved := r }).e = (q.credit (s.tip t).load).e := by
    rw [Pass.credit_eq, Pass.credit_eq]
    split <;> rfl
  unfold Event.tipArrives
  simp only [Event.of_st, hg, if_true, Event.endGrant_of, Event.changeFill_eq, State.modPass_pass_self,
    State.modTip_pass, hq, State.modPass_modPass, State.modPass_chutesOf, State.modTip_chutesOf, List.append_nil]
  rfl

/-- A tip at a tip point that is not GRANTED is ungranted, and credited all the same (R64). -/
theorem Event.tipArrives_of_ungranted {t : TipIdx} {s : State} (hg : (s.tip t).state ≠ .granted) :
    (Event.of s).tipArrives t = ⟨((s.modTip t fun y => { y with conds := raise .ungrantedTip y.conds }).modPass
        (s.tip t).pass (Pass.credit (s.tip t).load)).recordBreach (s.coversTip · t) .tipSensed t,
      if ((s.pass (s.tip t).pass).credit (s.tip t).load).e = (s.pass (s.tip t).pass).e then []
        else [(s.tip t).pass],
      if ((s.pass (s.tip t).pass).credit (s.tip t).load).e = (s.pass (s.tip t).pass).e then []
        else s.chutesOf (s.tip t).pass, false, []⟩ := by
  unfold Event.tipArrives
  simp only [Event.of_st, hg, if_false, Event.changeFill_eq, Event.update_st, Event.update_arb, Event.update_tries,
    State.modTip_pass, State.modTip_chutesOf]
  change (⟨_, _ ++ [], _ ++ [], false, []⟩ : Event) = _
  rw [List.append_nil, List.append_nil]

/-- The arbiters an event triggers count once each. -/
theorem Event.finish_arb_twice (u : State) (p : PassIdx) (b : Prop) [Decidable b] (tries : List ChuteIdx)
    (touched : List EntryIdx) : Event.finish ⟨u, (if b then [] else [p]) ++ [p], tries, false, touched⟩
      = Event.finish ⟨u, [p], tries, false, touched⟩ :=
  Event.Same.finish ⟨rfl, fun q => by split <;> simp, fun _ => .rfl, rfl, fun _ => .rfl⟩

/-- Settles O32. -/
theorem grantsLapseAndTipsCredit : Obligations.GrantsLapseAndTipsCredit := by
  intro t i s x q credited moved breached
  have hcredit (y : Pass) (hd : y.defined = q.defined) (hk : y.known = q.known) (he : y.e = q.e)
      (hc : y.capacity = q.capacity) (hs : y.state = q.state) (hr : y.r = q.r) (hcd : y.conds = q.conds) :
      y.credit x.load = credited y := by
    rw [Pass.credit_eq]
    simp only [credited, hd, hk, he, hc, hs, hr, hcd]
  have hmoved : ((s.pass x.pass).credit x.load).e = (s.pass x.pass).e ↔ ¬ moved := by
    rw [hcredit (s.pass x.pass) rfl rfl rfl rfl rfl rfl rfl, not_not]
  have hbreach (u : State) : u.recordBreach (s.coversTip · t) .tipSensed t = breached u := State.recordBreach_eq ..
  refine ⟨fun hr => ⟨fun hg ht => ?_, fun h => ?_⟩, fun hdue hd => ⟨fun hg => ?_, fun hg => ?_⟩, fun h => ?_⟩
  · refine congrArg Host.Outcome.next ((occur_some hr (if_pos ⟨hg, ht⟩)).trans ?_)
    rw [Event.lapse_of]
  · refine congrArg Host.Outcome.next (occur_none (if_neg ?_))
    rintro ⟨hg, ht⟩
    rcases h with h | h
    · exact h hg
    · rw [show (s.tip t).timer = none from h] at ht
      cases ht
  · have hdefined : ((s.debounced i).tip t).defined = true := by rw [State.debounced_tip]; exact hd
    have hgranted : ((s.debounced i).tip t).state = .granted := by rw [State.debounced_tip]; exact hg
    rw [exec_debounceExpiry_of_edgeDue hdue, Event.deliver, Event.sensorEdge,
      if_pos (by simpa using hdefined), Event.tipArrives_of_granted hgranted]
    simp only [State.debounced_tip, State.debounced_pass, State.debounced_coversTip, State.debounced_coveringTip,
      State.debounced_chutesOf, Event.finish_arb_twice, hbreach]
    have hpass : ((s.debounced i).modTip t fun y => { y with state := .idle, timer := none }).modPass x.pass
        (fun y => Pass.credit x.load { y with reserved := y.reserved - x.load })
        = ((s.debounced i).modTip t fun y => { y with state := .idle, timer := none }).modPass x.pass
        fun y => credited { y with reserved := y.reserved - x.load } :=
      State.modPass_congr (hcredit _ rfl rfl rfl rfl rfl rfl rfl)
    have htries : (if ((s.pass x.pass).credit x.load).e = (s.pass x.pass).e then [] else s.chutesOf x.pass)
        = if moved then s.chutesOf x.pass else [] := (if_congr hmoved rfl rfl).trans (ite_not ..)
    rw [hpass, htries]
  · have hdefined : ((s.debounced i).tip t).defined = true := by rw [State.debounced_tip]; exact hd
    have hgranted : ((s.debounced i).tip t).state ≠ .granted := by rw [State.debounced_tip]; exact hg
    rw [exec_debounceExpiry_of_edgeDue hdue, Event.deliver, Event.sensorEdge,
      if_pos (by simpa using hdefined), Event.tipArrives_of_ungranted hgranted]
    simp only [State.debounced_tip, State.debounced_pass, State.debounced_coversTip, State.debounced_chutesOf, hbreach]
    have hpass : ((s.debounced i).modTip t fun y => { y with conds := raise .ungrantedTip y.conds }).modPass x.pass
        (Pass.credit x.load)
        = ((s.debounced i).modTip t fun y => { y with conds := raise .ungrantedTip y.conds }).modPass x.pass credited :=
      State.modPass_congr (hcredit _ rfl rfl rfl rfl rfl rfl rfl)
    have htries (l : List ChuteIdx) : (if ((s.pass x.pass).credit x.load).e = (s.pass x.pass).e then [] else l)
        = if moved then l else [] := (if_congr hmoved rfl rfl).trans (ite_not ..)
    have harb : (if ((s.pass x.pass).credit x.load).e = (s.pass x.pass).e then [] else [x.pass])
        = if moved then [x.pass] else [] := (if_congr hmoved rfl rfl).trans (ite_not ..)
    rw [hpass, htries, harb]
  · rcases h with hdue | ⟨hdue, hd⟩
    · rw [exec_debounceExpiry_of_edgeDue hdue, Event.deliver, Event.sensorEdge, if_neg (by simp), Event.finish_of]
    · rw [exec_debounceExpiry_of_edgeDue hdue, Event.deliver, Event.sensorEdge,
        if_neg (by simp [show (s.tip t).defined = false from hd]), Event.finish_of]

end Sys2Proof.Machine
end

section
/-! Jobs that arrive, and the breaker's timers (R70, R105 to R107, R115 to R117). -/

namespace Sys2Proof.Machine

theorem State.modBreaker_congr {f g : Breaker → Breaker} {s : State} (h : f s.breaker = g s.breaker) :
    s.modBreaker f = s.modBreaker g := by
  rw [State.modBreaker, h, State.modBreaker]

theorem State.modBst_congr {k : StationIdx} {f g : Station → Station} {s : State} (h : f (s.bst k) = g (s.bst k)) :
    s.modBst k f = s.modBst k g := by
  rw [State.modBst, h, State.modBst]

/-! ## The timers -/

/-- The travel timer's expiry sends the breaker home and reports the job's station (R116). -/
theorem Event.failTravel_of_travelling {s : State} (j : Job) (h : s.breaker.state = .travelling) :
    (Event.of s).failTravel j =
      let u := (s.modBst j.station fun x => { x with conds := raise .travelTimeout x.conds }).modBreaker Breaker.sendHome
      ⟨u, u.endReport j.station, [], false, List.finRange 24⟩ := by
  have hkeeps : (s.modBst j.station fun x => { x with conds := raise .travelTimeout x.conds }).breaker.state = .breaking
      ↔ (Breaker.sendHome (s.modBst j.station fun x =>
        { x with conds := raise .travelTimeout x.conds }).breaker).state = .breaking := by
    simp [h, Breaker.sendHome]
  unfold Event.failTravel
  rw [Event.moveBreaker_of_keeps hkeeps, Event.reportEnd_eq]
  change (⟨_, _ ++ [], [], false, _⟩ : Event) = _
  rw [List.append_nil]
  rfl

/-- The break timer's expiry ends the job and reports its station, then chains to the job found or sends the breaker
home (R115). -/
theorem Event.failBreak_of_breaking {s : State} (j : Job) (h : s.breaker.state = .breaking) :
    (Event.of s).failBreak j =
      let u := (s.modBst j.station fun x =>
        { x with retryHeld := true, conds := raise .unfinished x.conds }).modBreaker Breaker.finished
      ⟨(u.modBreaker (Breaker.chainOrReturn u.pickJob)).wakeScanner, u.endReport j.station, [], false,
        List.finRange 24⟩ := by
  have hpick : ((s.modBst j.station fun x =>
      { x with retryHeld := true, conds := raise .unfinished x.conds }).modBreaker Breaker.finished).pickJob
      = (s.modBst j.station fun x => { x with retryHeld := true, conds := raise .unfinished x.conds }).pickJob :=
    State.modBreaker_pickJob rfl rfl
  rw [Event.failBreak_eq, Event.reportEnd_eq, Event.of_st, ← hpick]
  refine (Event.chainOrReturn_of_breaking _ (by exact h)).trans ?_
  change (⟨_, _ ++ [], [], false, _⟩ : Event) = _
  rw [List.append_nil]
  rfl

theorem exec_travelTimerExpiry_of_stopped {s : State}
    (h : s.breaker.state ≠ .travelling ∨ s.breaker.travelTimer = none) : exec .travelTimerExpiry s = .next s := by
  refine congrArg Host.Outcome.next (occur_none ?_)
  cases s.breaker.current with
  | none => rfl
  | some j =>
    refine if_neg ?_
    rintro ⟨hst, ht⟩
    rcases h with h | h
    · exact h hst
    · simp [h] at ht

theorem exec_breakTimerExpiry_of_stopped {s : State}
    (h : s.breaker.state ≠ .breaking ∨ s.breaker.breakTimer = none) : exec .breakTimerExpiry s = .next s := by
  refine congrArg Host.Outcome.next (occur_none ?_)
  cases s.breaker.current with
  | none => rfl
  | some j =>
    refine if_neg ?_
    rintro ⟨hst, ht⟩
    rcases h with h | h
    · exact h hst
    · simp [h] at ht

/-- Settles O44. -/
theorem breakerTimersAbandonTheirJob : Obligations.BreakerTimersAbandonTheirJob := by
  intro j s hr b home
  refine ⟨fun hst ht hj => ?_, fun hst ht hj => ?_, fun hst ht => ?_, exec_travelTimerExpiry_of_stopped,
    exec_breakTimerExpiry_of_stopped, fun h => ?_⟩
  · intro u
    have hu : (s.modBst j.station fun x => { x with conds := raise .travelTimeout x.conds }).modBreaker Breaker.sendHome
        = u := State.modBreaker_congr rfl
    have hev : (match s.breaker.current with
        | some j => if s.breaker.state = .travelling ∧ s.breaker.travelTimer.isSome then
            some ((Event.of s).failTravel j) else none
        | none => none) = some ((Event.of s).failTravel j) := by
      rw [show s.breaker.current = some j from hj]
      exact if_pos ⟨hst, ht⟩
    refine congrArg Host.Outcome.next ((occur_some hr hev).trans ?_)
    rw [Event.failTravel_of_travelling j hst]
    simp only [hu]
  · intro u v
    have hev : (match s.breaker.current with
        | some j => if s.breaker.state = .breaking ∧ s.breaker.breakTimer.isSome then
            some ((Event.of s).failBreak j) else none
        | none => none) = some ((Event.of s).failBreak j) := by
      rw [show s.breaker.current = some j from hj]
      exact if_pos ⟨hst, ht⟩
    have hu : (s.modBst j.station fun x =>
        { x with retryHeld := true, conds := raise .unfinished x.conds }).modBreaker Breaker.finished = u := rfl
    have hv : u.modBreaker (Breaker.chainOrReturn u.pickJob) = v := by
      have hfree := Breaker.chainOrReturn_of_free u.pickJob (b := u.breaker) (limit := b.travelLimit) rfl rfl rfl
      simp only [v]
      cases hp : u.pickJob with
      | none => exact State.modBreaker_congr rfl
      | some n =>
        rw [hp] at hfree
        exact State.modBreaker_congr hfree
    refine congrArg Host.Outcome.next ((occur_some hr hev).trans ?_)
    rw [Event.failBreak_of_breaking j hst]
    simp only [hu, hv]
    rfl
  · exact congrArg Host.Outcome.next ((occur_some hr (if_pos ⟨hst, ht⟩)).trans (Event.finish_update _ s))
  · refine congrArg Host.Outcome.next (occur_none (if_neg ?_))
    rintro ⟨hst, ht⟩
    rcases h with h | h
    · exact h hst
    · simp [show s.breaker.returnTimer = none from h] at ht

/-! ## Jobs -/

/-- A job that arrives is ignored, merged or listed, and triggers the choice where the list changes (R105). -/
theorem Event.arrive_finish (k : StationIdx) (l : Nat) (origin : Origin) (u : State) :
    ((Event.of u).arrive k l origin).finish =
      if u.breaker.current.any fun j => decide (j.station = k) then u.endEvent
      else Event.finish ⟨u.modBreaker fun b =>
        if u.breaker.jobs.any fun j => decide (j.station = k) then
          { b with jobs := b.jobs.map fun j => if j.station = k then { j with level := max j.level l } else j }
        else { b with
          jobs := b.jobs ++ [⟨k, l, origin, b.counter⟩]
          counter := if b.counter < 65535 then b.counter + 1 else 0 }, [], [], true, []⟩ := by
  by_cases hc : (u.breaker.current.any fun j => decide (j.station = k)) = true
  · have hd : u.disposition k = .current := if_pos hc
    have harrive : (Event.of u).arrive k l origin = Event.of u := by
      simp only [Event.arrive, Event.of_st, hd]
    rw [harrive, Event.finish_of, if_pos hc]
  · rw [if_neg hc]
    by_cases hl : (u.breaker.jobs.any fun j => decide (j.station = k)) = true
    · have hd : u.disposition k = .merged := (if_neg hc).trans (if_pos hl)
      simp only [Event.arrive, Event.of_st, hd, hl, if_true]
      rfl
    · have hd : u.disposition k = .listed := (if_neg hc).trans (if_neg hl)
      simp only [Event.arrive, Event.of_st, hd, hl]
      rfl

theorem State.breakReply_val (k : StationIdx) (level : Nat) (s : State) : s.breakReply k level =
    if !(s.bst k).defined then .no .noRecord
    else if level = 0 then .no .outOfRange
    else .take (((Event.of s).update (State.modBst k fun x => { x with retryHeld := false })).arrive k (min level 7) .link)
      fun _ => bigEndian 1 (min level 7) ++ bigEndian 1 (s.disposition k).code := withIndex_val ..

theorem State.disposition_code (k : StationIdx) (s : State) : (s.disposition k).code =
    if s.breaker.current.any fun j => decide (j.station = k) then 2
    else if s.breaker.jobs.any fun j => decide (j.station = k) then 1 else 0 := by
  unfold State.disposition
  split
  · rfl
  · split <;> rfl

theorem Event.oversizeEdge_rising {t : TipIdx} {k : StationIdx} {s : State} (hd : (s.tip t).defined = true)
    (hg : (s.tip t).grizzly = some k) : (Event.of s).oversizeEdge t true =
      if (s.bst k).defined = true ∧ (s.bst k).retryHeld = false ∧ (s.tip t).level ≠ 0 then
        (Event.of s).arrive k (s.tip t).level .oversize
      else Event.of s := by
  unfold Event.oversizeEdge
  simp only [Event.of_st, hg, hd, Bool.not_true, Bool.false_eq_true, if_false, if_true]
  by_cases h : (s.bst k).defined = true ∧ (s.bst k).retryHeld = false ∧ (s.tip t).level ≠ 0
  · obtain ⟨h1, h2, h3⟩ := h
    simp [h1, h2, h3]
  · rw [if_neg h]
    refine if_pos ?_
    by_contra hn
    simp only [Bool.or_eq_true, Bool.not_eq_true', not_or, Bool.not_eq_false, Bool.not_eq_true] at hn
    exact h ⟨hn.1.1, hn.1.2, of_decide_eq_false hn.2⟩

theorem Event.oversizeEdge_falling {t : TipIdx} {k : StationIdx} {s : State} (hd : (s.tip t).defined = true)
    (hg : (s.tip t).grizzly = some k) : (Event.of s).oversizeEdge t false =
      ⟨s.modBst k fun x => { x with retryHeld := x.retryHeld && !x.defined },
        if s.blocked t then [] else [(s.tip t).pass], [], false, []⟩ := by
  have hretry : s.modBst k (fun x => { x with retryHeld := if x.defined then false else x.retryHeld })
      = s.modBst k fun x => { x with retryHeld := x.retryHeld && !x.defined } := by
    refine State.modBst_congr ?_
    cases (s.bst k).defined <;> simp
  have hblocked : (s.modBst k fun x => { x with retryHeld := x.retryHeld && !x.defined }).blocked t = s.blocked t := rfl
  unfold Event.oversizeEdge Event.judgeBlocking
  simp only [Event.of_st, hg, hd, Event.update_st, hretry, hblocked, Bool.not_true, Bool.false_eq_true, if_false]
  cases s.blocked t with
  | true => exact congrArg Event.of hretry
  | false => exact congrArg (fun u : State => (⟨u, [(u.tip t).pass], [], false, []⟩ : Event)) hretry

theorem Event.finish_choice (u : State) : Event.finish ⟨u, [], [], true, []⟩ = u.chooseJob.endEvent := by
  simp [Event.finish_eq]

theorem State.chooseJob_floor (s : State) : s.chooseJob.breaker.floor = s.breaker.floor := by
  rcases s.chooseJob_cases with h | ⟨j, -, -, h⟩ <;> rw [h]
  rfl

/-- Settles O42. -/
theorem jobsArriveMergeAndWait : Obligations.JobsArriveMergeAndWait := by
  intro rq k t i level s current listed arrived
  have harrived (l : Nat) (origin : Origin) (u : State) (hu : u.breaker = s.breaker) :
      ((Event.of u).arrive k l origin).finish = arrived l origin u := by
    rw [Event.arrive_finish, hu]
  refine ⟨fun ht => ⟨fun hd hl => ?_, fun hd => ?_, fun hd => ?_⟩, fun ht => ?_, fun hdue hd hg => ?_,
    fun hdue hd hg => ?_⟩
  · have hreply := (s.breakReply_val k level).trans ((if_neg (by simp [hd])).trans (if_neg hl))
    change (Host.Outcome.next (request rq 2 (State.breakReply k level) s) : Result) = _
    rw [request_of_reply_take ht hreply, State.disposition_code, ← harrived _ _ _ (State.modBst_breaker ..)]
    rfl
  · exact congrArg Host.Outcome.next (request_of_reply_no ht (owner := State.breakReply k 0)
      ((s.breakReply_val k 0).trans ((if_neg (by simp [hd])).trans (if_pos rfl))))
  · exact congrArg Host.Outcome.next (request_of_reply_no ht (owner := State.breakReply k level)
      ((s.breakReply_val k level).trans (if_pos (by simp [hd]))))
  · change (Host.Outcome.next (request rq 1 (State.floorReply level) s) : Result) = _
    rw [request_of_reply_take ht (owner := State.floorReply level) rfl]
    have hfloor : (Event.finish ⟨s.modBreaker fun b => { b with floor := min level 7 }, [], [], true, []⟩).breaker.floor
        = min level 7 := by
      rw [Event.finish_choice, State.endEvent_breaker, State.chooseJob_floor, State.modBreaker_breaker]
    exact congrArg (fun n => Host.Outcome.next ((Event.finish ⟨s.modBreaker fun b => { b with floor := min level 7 },
      [], [], true, []⟩).answered rq .accepted (bigEndian 1 n))) hfloor
  · rw [exec_debounceExpiry_of_edgeDue hdue, Event.deliver,
      Event.oversizeEdge_rising (k := k) (by rw [State.debounced_tip]; exact hd) (by rw [State.debounced_tip]; exact hg),
      State.debounced_bst, State.debounced_tip, apply_ite Event.finish, harrived _ _ _ (s.debounced_breaker i),
      Event.finish_of]
  · rw [exec_debounceExpiry_of_edgeDue hdue, Event.deliver,
      Event.oversizeEdge_falling (k := k) (by rw [State.debounced_tip]; exact hd) (by rw [State.debounced_tip]; exact hg),
      State.debounced_tip]

end Sys2Proof.Machine
end

section
/-! The timers of a chute and its proofs (R86 to R92, R145 to R149, R153). -/

namespace Sys2Proof.Machine

theorem State.modChute_modChute (c : ChuteIdx) (f g : Chute → Chute) (s : State) :
    (s.modChute c f).modChute c g = s.modChute c fun x => g (f x) := by
  simp [State.modChute, State.chute]

/-- A change that keeps where a chute stands is not seen by what covers it (R125). -/
theorem State.coversChute_modChute {s : State} {c d : ChuteIdx} {f : Chute → Chute} {e : EntryIdx}
    (hd : (f (s.chute c)).defined = (s.chute c).defined) (hp : (f (s.chute c)).pass = (s.chute c).pass)
    (he : (f (s.chute c)).elevation = (s.chute c).elevation) : (s.modChute c f).coversChute e d = s.coversChute e d := by
  refine State.coversChute_congr rfl ?_ ?_ ?_ <;> rw [State.modChute_chute] <;> split
  · next h => rw [h, hd]
  · rfl
  · next h => rw [h, hp]
  · rfl
  · next h => rw [h, he]
  · rfl

theorem State.coveringChute_modChute {s : State} {c d : ChuteIdx} {f : Chute → Chute}
    (hd : (f (s.chute c)).defined = (s.chute c).defined) (hp : (f (s.chute c)).pass = (s.chute c).pass)
    (he : (f (s.chute c)).elevation = (s.chute c).elevation) : (s.modChute c f).coveringChute d = s.coveringChute d :=
  List.filter_congr fun _ _ => State.coversChute_modChute hd hp he

theorem State.chutesOf_modChute {s : State} {c : ChuteIdx} {f : Chute → Chute} (p : PassIdx)
    (hd : (f (s.chute c)).defined = (s.chute c).defined) (hp : (f (s.chute c)).pass = (s.chute c).pass) :
    (s.modChute c f).chutesOf p = s.chutesOf p := by
  refine List.filter_congr fun d _ => ?_
  rw [State.modChute_chute]
  split
  · next h => rw [h, hd, hp]
  · rfl

theorem Event.touchChute_eq (c : ChuteIdx) (u : State) (arb : List PassIdx) (tries : List ChuteIdx) (choice : Bool) :
    (⟨u, arb, tries, choice, []⟩ : Event).touchChute c = ⟨u, arb, tries, choice, u.coveringChute c⟩ :=
  congrArg (Event.mk u arb tries choice) (List.append_nil _)

/-- An entry is not settled while a chute it covers is not CLOSED, so its settling test changes nothing (R129). -/
theorem Event.finish_of_open {u : State} {c : ChuteIdx} {es : List EntryIdx} (h : (u.chute c).state ≠ .closed)
    (hes : ∀ e ∈ es, u.coversChute e c = true) (arb : List PassIdx) (tries : List ChuteIdx) (choice : Bool) :
    Event.finish ⟨u, arb, tries, choice, es⟩ = Event.finish ⟨u, arb, tries, choice, []⟩ := by
  have hnot (e : EntryIdx) (he : e ∈ es) : u.settled e = false := by
    rw [← Bool.not_eq_true, State.settled_iff]
    rintro ⟨hc, -⟩
    have := hc c (hes e he)
    simp [State.chuteSafe, h] at this
  have htest (ev : Event) (hev : ev.st = u) (e : EntryIdx) (he : e ∈ es) : ev.settleTest e = ev := by
    rcases ev.settleTest_cases e with h | ⟨-, -, hs, -⟩
    · exact h
    · rw [hev, hnot e he] at hs
      cases hs
  have hfold (l : List EntryIdx) (hl : ∀ e ∈ l, e ∈ es) :
      l.foldl (fun ev e => Event.settleTest e ev) (⟨u, arb, tries, choice, es⟩ : Event) = ⟨u, arb, tries, choice, es⟩ := by
    induction l with
    | nil => rfl
    | cons e l ih =>
      rw [List.foldl_cons, htest _ rfl e (hl e (by simp))]
      exact ih fun e he => hl e (by simp [he])
  have htests : (⟨u, arb, tries, choice, es⟩ : Event).settleTests = ⟨u, arb, tries, choice, es⟩ :=
    hfold _ fun e he => by simpa using he
  rw [Event.finish_eq, Event.finish_eq, htests, Event.settleTests_nil]

theorem State.mem_coveringChute {s : State} {c : ChuteIdx} {e : EntryIdx} :
    e ∈ s.coveringChute c ↔ s.coversChute e c = true := by
  simp [State.coveringChute]

/-! ## The timers -/

theorem Pass.debit_written (volume : Nat) (q : Pass) : q.debit volume =
    if q.defined = true ∧ q.known = true then { q with
      e := q.e - volume
      d := if q.state = .running then min (q.d + volume) 16777215 else q.d
      conds := if q.e < volume then raise .floor q.conds else q.conds }
    else q := by
  unfold Pass.debit raiseIf
  refine if_congr (by simp) ?_ rfl
  simp only [decide_eq_true_eq]
  rfl

/-- The end of a draw (R86): the gate closes, the count and cycles since proof change, and the pass is debited. -/
theorem Event.holdExpires_eq {s : State} (c : ChuteIdx) :
    (((Event.of s).update (State.modChute c Chute.close)).touchChute c).takeDebit c =
      ⟨(s.modChute c fun y => y.close.countDown.cycleDone).modPass (s.chute c).pass (Pass.debit (s.chute c).volume),
        if ((s.pass (s.chute c).pass).debit (s.chute c).volume).e = (s.pass (s.chute c).pass).e then []
          else [(s.chute c).pass],
        if ((s.pass (s.chute c).pass).debit (s.chute c).volume).e = (s.pass (s.chute c).pass).e then []
          else s.chutesOf (s.chute c).pass, false, s.coveringChute c⟩ := by
  have hclose : (Chute.close (s.chute c)).pass = (s.chute c).pass ∧ (Chute.close (s.chute c)).volume = (s.chute c).volume :=
    ⟨rfl, rfl⟩
  have hdone : ((Chute.close (s.chute c)).countDown.cycleDone).defined = (s.chute c).defined
      ∧ ((Chute.close (s.chute c)).countDown.cycleDone).pass = (s.chute c).pass := by
    rw [Chute.countDown_cycleDone_eq]
    exact ⟨rfl, rfl⟩
  have hchutes : (s.modChute c fun y => y.close.countDown.cycleDone).chutesOf (s.chute c).pass
      = s.chutesOf (s.chute c).pass := State.chutesOf_modChute _ hdone.1 hdone.2
  have htouch : (Event.of s).update (State.modChute c Chute.close) = ⟨s.modChute c Chute.close, [], [], false, []⟩ := rfl
  rw [htouch, Event.touchChute_eq, State.coveringChute_modChute (f := Chute.close) rfl rfl rfl, Event.takeDebit]
  simp only [State.modChute_chute_self, hclose.1, hclose.2, Event.changeFill_eq, Event.update_st, Event.update_arb,
    Event.update_tries, State.modChute_pass, State.modChute_modChute, hchutes, List.append_nil]
  rfl

theorem exec_holdTimerExpiry_of_holding {s : State} {c : ChuteIdx} (hr : s.inReset = false)
    (hs : (s.chute c).state = .holding) (ht : (s.chute c).holdTimer.isSome = true) :
    exec (.holdTimerExpiry c) s = .next (Event.finish
      ⟨(s.modChute c fun y => y.close.countDown.cycleDone).modPass (s.chute c).pass (Pass.debit (s.chute c).volume),
        if ((s.pass (s.chute c).pass).debit (s.chute c).volume).e = (s.pass (s.chute c).pass).e then []
          else [(s.chute c).pass],
        if ((s.pass (s.chute c).pass).debit (s.chute c).volume).e = (s.pass (s.chute c).pass).e then []
          else s.chutesOf (s.chute c).pass, false, []⟩) := by
  have hst (y : Chute) : (y.close.countDown.cycleDone).state = .closing
      ∧ (y.close.countDown.cycleDone).defined = y.defined ∧ (y.close.countDown.cycleDone).pass = y.pass
      ∧ (y.close.countDown.cycleDone).elevation = y.elevation := by
    rw [Chute.countDown_cycleDone_eq]
    exact ⟨rfl, rfl, rfl, rfl⟩
  refine congrArg Host.Outcome.next ((occur_some hr (if_pos ⟨hs, ht⟩)).trans ?_)
  rw [Event.holdExpires_eq]
  refine Event.finish_of_open (c := c) ?_ (fun e he => ?_) _ _ _
  · rw [State.modPass_chute, State.modChute_chute_self, (hst _).1]
    simp
  · rw [State.modPass_coversChute, State.coversChute_modChute (hst _).2.1 (hst _).2.2.1 (hst _).2.2.2]
    exact State.mem_coveringChute.mp he

theorem exec_strokeTimerExpiry_of_stale {s : State} {c : ChuteIdx} (hr : s.inReset = false)
    (h : (s.chute c).staleExpiry = true) : exec (.strokeTimerExpiry c) s =
      .next (s.modChute c fun y => { y with staleExpiry := false }).endEvent :=
  congrArg Host.Outcome.next ((occur_some hr (if_pos h)).trans (Event.finish_update _ s))

theorem exec_strokeTimerExpiry_of_running {s : State} {c : ChuteIdx} (hr : s.inReset = false)
    (h : (s.chute c).staleExpiry = false) (ht : (s.chute c).strokeTimer.isSome = true) :
    exec (.strokeTimerExpiry c) s = .next ((Event.of s).strokeExpires c).finish :=
  congrArg Host.Outcome.next (occur_some hr ((if_neg (by simp [h])).trans (if_pos ht)))

/-- An opening fault closes the gate, which no entry that covers it is settled with (R90). -/
theorem Event.strokeExpires_of_opening {s : State} {c : ChuteIdx} (h : (s.chute c).state = .opening) :
    ((Event.of s).strokeExpires c).finish = (s.modChute c fun y => y.close.strokeFault).endEvent := by
  have hev : (Event.of s).strokeExpires c = ⟨s.modChute c fun y => y.close.strokeFault, [], [], false,
      s.coveringChute c⟩ := by
    unfold Event.strokeExpires
    simp only [Event.of_st, h]
    exact (Event.touchChute_eq ..).trans (congrArg (Event.mk _ _ _ _) (State.coveringChute_modChute rfl rfl rfl))
  rw [hev, Event.finish_of_open (c := c) (by rw [State.modChute_chute_self]; simp [Chute.strokeFault, Chute.close])
    fun e he => (State.coversChute_modChute rfl rfl rfl).trans (State.mem_coveringChute.mp he)]
  exact Event.finish_quiet _

/-- Finalising a proof within an event that has triggered nothing (R149). -/
theorem Event.finalise_of {s : State} (c : ChuteIdx) (result : NudgeResult) : (Event.of s).finalise c result =
    ⟨s.modChute c (·.finalise result), [], [c], false, s.coveringChute c⟩ := by
  unfold Event.finalise
  have htouch : ((Event.of s).update (State.modChute c (·.finalise result))).touchChute c
      = ⟨s.modChute c (·.finalise result), [], [], false, s.coveringChute c⟩ :=
    (Event.touchChute_eq ..).trans (congrArg (Event.mk _ _ _ _) (State.coveringChute_modChute rfl rfl rfl))
  rw [htouch]
  rfl

/-- Settles O37. -/
theorem chuteTimersEndDrawsStrokesAndNudges : Obligations.ChuteTimersEndDrawsStrokesAndNudges := by
  intro s c hr x q due debited moved fault
  refine ⟨fun hs ht => ?_, fun h => ?_, exec_strokeTimerExpiry_of_stale hr, fun hstale ht =>
    ⟨fun hs => ?_, fun hs => ?_, fun hs => ?_⟩, fun hstale ht => ?_, fun hs ht hl => ?_, fun h => ?_⟩
  · have hdebit : (s.pass x.pass).debit x.volume = debited (s.pass x.pass) := Pass.debit_written ..
    have hmoved : ((s.pass x.pass).debit x.volume).e = (s.pass x.pass).e ↔ ¬ moved := by rw [hdebit, not_not]
    have harb {α : Type} (l : List α) : (if ((s.pass x.pass).debit x.volume).e = (s.pass x.pass).e then [] else l)
        = if moved then l else [] := (if_congr hmoved rfl rfl).trans (ite_not ..)
    have hdone : s.modChute c (fun y => y.close.countDown.cycleDone) = s.modChute c fun y =>
        let counted := if y.count = 1 then raise .orderDone y.conds else y.conds
        { y with
          state := .closing, holdTimer := none, strokeTimer := some y.strokeTime, staleExpiry := false
          count := if y.count = 255 then 255 else y.count - 1
          cycles := min (y.cycles + 1) 65535
          conds := if ¬ due y.cycles ∧ due (min (y.cycles + 1) 65535) then raise .proofDue counted
            else counted } := State.modChute_congr (Chute.countDown_cycleDone_eq _)
    have hpass (u : State) (hu : u.pass x.pass = s.pass x.pass) :
        u.modPass x.pass (Pass.debit x.volume) = u.modPass x.pass debited :=
      State.modPass_congr (by rw [hu, hdebit])
    rw [exec_holdTimerExpiry_of_holding hr hs ht, harb, harb, hpass _ (State.modChute_pass ..), hdone]
  · refine congrArg Host.Outcome.next (occur_none (if_neg ?_))
    rintro ⟨hs, ht⟩
    rcases h with h | h
    · exact h hs
    · simp [show (s.chute c).holdTimer = none from h] at ht
  · rw [exec_strokeTimerExpiry_of_running hr hstale ht, Event.strokeExpires_of_opening hs]
    refine congrArg (fun u : State => Host.Outcome.next u.endEvent) (State.modChute_congr ?_)
    simp [Chute.strokeFault, Chute.close, fault, show (s.chute c).staleExpiry = false from hstale]
  · rw [exec_strokeTimerExpiry_of_running hr hstale ht]
    have hev : (Event.of s).strokeExpires c = (Event.of s).update (State.modChute c fun y =>
        fault { y with strokeTimer := none }) := by
      unfold Event.strokeExpires
      simp only [Event.of_st, show (s.chute c).state = .closing from hs]
      rfl
    rw [hev, Event.finish_update]
  · rw [exec_strokeTimerExpiry_of_running hr hstale ht]
    have hev : (Event.of s).strokeExpires c = (Event.of s).update (State.modChute c fun y => fault { y with
        strokeTimer := none, pendingProof := if y.pendingProof = some .pass then some .fail else y.pendingProof }) := by
      unfold Event.strokeExpires
      simp only [Event.of_st, show (s.chute c).state = .reclosing from hs]
      rfl
    rw [hev, Event.finish_update]
  · exact congrArg Host.Outcome.next (occur_none ((if_neg (by simp [show (s.chute c).staleExpiry = false from hstale])).trans
      (if_neg (by simp [show (s.chute c).strokeTimer = none from ht]))))
  · refine congrArg Host.Outcome.next ((occur_some hr (if_pos ⟨hs, ht, hl⟩)).trans ?_)
    rw [Event.finalise_of]
    rfl
  · refine congrArg Host.Outcome.next (occur_none (if_neg ?_))
    rintro ⟨hs, ht, hl⟩
    rcases h with h | h | h
    · exact h hs
    · simp [show (s.chute c).nudgeTimer = none from h] at ht
    · exact absurd (hl.symm.trans h) (by simp)

end Sys2Proof.Machine
end

section
/-! PROVE CHUTE and ACCEPT PROOF of a chute (R145, R146, R153). -/

namespace Sys2Proof.Machine

theorem State.proveChuteReply_val (c : ChuteIdx) (s : State) : s.proveChuteReply c =
    if !(s.chute c).defined then .no .noRecord
    else if s.station.mode ≠ .run then .no .wrongMode
    else if !s.chuteSafe c || (s.chute c).proofHold then .no .busy
    else if s.chuteCovered c then .no .covered
    else if (s.pass (s.chute c).pass).state ≠ .running ∧ (s.pass (s.chute c).pass).state ≠ .unknown then .no .wrongMode
    else .take (((Event.of s).update (State.modChute c Chute.nudge)).touchChute c)
      fun t => bigEndian 1 (t.chute c).state.code ++ bigEndian 1 (s.chute c).nudgeTime := withIndex_val ..

theorem State.acceptChuteReply_val (c : ChuteIdx) (s : State) : s.acceptProofReply 2 c =
    if !(s.chute c).defined then .no .noRecord
    else if (s.chute c).state = .nudging ∨ (s.chute c).state = .reclosing then .no .busy
    else .take (if (s.chute c).proofHold then ((Event.of s).update (State.modChute c Chute.accept)).triggerTries [c]
        else Event.of s)
      fun t => bigEndian 1 (t.chute c).lastProof.code ++ yesNo (t.chute c).proofHold
        ++ bigEndian 2 (t.chute c).cycles := by
  change withIndex 8 c.val _ = _
  exact withIndex_val ..

/-- What the checks of PROVE CHUTE call still (R145). -/
theorem State.still_iff {s : State} {c : ChuteIdx} : ¬ (!s.chuteSafe c || (s.chute c).proofHold) = true ↔
    (s.chute c).state = .closed ∧ s.level (.closedLimit c) = true ∧ (s.chute c).proofHold = false := by
  simp [State.chuteSafe, State.closedHigh, and_assoc]

theorem State.chuteCovered_iff {s : State} {c : ChuteIdx} : s.chuteCovered c = true ↔ ∃ e, s.coversChute e c = true := by
  simp [State.chuteCovered]

/-- Of a chute no entry covers the nudge starts with no settling test to make (R146). -/
theorem Event.nudge_finish {s : State} {c : ChuteIdx} (hcov : ∀ e, s.coversChute e c = false) :
    (((Event.of s).update (State.modChute c Chute.nudge)).touchChute c).finish = (s.modChute c Chute.nudge).endEvent := by
  have htouch : ((Event.of s).update (State.modChute c Chute.nudge)).touchChute c
      = ⟨s.modChute c Chute.nudge, [], [], false, s.coveringChute c⟩ :=
    (Event.touchChute_eq ..).trans (congrArg (Event.mk _ _ _ _) (State.coveringChute_modChute rfl rfl rfl))
  have hnone : s.coveringChute c = [] := by simp [State.coveringChute, hcov]
  rw [htouch, hnone, Event.finish_quiet]

/-- What an event that lets a chute try leaves of what ACCEPT PROOF answers (R153). -/
theorem Event.finish_tries_proof (s : State) (cs : List ChuteIdx) (d : ChuteIdx) :
    ((Event.finish ⟨s, [], cs, false, []⟩).chute d).lastProof = (s.chute d).lastProof
      ∧ ((Event.finish ⟨s, [], cs, false, []⟩).chute d).proofHold = (s.chute d).proofHold
      ∧ ((Event.finish ⟨s, [], cs, false, []⟩).chute d).cycles = (s.chute d).cycles :=
  ⟨Event.finish_tries_chute_congr (g := Chute.lastProof) (fun _ => rfl) (fun _ => rfl) (fun _ => rfl) s cs d,
    Event.finish_tries_chute_congr (g := Chute.proofHold) (fun _ => rfl) (fun _ => rfl) (fun _ => rfl) s cs d,
    Event.finish_tries_chute_congr (g := Chute.cycles) (fun _ => rfl) (fun _ => rfl) (fun _ => rfl) s cs d⟩

theorem acceptProofReply_of_type {type index : Nat} {s : State} (h2 : type ≠ 2) (h6 : type ≠ 6) :
    s.acceptProofReply type index = .no .outOfRange := by
  unfold State.acceptProofReply
  split
  · exact absurd rfl h2
  · exact absurd rfl h6
  · rfl

/-- Settles O38. -/
theorem chuteProofsStartAndAreAccepted : Obligations.ChuteProofsStartAndAreAccepted := by
  intro rq c type index s x still passOpen
  have hstill : ¬ (!s.chuteSafe c || (s.chute c).proofHold) = true ↔ still := State.still_iff
  have hdefined (hd : x.defined = true) : ¬ (!(s.chute c).defined) = true := by
    simp [show (s.chute c).defined = true from hd]
  have hfree (hc : ∀ e, s.coversChute e c = false) : ¬ s.chuteCovered c = true := by
    rw [State.chuteCovered_iff]
    rintro ⟨e, he⟩
    simp [hc e] at he
  refine ⟨fun ht => ⟨fun hd => ?_, fun hd hm => ?_, fun hd hm hs => ?_, fun hd hm hs hc => ?_, fun hd hm hs hc =>
    ⟨fun hp => ?_, fun hp => ?_⟩⟩, fun ht => ⟨fun hd => ?_, fun hd hs => ?_, fun hd hn hrc => ⟨fun hp => ?_, fun hp => ?_⟩,
    fun h2 h6 => ?_⟩⟩
  · exact congrArg Host.Outcome.next (request_of_reply_no ht (owner := State.proveChuteReply c)
      ((s.proveChuteReply_val c).trans (if_pos (by simp [show (s.chute c).defined = false from hd]))))
  · exact congrArg Host.Outcome.next (request_of_reply_no ht (owner := State.proveChuteReply c)
      ((s.proveChuteReply_val c).trans ((if_neg (hdefined hd)).trans (if_pos hm))))
  · exact congrArg Host.Outcome.next (request_of_reply_no ht (owner := State.proveChuteReply c)
      ((s.proveChuteReply_val c).trans ((if_neg (hdefined hd)).trans ((if_neg (not_not.mpr hm)).trans
        (if_pos (not_not.mp (mt hstill.mp hs)))))))
  · exact congrArg Host.Outcome.next (request_of_reply_no ht (owner := State.proveChuteReply c)
      ((s.proveChuteReply_val c).trans ((if_neg (hdefined hd)).trans ((if_neg (not_not.mpr hm)).trans
        ((if_neg (hstill.mpr hs)).trans (if_pos (State.chuteCovered_iff.mpr hc)))))))
  · exact congrArg Host.Outcome.next (request_of_reply_no ht (owner := State.proveChuteReply c)
      ((s.proveChuteReply_val c).trans ((if_neg (hdefined hd)).trans ((if_neg (not_not.mpr hm)).trans
        ((if_neg (hstill.mpr hs)).trans ((if_neg (hfree hc)).trans (if_pos (not_or.mp hp))))))))
  · have hreply := (s.proveChuteReply_val c).trans ((if_neg (hdefined hd)).trans ((if_neg (not_not.mpr hm)).trans
        ((if_neg (hstill.mpr hs)).trans ((if_neg (hfree hc)).trans (if_neg fun hn => (not_or.mpr hn) hp)))))
    change (Host.Outcome.next (request rq 1 (State.proveChuteReply c) s) : Result) = _
    rw [request_of_reply_take ht hreply, Event.nudge_finish hc, State.endEvent_chute, State.modChute_chute_self]
    rfl
  · exact congrArg Host.Outcome.next (request_of_reply_no ht (owner := State.acceptProofReply 2 c)
      ((s.acceptChuteReply_val c).trans (if_pos (by simp [show (s.chute c).defined = false from hd]))))
  · exact congrArg Host.Outcome.next (request_of_reply_no ht (owner := State.acceptProofReply 2 c)
      ((s.acceptChuteReply_val c).trans ((if_neg (hdefined hd)).trans (if_pos hs))))
  · have hreply := (s.acceptChuteReply_val c).trans ((if_neg (hdefined hd)).trans
      (if_neg (not_or.mpr ⟨hn, hrc⟩)))
    change (Host.Outcome.next (request rq 2 (State.acceptProofReply 2 c) s) : Result) = _
    rw [request_of_reply_take ht hreply, if_neg (by simp [show (s.chute c).proofHold = false from hp]), Event.finish_of,
      State.endEvent_chute, show (s.chute c).proofHold = false from hp]
    rfl
  · intro n
    have hreply := (s.acceptChuteReply_val c).trans ((if_neg (hdefined hd)).trans
      (if_neg (not_or.mpr ⟨hn, hrc⟩)))
    have hev : ((Event.of s).update (State.modChute c Chute.accept)).triggerTries [c]
        = ⟨s.modChute c fun y => { y with proofHold := false, cycles := n }, [], [c], false, []⟩ :=
      congrArg (fun u : State => (⟨u, [], [c], false, []⟩ : Event)) (State.modChute_congr rfl)
    change (Host.Outcome.next (request rq 2 (State.acceptProofReply 2 c) s) : Result) = _
    rw [request_of_reply_take ht hreply, if_pos hp, hev]
    obtain ⟨hlast, hhold, hcycles⟩ := Event.finish_tries_proof
      (s.modChute c fun y => { y with proofHold := false, cycles := n }) [c] c
    rw [hlast, hhold, hcycles, State.modChute_chute_self]
    rfl
  · exact congrArg Host.Outcome.next (request_of_reply_no ht (owner := State.acceptProofReply type index)
      (acceptProofReply_of_type h2 h6))

end Sys2Proof.Machine
end

section
/-! The edges of a chute's lines, by its cycle state (R79 to R81, R85, R88, R95, R147 to R149). -/

namespace Sys2Proof.Machine

@[simp] theorem State.debounced_chute (s : State) (i : LineIdx) (c : ChuteIdx) :
    (s.debounced i).chute c = s.chute c := State.modLine_chute ..
@[simp] theorem State.debounced_coversChute (s : State) (i : LineIdx) (e : EntryIdx) (c : ChuteIdx) :
    (s.debounced i).coversChute e c = s.coversChute e c := State.modLine_coversChute ..
@[simp] theorem State.debounced_coveringChute (s : State) (i : LineIdx) (c : ChuteIdx) :
    (s.debounced i).coveringChute c = s.coveringChute c := rfl

/-- A breach is recorded at an entry, and changes no plant. -/
theorem State.recordBreach_coveringChute (covers : EntryIdx → Bool) (cause : BreachCause) (actuator : Nat) (s : State)
    (c : ChuteIdx) : (s.recordBreach covers cause actuator).coveringChute c = s.coveringChute c := by
  refine List.filter_congr fun e _ => ?_
  rw [State.recordBreach_eq]
  simp only [State.coversChute, State.mapEntries_entry, State.mapEntries_chute]
  split <;> rfl

theorem State.modChute_mapEntries (c : ChuteIdx) (f : Chute → Chute) (g : EntryIdx → Entry → Entry) (s : State) :
    (s.modChute c f).mapEntries g = (s.mapEntries g).modChute c f := by
  simp only [State.mapEntries, State.modChute, State.entry, State.chute]

theorem Event.update_of (f : State → State) (u : State) : (Event.of u).update f = Event.of (f u) := rfl

theorem State.recordBreach_modChute (covers : EntryIdx → Bool) (cause : BreachCause) (actuator : Nat) (s : State)
    (c : ChuteIdx) (f : Chute → Chute) : (s.modChute c f).recordBreach covers cause actuator
      = (s.recordBreach covers cause actuator).modChute c f := by
  rw [State.recordBreach_eq, State.recordBreach_eq, State.modChute_mapEntries]

/-- A chute whose stroke timer has stopped, with an expiry of it that waits noted where its next cycle starts (log 31). -/
def State.restarted (c : ChuteIdx) (waits : Bool) (u : State) : State :=
  u.modChute c fun y => { y with staleExpiry := waits && decide (((u.startTry c).chute c).state = .opening) }

/-! ## What each edge makes of an event that has triggered nothing -/

section
variable {u : State} {c : ChuteIdx}

theorem Event.openLimitEdge_finish (hd : (u.chute c).defined = true) :
    ((Event.of u).openLimitEdge c true).finish = State.endEvent (if (u.chute c).state = .opening then
      u.modChute c fun y => { y with
        state := .holding, strokeTimer := none, reachedOpen := true, holdTimer := some y.holdTime, staleExpiry := false }
      else u) := by
  unfold Event.openLimitEdge
  by_cases hs : (u.chute c).state = .opening
  · rw [if_pos hs]
    simp only [Event.of_st, hd, hs]
    refine (congrArg Event.finish (Event.touchChute_eq c (u.modChute c _) [] [] false)).trans ?_
    rw [State.coveringChute_modChute (by rfl) (by rfl) (by rfl),
      Event.finish_of_open (c := c) (by rw [State.modChute_chute_self]; simp) fun e he =>
        (State.coversChute_modChute rfl rfl rfl).trans (State.mem_coveringChute.mp he)]
    exact Event.finish_quiet _
  · rw [if_neg hs]
    simp only [Event.of_st, hd, hs]
    exact Event.finish_of u

/-- The rising closed limit of a chute not CLOSED has no settling test to make (R129). -/
theorem Event.touchChute_open_finish (h : (u.chute c).state ≠ .closed) :
    ((Event.of u).touchChute c).finish = u.endEvent := by
  have htouch : (Event.of u).touchChute c = ⟨u, [], [], false, u.coveringChute c⟩ := Event.touchChute_eq ..
  rw [htouch, Event.finish_of_open h fun e he => State.mem_coveringChute.mp he]
  exact Event.finish_quiet u

theorem Event.closedLimitEdge_rising (hd : (u.chute c).defined = true) :
    (Event.of u).closedLimitEdge c true = ((Event.of u).closedLimitRises c).touchChute c := by
  simp [Event.closedLimitEdge, hd]

theorem Event.closedLimitEdge_falling (hd : (u.chute c).defined = true) :
    (Event.of u).closedLimitEdge c false = (((Event.of u).closedLimitFalls c).update
      (State.recordBreach (u.coversChute · c) .gateMoved c)).touchChute c := by
  simp [Event.closedLimitEdge, hd]

/-- A gate that comes home stops its stroke timer, notes an expiry of it that waits where the next cycle starts, and
lets the entries that cover it make their settling tests (R88, R92, R129; log 31). -/
theorem Event.noteRestart_touchChute {f : Chute → Chute} (waits : Bool)
    (hdef : (f (u.chute c)).defined = (u.chute c).defined) (hp : (f (u.chute c)).pass = (u.chute c).pass)
    (he : (f (u.chute c)).elevation = (u.chute c).elevation) (es : List EntryIdx) :
    ((⟨u.modChute c f, [], [c], false, es⟩ : Event).noteRestart c waits).touchChute c =
      ⟨(u.modChute c f).restarted c waits, [], [c], false, u.coveringChute c ++ es⟩ := by
  have hcov : ((u.modChute c f).restarted c waits).coveringChute c = u.coveringChute c :=
    (State.coveringChute_modChute rfl rfl rfl).trans (State.coveringChute_modChute hdef hp he)
  exact congrArg (fun l => (⟨(u.modChute c f).restarted c waits, [], [c], false, l ++ es⟩ : Event)) hcov

theorem Event.closedLimitEdge_of_closing (hd : (u.chute c).defined = true) (hs : (u.chute c).state = .closing) :
    (Event.of u).closedLimitEdge c true = ⟨(u.modChute c Chute.seated).restarted c (u.strokeExpiryWaits c), [], [c],
      false, u.coveringChute c⟩ := by
  have hseat : ((Event.of u).update (State.modChute c Chute.seated)).triggerTries [c]
      = ⟨u.modChute c Chute.seated, [], [c], false, []⟩ := rfl
  rw [Event.closedLimitEdge_rising hd, Event.closedLimitRises_of_closing hs, hseat,
    Event.noteRestart_touchChute (f := Chute.seated) _ rfl rfl rfl, List.append_nil]
  rfl

theorem Event.closedLimitEdge_of_reclosing {result : NudgeResult} (hd : (u.chute c).defined = true)
    (hs : (u.chute c).state = .reclosing) (hp : (u.chute c).pendingProof = some result) :
    ((Event.of u).closedLimitEdge c true).finish = Event.finish
      ⟨(u.modChute c (·.finalise result)).restarted c (u.strokeExpiryWaits c), [], [c], false, u.coveringChute c⟩ := by
  rw [Event.closedLimitEdge_rising hd, Event.closedLimitRises_of_reclosing hs, Event.of_st, hp, Option.getD_some,
    Event.finalise_of, Event.noteRestart_touchChute (f := (·.finalise result)) _ rfl rfl rfl]
  exact Event.Same.finish ⟨rfl, fun _ => .rfl, fun _ => .rfl, rfl, fun e => by simp⟩

theorem Event.closedLimitFalls_of_closed (h : (u.chute c).state = .closed) : (Event.of u).closedLimitFalls c
    = Event.of (u.modChute c fun y => { y with conds := raise .drift y.conds }) := by
  simp only [Event.closedLimitFalls, Event.of_st, h]
  rfl

theorem Event.closedLimitFalls_of_nudging (h : (u.chute c).state = .nudging) : (Event.of u).closedLimitFalls c
    = Event.of (u.modChute c fun y => { y with
      state := .reclosing, nudgeTimer := none, pendingProof := some .pass, strokeTimer := some y.strokeTime }) := by
  simp only [Event.closedLimitFalls, Event.of_st, h]
  rfl

theorem Event.closedLimitFalls_of_other (hc : (u.chute c).state ≠ .closed) (hn : (u.chute c).state ≠ .nudging) :
    (Event.of u).closedLimitFalls c = Event.of u := by
  unfold Event.closedLimitFalls
  rw [Event.of_st]
  split
  case h_1 h => exact absurd h hc
  case h_2 h => exact absurd h hn
  all_goals rfl

theorem Event.touchChute_of : (Event.of u).touchChute c = ⟨u, [], [], false, u.coveringChute c⟩ :=
  Event.touchChute_eq ..

/-- A load call is set once, and lets the chute try (R80). -/
theorem Event.loadCallEdge_rising (hd : (u.chute c).defined = true) : (Event.of u).loadCallEdge c true =
    if (u.chute c).callPending = true then Event.of u
    else ⟨u.modChute c fun y => { y with callPending := true, emptyReported := false, cushionReported := false }, [],
      [c], false, []⟩ := by
  unfold Event.loadCallEdge
  by_cases hp : (u.chute c).callPending = true
  · simp [hd, hp]
  · simp only [Event.of_st, hd, hp]
    rfl

/-- The end of a load call clears it (R81). -/
theorem Event.loadCallEdge_falling (hd : (u.chute c).defined = true) : (Event.of u).loadCallEdge c false =
    Event.of (if (u.chute c).callPending = true then u.modChute c fun y => { y with
      callPending := false, emptyReported := false, cushionReported := false } else u) := by
  unfold Event.loadCallEdge
  by_cases hp : (u.chute c).callPending = true
  · simp only [Event.of_st, hd, hp]
    rfl
  · simp only [Event.of_st, hd, hp]
    rfl

/-- The falling closed limit of a chute that its event leaves not CLOSED has no settling test to make (R129). -/
theorem Event.falling_open_finish {f : Chute → Chute} (hst : (f (u.chute c)).state ≠ .closed) :
    (((Event.of (u.modChute c f)).update (State.recordBreach (u.coversChute · c) .gateMoved c)).touchChute c).finish
      = ((u.recordBreach (u.coversChute · c) .gateMoved c).modChute c f).endEvent := by
  have hstate : (((u.modChute c f).recordBreach (u.coversChute · c) .gateMoved c).chute c).state ≠ .closed := by
    rw [State.recordBreach_eq, State.mapEntries_chute, State.modChute_chute_self]
    exact hst
  rw [Event.update_of, Event.touchChute_open_finish hstate, State.recordBreach_modChute]

end

/-- Settles O39. -/
theorem chuteEdgesActByTheCycleState : Obligations.ChuteEdgesActByTheCycleState := by
  intro c i s hd x s1 d seen breached old noted
  have hd1 : (s1.chute c).defined = true := by rw [State.debounced_chute]; exact hd
  have hx : s1.chute c = x := s.debounced_chute i c
  have hcov : s1.coveringChute c = s.coveringChute c := s.debounced_coveringChute i c
  have hbreach : s1.recordBreach (s1.coversChute · c) .gateMoved c = breached := by
    rw [State.recordBreach_eq]
    simp only [s1, State.debounced_coversChute]
    rfl
  have hwaits : s1.strokeExpiryWaits c = (x.strokeTimer.isSome && s.waitsNext (.strokeTimerExpiry c)) := by
    rw [State.strokeExpiryWaits, hx]
    rfl
  refine ⟨fun hdue => ?_, fun hdue => ?_, fun hdue => ⟨fun hs => ?_, fun hs => ?_, fun result hs hp => ?_, fun hs => ?_⟩,
    fun hdue => ⟨fun hs => ?_, fun hs => ?_, fun hs => ?_⟩, fun hdue => ⟨fun hp => ?_, fun hp => ?_⟩, fun hdue => ?_⟩
  · rw [exec_debounceExpiry_of_edgeDue hdue, Event.deliver, Event.openLimitEdge_finish hd1, hx]
  · rw [exec_debounceExpiry_of_edgeDue hdue, Event.deliver]
    exact congrArg Host.Outcome.next (Event.finish_of _)
  · rw [exec_debounceExpiry_of_edgeDue hdue, Event.deliver, Event.closedLimitEdge_rising hd1,
      Event.closedLimitRises_of_closed (by rw [Event.of_st, hx]; exact hs)]
    have htouch : ((Event.of s1).triggerTries [c]).touchChute c = ⟨s1, [], [c], false, s1.coveringChute c⟩ :=
      Event.touchChute_eq c s1 [] [c] false
    rw [htouch, hcov]
  · rw [exec_debounceExpiry_of_edgeDue hdue, Event.deliver, Event.closedLimitEdge_of_closing hd1 (hx ▸ hs), hwaits, hcov]
    rfl
  · rw [exec_debounceExpiry_of_edgeDue hdue, Event.deliver, Event.closedLimitEdge_of_reclosing hd1 (hx ▸ hs) (hx ▸ hp),
      hwaits, hcov]
    exact congrArg (fun u : State => (Host.Outcome.next (seen (noted u) [c]) : Result))
      (State.modChute_congr (by cases result <;> simp [Chute.finalise]))
  · have hmoving : (x.state).moving = true := by rcases hs with h | h | h <;> rw [h] <;> rfl
    have hopen : (s1.chute c).state ≠ .closed := by
      rw [hx]
      rcases hs with h | h | h <;> rw [h] <;> simp
    rw [exec_debounceExpiry_of_edgeDue hdue, Event.deliver, Event.closedLimitEdge_rising hd1,
      Event.closedLimitRises_of_moving (by rw [Event.of_st, hx]; exact hmoving), Event.touchChute_open_finish hopen]
  · rw [exec_debounceExpiry_of_edgeDue hdue, Event.deliver, Event.closedLimitEdge_falling hd1,
      Event.closedLimitFalls_of_closed (hx ▸ hs), Event.update_of, Event.touchChute_of,
      State.recordBreach_coveringChute, State.coveringChute_modChute (by rfl) (by rfl) (by rfl),
      State.recordBreach_modChute, hbreach, hcov]
  · rw [exec_debounceExpiry_of_edgeDue hdue, Event.deliver, Event.closedLimitEdge_falling hd1,
      Event.closedLimitFalls_of_nudging (hx ▸ hs), Event.falling_open_finish (by simp), hbreach]
  · have hopen : (s1.chute c).state ≠ .closed ∧ (s1.chute c).state ≠ .nudging := by
      rw [hx]
      rcases hs with h | h | h | h <;> rw [h] <;> simp
    rw [exec_debounceExpiry_of_edgeDue hdue, Event.deliver, Event.closedLimitEdge_falling hd1,
      Event.closedLimitFalls_of_other hopen.1 hopen.2, Event.update_of, Event.touchChute_open_finish, hbreach]
    rw [State.recordBreach_eq, State.mapEntries_chute]
    exact hopen.1
  · rw [exec_debounceExpiry_of_edgeDue hdue, Event.deliver, Event.loadCallEdge_rising hd1, hx, if_pos hp, Event.finish_of]
  · rw [exec_debounceExpiry_of_edgeDue hdue, Event.deliver, Event.loadCallEdge_rising hd1, hx, if_neg (by simp [hp])]
  · rw [exec_debounceExpiry_of_edgeDue hdue, Event.deliver, Event.loadCallEdge_falling hd1, hx, Event.finish_of]

end Sys2Proof.Machine
end

section
/-! What an accepted DEFINE does to one line, in full (R168). -/

namespace Sys2Proof.Machine

/-- Where no line is named twice, a line is named for one role alone. -/
theorem role_unique {roles : Roles} (hn : (roles.filterMap Prod.snd).Nodup) {r r' : LineFn × Option LineIdx}
    (hr : r ∈ roles) (hr' : r' ∈ roles) {i : LineIdx} (hi : r.2 = some i) (hi' : r'.2 = some i) : r' = r := by
  by_contra hne
  have hp := List.pairwise_filterMap.mp hn
  have hs : Std.Symm fun a b : LineFn × Option LineIdx => ∀ x, a.2 = some x → ∀ y, b.2 = some y → x ≠ y :=
    ⟨fun _ _ h b hb b' hb' he => h b' hb' b hb he.symm⟩
  exact hp.forall hr' hr hne i hi' i hi rfl

/-- A named line is bound to its role, and set to out by an output role that is new to it. -/
theorem bindLine_named {roles : Roles} (hn : (roles.filterMap Prod.snd).Nodup) {r : LineFn × Option LineIdx}
    (hr : r ∈ roles) {i : LineIdx} (hi : r.2 = some i) (l : Line) : bindLine roles i l = { l with
      binding := some r.1
      direction := if r.1.isOutput = true ∧ l.binding ≠ some r.1 then .output else l.direction } := by
  have hf : roles.find? (fun r => decide (r.2 = some i)) = some r := by
    cases hf : roles.find? (fun r => decide (r.2 = some i)) with
    | none => exact absurd hi (by simpa using List.find?_eq_none.mp hf r hr)
    | some r' =>
      have hi' : r'.2 = some i := by simpa using List.find?_some hf
      rw [role_unique hn hr (List.mem_of_find?_eq_some hf) hi hi']
  unfold bindLine
  rw [hf]
  dsimp only
  by_cases hb : l.binding = some r.1
  · rw [if_pos hb, if_neg fun h => h.2 hb, ← hb]
  · simp [hb]

/-- After a binding each role of the record has the line that was named for it. -/
theorem State.bindLines_lineOf {s : State} {roles : Roles} (hn : (roles.filterMap Prod.snd).Nodup)
    (hf : (roles.map Prod.fst).Nodup) {r : LineFn × Option LineIdx} (hr : r ∈ roles) :
    (s.bindLines roles).lineOf r.1 = r.2 := by
  have hbound {j : LineIdx} (h : ((s.bindLines roles).line j).binding = some r.1) : r.2 = some j := by
    rw [State.bindLines_line] at h
    rcases bindLine_binding_cases h with ⟨r', hr', hj, he⟩ | ⟨-, hne, -⟩
    · exact List.inj_on_of_nodup_map hf hr' hr he ▸ hj
    · exact absurd rfl (hne r hr)
  cases hi : r.2 with
  | none => exact State.lineOf_eq_none fun j hj => by cases hi.symm.trans (hbound hj)
  | some i =>
    refine State.lineOf_eq_some ?_ fun j hj => Option.some.inj ((hbound hj).symm.trans hi)
    rw [State.bindLines_line, bindLine_named hn hr hi]

/-- Settles O53, line by line from the cases of a binding. -/
theorem definesBindAndReleaseLines : Obligations.DefinesBindAndReleaseLines := by
  intro s roles i
  refine ⟨?_, fun hc hf => ?_⟩
  · rw [← Bool.not_eq_false, State.lineConflict_eq_false_iff, not_and_or]
    simp only [not_forall, not_or, exists_prop]
  · have hn := (State.lineConflict_eq_false_iff.mp hc).2
    refine ⟨rfl, fun r hr hi => ?_, fun hnone ⟨r, hr, hb⟩ => ?_, fun hnone hb => ?_, fun r hr =>
      State.bindLines_lineOf hn hf hr⟩
    · exact (State.bindLines_line roles s i).trans (bindLine_named hn hr hi _)
    · exact (State.bindLines_line roles s i).trans (bindLine_released hnone hr hb)
    · exact (State.bindLines_line roles s i).trans (bindLine_other hnone hb)

end Sys2Proof.Machine
end

section
/-! Levels, commands and pins of the lines, LINES WRITE, and a debounce expiry that delivers no edge (R61, R78, R111,
R151, R155, R167 to R174). -/

namespace Sys2Proof.Machine

/-! ## Which line serves a function -/

/-- The line of a function is the lowest that is bound to it. -/
theorem State.lineOf_eq_some_iff {s : State} {f : LineFn} {i : LineIdx} :
    s.lineOf f = some i ↔ (s.line i).binding = some f ∧ ∀ j, j < i → (s.line j).binding ≠ some f := by
  simp only [State.lineOf, find?_finRange_eq_some_iff, decide_eq_true_eq]
  exact and_congr_right fun _ => forall_congr' fun j =>
    ⟨fun h hlt hb => absurd (h hb) (not_le.mpr hlt), fun h hb => not_lt.mp fun hlt => h hlt hb⟩

theorem State.lineOf_eq_none_iff {s : State} {f : LineFn} : s.lineOf f = none ↔ ∀ j, (s.line j).binding ≠ some f := by
  simp [State.lineOf]

theorem State.bound_iff {s : State} {f : LineFn} : s.bound f = true ↔ ∃ j, (s.line j).binding = some f := by
  rw [State.bound, ← not_iff_not]
  simp [State.lineOf_eq_none_iff]

theorem State.level_of_lineOf {s : State} {f : LineFn} {i : LineIdx} (h : s.lineOf f = some i) :
    s.level f = (s.line i).debounced := by
  simp only [State.level, h]

theorem State.level_of_none {s : State} {f : LineFn} (h : s.lineOf f = none) : s.level f = false := by
  simp only [State.level, h]

/-! ## Commands -/

theorem CycleState.opens_eq (x : CycleState) : x.opens = decide (x = .opening ∨ x = .nudging) := by
  cases x <;> simp [CycleState.opens]

theorem CycleState.closes_eq (high : Bool) (x : CycleState) :
    x.closes high = decide (x = .closing ∨ x = .reclosing ∨ (x = .closed ∧ high = false)) := by
  cases x <;> simp [CycleState.closes]

theorem BreakerState.goes_eq (b : BreakerState) : b.goes = decide (b = .travelling ∨ b = .breaking) := by
  cases b <;> simp [BreakerState.goes]

theorem State.command_openValve (s : State) (c : ChuteIdx) : s.command (.openValve c)
    = (decide (s.station.mode ≠ .setup) && decide ((s.chute c).state = .opening ∨ (s.chute c).state = .nudging)) := by
  simp only [State.command, CycleState.opens_eq]

theorem State.command_closeValve (s : State) (c : ChuteIdx) : s.command (.closeValve c)
    = (decide (s.station.mode ≠ .setup) && decide ((s.chute c).state = .closing ∨ (s.chute c).state = .reclosing
      ∨ ((s.chute c).state = .closed ∧ s.level (.closedLimit c) = false))) := by
  simp only [State.command, CycleState.closes_eq, State.closedHigh]

theorem State.command_go (s : State) : s.command .go
    = (decide (s.station.mode ≠ .setup) && decide (s.breaker.state = .travelling ∨ s.breaker.state = .breaking)) := by
  simp only [State.command, BreakerState.goes_eq]

/-- The code lines show the current station while the breaker travels or breaks, and the last one otherwise. -/
theorem Breaker.code_eq (b : Breaker) : b.code
    = if decide (b.state = .travelling ∨ b.state = .breaking) = true then
        (b.current.map Job.station).getD b.lastCode
      else b.lastCode := by
  rw [← BreakerState.goes_eq, Breaker.code]

/-- A safe plant commands no lamp, no open valve and no go. -/
theorem State.command_of_safe {s : State} (h : s.Safe) (t : TipIdx) (c : ChuteIdx) :
    s.command (.lamp t) = false ∧ s.command (.openValve c) = false ∧ s.command .go = false := by
  obtain ⟨hchute, htip, hbreaker⟩ := h
  obtain ⟨hopening, -, hnudging⟩ := CycleState.moving_eq_false_iff.mp (hchute c)
  refine ⟨decide_eq_false (htip t), ?_, ?_⟩
  · rw [State.command_openValve, decide_eq_false (not_or.mpr ⟨hopening, hnudging⟩), Bool.and_false]
  · rw [State.command, hbreaker, Bool.and_false]

/-! ## Pins -/

theorem inBankF_of_ge {i : LineIdx} (h : 40 ≤ i.val) : inBankF i = true := decide_eq_true h

theorem inBankF_of_lt {i : LineIdx} (h : i.val < 40) : inBankF i = false := decide_eq_false (not_le.mpr h)

theorem State.pinLevel_bankF {s : State} {i : LineIdx} (h : 40 ≤ i.val) : s.pinLevel i = (s.line i).plant := by
  simp [State.pinLevel, State.drive, inBankF_of_ge h]

/-- The pin of a line with an output role follows the role's command. -/
theorem State.pinLevel_commanded {s : State} {i : LineIdx} {f : LineFn} (h : i.val < 40)
    (hb : (s.line i).binding = some f) (hf : f.isOutput = true) : s.pinLevel i = s.command f := by
  simp [State.pinLevel, State.drive, inBankF_of_lt h, hb, hf]

/-- The pin of a line with no output role follows its latch where it is out, and the plant where it is in. -/
theorem State.pinLevel_latched {s : State} {i : LineIdx} {f : LineFn} (h : i.val < 40)
    (hb : (s.line i).binding = none ∨ ((s.line i).binding = some f ∧ f.isOutput = false)) :
    s.pinLevel i = if (s.line i).direction = .output then (s.line i).latch else (s.line i).plant := by
  rcases hb with hb | ⟨hb, hf⟩
  · by_cases hd : (s.line i).direction = .output <;> simp [State.pinLevel, State.drive, inBankF_of_lt h, hb, hd]
  · by_cases hd : (s.line i).direction = .output <;> simp [State.pinLevel, State.drive, inBankF_of_lt h, hb, hd, hf]

theorem debounceTimer_eq (inReset raw debounced : Bool) (time : Nat) (timer : Timer) :
    debounceTimer inReset raw debounced time timer
      = if inReset = true ∨ raw = debounced then none else some (timer.getD time) := by
  simp [debounceTimer]

/-! ## LINES WRITE and the debounce expiry -/

theorem takeDebounce_eq (n : Nat) : takeDebounce n = min (max (n / 5 * 5) 5) 250 := clamp_eq (by omega) _

/-- The debounce time that LINES WRITE gives a bank whose times another write has left. -/
theorem State.writeDebounce_eq {u s : State} (h : u.debounce = s.debounce) (b : BankIdx) (time : Option Nat) :
    u.writeDebounce b time = match time with
      | some n => { u with debounce := s.debounce.set b (min (max (n / 5 * 5) 5) 250) }
      | none => u := by
  cases time with
  | none => rfl
  | some n => simp only [State.writeDebounce, takeDebounce_eq, h]

/-- The bank of a line is the eighth part of its index, and bank F has no lines to write. -/
theorem State.writeLines_eq (s : State) (b : BankIdx) (dirSet dirs latchSet latches : BitVec 8) :
    s.writeLines b dirSet dirs latchSet latches = s.mapLines fun j y =>
      if j.val / 8 = b.val ∧ j.val < 40 then { y with
        latch := if latchSet.getLsbD (j.val % 8) then latches.getLsbD (j.val % 8) else y.latch
        direction := if dirSet.getLsbD (j.val % 8) then
            (if dirs.getLsbD (j.val % 8) then .output else .input) else y.direction }
      else y := by
  unfold State.writeLines
  refine congrArg s.mapLines (funext fun j => funext fun y => if_congr ?_ rfl rfl)
  simp [bankOf, inBankF, Fin.ext_iff]

theorem exec_linesWrite {rq : Request} {s : State} (ht : s.takes rq 6 = true) (b : BankIdx)
    (dirSet dirs latchSet latches : BitVec 8) (time : Option Nat) :
    exec (.linesWrite rq b dirSet dirs latchSet latches time) s = .next
      (((s.writeLines b dirSet dirs latchSet latches).writeDebounce b time).endEvent.answered rq .accepted
        (((s.writeLines b dirSet dirs latchSet latches).writeDebounce b time).endEvent.bankBody b)) := by
  change (Host.Outcome.next (request rq 6 (State.linesWriteReply b dirSet dirs latchSet latches time) s) : Result) = _
  rw [request_of_reply_take ht (withIndex_val b _), Event.finish_update]

/-- The expiry of a line's debounce timer. -/
theorem exec_debounceExpiry_stopped {s : State} {i : LineIdx} (h : (s.line i).timer = none ∨ s.inReset = true) :
    exec (.debounceExpiry i) s = .next s := by
  refine congrArg Host.Outcome.next ?_
  rcases h with ht | hr
  · exact occur_none (by simp [ht])
  · exact occur_held hr _

theorem Event.deliver_output {f : LineFn} (hf : f.isOutput = true) (rising : Bool) (ev : Event) :
    ev.deliver f rising = ev := by
  cases f <;> first | rfl | cases hf

/-- An expiry with no change of the level, or with no input function bound, delivers nothing. -/
theorem exec_debounceExpiry_silent {s : State} {i : LineIdx} {f : LineFn} (ht : (s.line i).timer.isSome = true)
    (hr : s.inReset = false) (h : (s.line i).raw = (s.line i).debounced ∨ (s.line i).binding = none
      ∨ ((s.line i).binding = some f ∧ f.isOutput = true)) :
    exec (.debounceExpiry i) s = .next (s.modLine i fun y => { y with debounced := y.raw, timer := none }).endEvent := by
  refine congrArg Host.Outcome.next ((occur_some hr ?_).trans (Event.finish_update _ s))
  simp only [ht, if_true]
  split
  case isTrue => rfl
  case isFalse hne =>
    rcases h with hd | hb | ⟨hb, hf⟩
    · exact absurd hd hne
    · rw [hb]
    · rw [hb]
      exact congrArg some (Event.deliver_output hf _ _)

/-- Settles O54, clause by clause. -/
theorem linesDriveDebounceAndRead : Obligations.LinesDriveDebounceAndRead := by
  intro rq b i f tp c ch dirSet dirs latchSet latches time level s l driven working shown written t
  have hcode : s.breaker.code = shown := Breaker.code_eq s.breaker
  refine ⟨fun ht => ?_, rfl, ⟨rfl, ?_⟩, ⟨State.lineOf_eq_some_iff, State.lineOf_eq_none_iff, State.bound_iff,
    State.level_of_lineOf, State.level_of_none⟩, rfl, s.command_openValve c, s.command_closeValve c, s.command_go,
    ?_, ?_, rfl, fun hp hm => State.command_of_safe ((State.plantSafe_iff.mp hp).resolve_left hm) tp c,
    State.pinLevel_bankF, State.pinLevel_commanded, State.pinLevel_latched, s.readValue_eq i,
    exec_debounceExpiry_stopped, exec_debounceExpiry_silent⟩
  · have hwritten : (s.writeLines b dirSet dirs latchSet latches).writeDebounce b time = t := by
      rw [State.writeLines_eq]
      exact State.writeDebounce_eq (State.mapLines_debounce ..) b time
    rw [exec_linesWrite ht, hwritten]
  · rw [State.refreshLines_line, State.refreshLine, debounceTimer_eq]
    rfl
  · rw [← hcode]; rfl
  · rw [← hcode]; rfl

end Sys2Proof.Machine
end

section
/-! Coverage and the settling tests, made in full: which entries become IN_FORCE and which passes leave service (R125,
R129 to R131, R139). -/

namespace Sys2Proof.Machine

/-! ## Coverage -/

theorem State.coversTip_iff {s : State} {e : EntryIdx} {t : TipIdx} : s.coversTip e t = true ↔
    (s.entry e).inUse = true ∧ (s.tip t).defined = true ∧ ((s.entry e).maskTips.getLsbD t = true
      ∨ ((s.entry e).kind = .entry ∧ (s.entry e).pass = some (s.tip t).pass ∧ (s.entry e).low ≤ (s.tip t).elevation)
      ∨ ((s.entry e).kind = .service ∧ (s.entry e).pass = some (s.tip t).pass)) := by
  simp only [State.coversTip, Bool.and_eq_true, Bool.or_eq_true, and_assoc]
  cases (s.entry e).kind <;> simp

theorem State.coversChute_iff {s : State} {e : EntryIdx} {c : ChuteIdx} : s.coversChute e c = true ↔
    (s.entry e).inUse = true ∧ (s.chute c).defined = true ∧ ((s.entry e).maskChutes.getLsbD c = true
      ∨ ((s.entry e).kind = .entry ∧ (s.entry e).pass = some (s.chute c).pass
        ∧ (s.chute c).elevation ≤ (s.entry e).high)
      ∨ ((s.entry e).kind = .service ∧ (s.entry e).pass = some (s.chute c).pass)) := by
  simp only [State.coversChute, Bool.and_eq_true, Bool.or_eq_true, and_assoc]
  cases (s.entry e).kind <;> simp

theorem State.coversStation_iff {s : State} {e : EntryIdx} {k : StationIdx} : s.coversStation e k = true ↔
    (s.bst k).defined = true ∧ s.coversTip e (s.bst k).tip = true := by
  rw [State.coversStation, Bool.and_eq_true]

theorem State.carriesBreaker_iff {s : State} {e : EntryIdx} : s.carriesBreaker e = true ↔
    (s.entry e).inUse = true ∧ (s.entry e).maskBreaker = true := by
  rw [State.carriesBreaker, Bool.and_eq_true]

/-- The breaker is at a station while it works on the job of that station. -/
theorem State.breakerAt_iff_current {s : State} {k : StationIdx} : s.breakerAt k = true ↔
    (s.breaker.state = .travelling ∨ s.breaker.state = .breaking) ∧ s.breaker.current.map Job.station = some k := by
  simp only [State.breakerAt, Bool.and_eq_true, decide_eq_true_eq]
  cases s.breaker.current <;> simp

theorem State.settled_iff_safe {s : State} {e : EntryIdx} : s.settled e = true ↔
    (∀ c, s.coversChute e c = true → (s.chute c).state = .closed ∧ s.level (.closedLimit c) = true)
      ∧ (∀ t, s.coversTip e t = true → (s.tip t).state ≠ .granted)
      ∧ (s.carriesBreaker e = true → s.breaker.state = .parked)
      ∧ ∀ k, s.coversStation e k = true → s.breakerAt k = false := by
  simp only [State.settled_iff, State.chuteSafe, State.closedHigh, Bool.and_eq_true, decide_eq_true_eq]

/-- Whether an entry is settled depends on the entry and the plant alone. -/
theorem State.settled_of_entry {s : State} {es : Vector Entry 24} {ps : Vector Pass 6} {e : EntryIdx}
    (h : es[e] = s.entry e) : ({ s with entries := es, passes := ps } : State).settled e = s.settled e := by
  have he : ({ s with entries := es, passes := ps } : State).entry e = s.entry e := h
  have ht (t : TipIdx) : ({ s with entries := es, passes := ps } : State).coversTip e t = s.coversTip e t := by
    simp only [State.coversTip, he]
    rfl
  have hc (c : ChuteIdx) : ({ s with entries := es, passes := ps } : State).coversChute e c = s.coversChute e c := by
    simp only [State.coversChute, he]
    rfl
  simp only [State.settled, State.coversStation, State.carriesBreaker, ht, hc, he]
  rfl

/-! ## A start of service that finds no grant -/

theorem Event.revokeWhere_of_none {which : TipIdx → Bool} (h : ∀ t, which t = false) (ev : Event) :
    ev.revokeWhere which = ev := by
  have hnil : (List.finRange 16).filter which = [] := List.filter_eq_nil_iff.mpr fun t _ => by simp [h t]
  rw [Event.revokeWhere, hnil, List.foldl_nil]

/-- Where no tip point of the pass is GRANTED, the start of service changes the pass alone. -/
theorem Event.startService_of_settled {ev : Event} {p : PassIdx}
    (h : ∀ t, ¬ ((ev.st.tip t).pass = p ∧ (ev.st.tip t).state = .granted)) :
    ev.startService p = ev.update (State.modPass p Pass.enterService) :=
  Event.revokeWhere_of_none (fun t => decide_eq_false (h t)) _

/-! ## The tests, one after another -/

/-- The pass is taken out of service by one of these entries (R139). -/
def State.startsService (s : State) (es : List EntryIdx) (p : PassIdx) : Bool :=
  !s.serviceInForce p && es.any fun o =>
    s.awaits o && decide ((s.entry o).kind = .service ∧ (s.entry o).pass = some p)

/-- After the settling tests of these entries. -/
structure Event.Tested (ev : Event) (es : List EntryIdx) (a : Event) : Prop where
  frame : a = { ev with st := { ev.st with entries := a.st.entries, passes := a.st.passes } }
  entry : ∀ o, a.st.entry o = if o ∈ es ∧ ev.st.awaits o = true then (ev.st.entry o).forced else ev.st.entry o
  pass : ∀ p, a.st.pass p = if ev.st.startsService es p = true then (ev.st.pass p).enterService else ev.st.pass p

theorem Event.Tested.settled {ev a : Event} {es : List EntryIdx} (h : ev.Tested es a) {e : EntryIdx} (he : e ∉ es) :
    a.st.settled e = ev.st.settled e := by
  have hst : a.st = { ev.st with entries := a.st.entries, passes := a.st.passes } := congrArg Event.st h.frame
  rw [hst]
  exact State.settled_of_entry ((h.entry e).trans (if_neg fun hh => he hh.1))

theorem Event.Tested.tip {ev a : Event} {es : List EntryIdx} (h : ev.Tested es a) (t : TipIdx) :
    a.st.tip t = ev.st.tip t := by
  rw [h.frame]
  rfl

theorem State.startsService_iff {s : State} {es : List EntryIdx} {p : PassIdx} : s.startsService es p = true ↔
    s.serviceInForce p = false ∧ ∃ o ∈ es, s.awaits o = true ∧ (s.entry o).kind = .service
      ∧ (s.entry o).pass = some p := by
  simp only [State.startsService, Bool.and_eq_true, Bool.not_eq_true', List.any_eq_true, decide_eq_true_eq]

theorem State.awaits_inUse {s : State} {e : EntryIdx} (h : s.awaits e = true) : (s.entry e).inUse = true := by
  simp only [State.awaits, Bool.and_eq_true] at h
  exact h.1.1

theorem State.awaits_settled {s : State} {e : EntryIdx} (h : s.awaits e = true) : s.settled e = true := by
  simp only [State.awaits, Bool.and_eq_true] at h
  exact h.2

/-- An entry serves the pass after the tests if it did before, or waited for it and was tested. -/
theorem Event.Tested.serves {ev a : Event} {es : List EntryIdx} (h : ev.Tested es a) (p : PassIdx) (o : EntryIdx) :
    (a.st.entry o).inUse = true ∧ (a.st.entry o).serves p
      ↔ ((ev.st.entry o).inUse = true ∧ (ev.st.entry o).serves p)
        ∨ (o ∈ es ∧ ev.st.awaits o = true ∧ (ev.st.entry o).kind = .service ∧ (ev.st.entry o).pass = some p) := by
  rw [h.entry o]
  by_cases ho : o ∈ es ∧ ev.st.awaits o = true
  · rw [if_pos ho]
    simp only [Entry.serves, Entry.forced, State.awaits_inUse ho.2, ho, true_and, and_true]
    exact ⟨.inr, fun hh => hh.elim (fun hs => ⟨hs.1, hs.2.1⟩) id⟩
  · rw [if_neg ho]
    exact ⟨.inl, fun hh => hh.resolve_right fun hr => ho ⟨hr.1, hr.2.1⟩⟩

/-- A SERVICE entry is IN_FORCE on a pass if one was before, or one of those tested became so. -/
theorem Event.Tested.serviceInForce {ev a : Event} {es : List EntryIdx} (h : ev.Tested es a) (p : PassIdx) :
    a.st.serviceInForce p = true ↔ ev.st.serviceInForce p = true ∨ ev.st.startsService es p = true := by
  rw [State.serviceInForce_iff, State.startsService_iff]
  simp only [h.serves p, exists_or, ← State.serviceInForce_iff]
  by_cases hs : ev.st.serviceInForce p = true
  · simp [hs]
  · simp [hs]

/-- One more pass started by an entry more. -/
theorem State.startsService_append (s : State) (es : List EntryIdx) (e : EntryIdx) (p : PassIdx) :
    s.startsService (es ++ [e]) p = (s.startsService es p || (!s.serviceInForce p && (s.awaits e
      && decide ((s.entry e).kind = .service ∧ (s.entry e).pass = some p)))) := by
  simp only [State.startsService, List.any_append, List.any_cons, List.any_nil, Bool.or_false, Bool.and_or_distrib_left]

/-- The next test, of an entry not tested yet. -/
theorem Event.Tested.test {ev a : Event} {es : List EntryIdx} (h : ev.Tested es a) {e : EntryIdx} (he : e ∉ es)
    (hd : ∀ t, (ev.st.tip t).state = .granted → (ev.st.tip t).defined = true) :
    ev.Tested (es ++ [e]) (a.settleTest e) := by
  have hentry : a.st.entry e = ev.st.entry e := (h.entry e).trans (if_neg fun hh => he hh.1)
  have hawaits : a.st.awaits e = ev.st.awaits e := by simp only [State.awaits, hentry, h.settled he]
  have hmem (o : EntryIdx) : (if o ∈ es ++ [e] ∧ ev.st.awaits o = true then (ev.st.entry o).forced else ev.st.entry o)
      = if o = e ∧ ev.st.awaits e = true then (ev.st.entry e).forced else a.st.entry o := by
    rw [h.entry o]
    by_cases ho : o = e
    · subst ho
      simp [he]
    · simp [ho]
  by_cases hw : ev.st.awaits e = true
  case neg =>
    have hstay : a.settleTest e = a := if_neg fun hh => hw (hawaits ▸ hh)
    rw [hstay]
    refine ⟨h.frame, fun o => ?_, fun p => ?_⟩
    · rw [hmem, if_neg fun hh => hw hh.2]
    · rw [State.startsService_append, Bool.eq_false_iff.mpr hw]
      simpa using h.pass p
  case pos =>
    have hforce : a.settleTest e = a.enterForce e := if_pos (hawaits.trans hw)
    have hforced (o : EntryIdx) : (a.st.modEntry e Entry.forced).entry o
        = if o ∈ es ++ [e] ∧ ev.st.awaits o = true then (ev.st.entry o).forced else ev.st.entry o := by
      rw [hmem, State.modEntry_entry, hentry]
      simp [hw]
    rw [hforce]
    rcases a.enterForce_cases e with ⟨heq, hother⟩ | ⟨p, hk, hp, hnone, heq⟩
    · rw [heq]
      refine ⟨?_, hforced, fun p => ?_⟩
      · rw [h.frame]; rfl
      · have hno : (!ev.st.serviceInForce p && decide ((ev.st.entry e).kind = .service
            ∧ (ev.st.entry e).pass = some p)) = true → ev.st.startsService es p = true := fun hh => by
          simp only [Bool.and_eq_true, Bool.not_eq_true', decide_eq_true_eq] at hh
          obtain ⟨hs, hk, hp⟩ := hh
          exact ((h.serviceInForce p).mp (hother p (hentry ▸ hk) (hentry ▸ hp))).resolve_left (by simp [hs])
        rw [State.startsService_append, hw, Bool.true_and, Bool.or_eq_left_iff_imp.mpr hno]
        exact h.pass p
    · have hstart := Event.startService_of_settled (ev := a.update (State.modEntry e Entry.forced)) (p := p) fun t => ?_
      · rw [heq, hstart]
        refine ⟨?_, hforced, fun o => ?_⟩
        · rw [h.frame]; rfl
        · rw [hentry] at hk hp
          have hnot : ev.st.serviceInForce p = false ∧ ev.st.startsService es p = false := by
            simpa [hnone] using (h.serviceInForce p).symm
          change (a.st.modPass p Pass.enterService).pass o = _
          rw [State.modPass_pass, State.startsService_append, hw, hk, hp, h.pass o, h.pass p]
          by_cases ho : o = p
          · subst ho
            simp [hnot]
          · simp [ho, Ne.symm ho]
      · change ¬ ((a.st.tip t).pass = p ∧ (a.st.tip t).state = .granted)
        rintro ⟨htp, hg⟩
        rw [h.tip t] at htp hg
        obtain ⟨-, htips, -⟩ := State.settled_iff.mp (State.awaits_settled hw)
        rw [hentry] at hk hp
        exact htips t (State.coversTip_iff.mpr ⟨State.awaits_inUse hw, hd t hg, .inr (.inr ⟨hk, htp ▸ hp⟩)⟩) hg

/-- The settling tests of distinct entries. -/
theorem Event.tested_foldl {ev : Event} (hd : ∀ t, (ev.st.tip t).state = .granted → (ev.st.tip t).defined = true)
    (es : List EntryIdx) (hn : es.Nodup) : ev.Tested es (es.foldl (fun ev e => ev.settleTest e) ev) := by
  induction es using List.reverseRecOn with
  | nil => exact ⟨rfl, fun o => by simp, fun p => by simp [State.startsService]⟩
  | append_singleton es e ih =>
    rw [List.nodup_append] at hn
    obtain ⟨hes, -, hne⟩ := hn
    rw [List.foldl_append]
    exact (ih hes).test (fun he => hne e he e (by simp) rfl) hd

/-- The settling tests of an event (R129). -/
theorem Event.settleTests_tested {ev : Event}
    (hd : ∀ t, (ev.st.tip t).state = .granted → (ev.st.tip t).defined = true) :
    ev.Tested ((List.finRange 24).filter fun e => decide (e ∈ ev.touched)) ev.settleTests :=
  Event.tested_foldl hd _ ((List.nodup_finRange 24).filter _)

theorem mem_touched {ev : Event} {o : EntryIdx} :
    o ∈ (List.finRange 24).filter (fun e => decide (e ∈ ev.touched)) ↔ o ∈ ev.touched := by
  simp

/-! ## The settle timer -/

/-- The expiry of the settle timer of a PENDING entry makes it LATE. -/
theorem exec_settleTimerExpiry {s : State} {e : EntryIdx} (hr : s.inReset = false) (hu : (s.entry e).inUse = true)
    (hp : (s.entry e).state = .pending) (ht : (s.entry e).timer.isSome = true) :
    exec (.settleTimerExpiry e) s = .next (s.modEntry e fun x =>
      { x with state := .late, timer := none, conds := raise .late x.conds }).endEvent :=
  congrArg Host.Outcome.next ((occur_some hr (if_pos ⟨hu, hp, ht⟩)).trans (Event.finish_update _ s))

theorem exec_settleTimerExpiry_stopped {s : State} {e : EntryIdx}
    (h : (s.entry e).inUse = false ∨ (s.entry e).state ≠ .pending ∨ (s.entry e).timer = none) :
    exec (.settleTimerExpiry e) s = .next s := by
  refine congrArg Host.Outcome.next (occur_none (if_neg fun hh => ?_))
  obtain ⟨hu, hp, ht⟩ := hh
  rcases h with h | h | h
  · simp [h] at hu
  · exact h hp
  · simp [h] at ht

/-- Settles O49, by one settling test after another. -/
theorem settlingTestsMakeEntriesInForce : Obligations.SettlingTestsMakeEntriesInForce := by
  intro ev e t c k s u settles started x
  have hsettles (o : EntryIdx) : settles o = true ↔
      o ∈ (List.finRange 24).filter (fun e => decide (e ∈ ev.touched)) ∧ ev.st.awaits o = true := by
    simp only [settles, State.awaits, Bool.and_eq_true, decide_eq_true_eq, mem_touched, and_assoc, s]
  have hstarted (p : PassIdx) : started p = true ↔ ev.st.startsService
      ((List.finRange 24).filter fun e => decide (e ∈ ev.touched)) p = true := by
    simp only [State.startsService_iff, started, Bool.and_eq_true, Bool.not_eq_true', List.any_eq_true,
      List.mem_finRange, true_and, hsettles, decide_eq_true_eq, and_assoc, s]
  refine ⟨State.coversTip_iff, State.coversChute_iff, State.coversStation_iff, State.carriesBreaker_iff,
    State.breakerAt_iff_current, State.settled_iff_safe, fun hd => ?_, fun hr =>
    ⟨exec_settleTimerExpiry hr, exec_settleTimerExpiry_stopped⟩⟩
  have h := Event.settleTests_tested hd
  exact ⟨h.frame, fun o => (h.entry o).trans (if_congr (hsettles o).symm rfl rfl),
    fun p => (h.pass p).trans (if_congr (hstarted p).symm rfl rfl)⟩

end Sys2Proof.Machine
end

section
/-! JOIN, LEAVE and CANCEL (R134 to R137). -/

namespace Sys2Proof.Machine

/-! ## What an event's end leaves of an entry -/

/-- An entry that becomes IN_FORCE changes itself alone among the entries. -/
theorem Event.enterForce_entry (i : EntryIdx) (ev : Event) (e : EntryIdx) :
    (ev.enterForce i).st.entry e = (ev.st.modEntry i Entry.forced).entry e := by
  have hforce : (ev.enterForce i).st.entries = (ev.st.modEntry i Entry.forced).entries := by
    rcases ev.enterForce_cases i with ⟨h, -⟩ | ⟨p, -, -, -, h⟩
    · rw [h]; rfl
    · rw [h]; exact Event.revokeWhere_entries _ _
  exact congrArg (fun v : Vector Entry 24 => v[e]) hforce

/-- An entry ends an event as it stood, or IN_FORCE. -/
theorem Event.finish_entry_cases (ev : Event) (e : EntryIdx) :
    ev.finish.entry e = ev.st.entry e ∨ ev.finish.entry e = (ev.st.entry e).forced := by
  refine Event.finish_induct (P := fun u => u.entry e = ev.st.entry e ∨ u.entry e = (ev.st.entry e).forced) ev
    ?_ ?_ ?_ ?_ ?_ (.inl rfl)
  · intro a i h
    rcases a.settleTest_cases i with hs | ⟨-, hw, -, hs⟩
    · rwa [hs]
    rw [hs]
    rw [Event.enterForce_entry, State.modEntry_entry]
    split
    case isFalse => exact h
    case isTrue hi =>
      subst hi
      refine .inr (h.elim (fun h => by rw [h]) fun h => absurd ?_ hw)
      rw [h]; rfl
  · intro u p t h _ _
    exact h
  · intro u c h
    rcases u.startTry_cases c with h' | ⟨-, -, -, ⟨-, h'⟩ | ⟨-, -, h'⟩ | ⟨-, -, h'⟩⟩ <;> rw [h'] <;> exact h
  · intro u h
    rcases u.chooseJob_cases with h' | ⟨j, -, -, h'⟩ <;> rw [h'] <;> exact h
  · intro u h
    rwa [State.endEvent_entry]

theorem Event.finish_holders (ev : Event) (e : EntryIdx) :
    (ev.finish.entry e).holders = (ev.st.entry e).holders := by
  rcases ev.finish_entry_cases e with h | h
  · rw [h]
  · rw [h]; rfl

/-! ## The new list of holders -/

/-- The end of the event that gives an entry its list of holders. -/
def State.withHolders (s : State) (e : EntryIdx) (tags : List Nat) : State :=
  Event.finish ⟨s.modEntry e fun y => { y with holders := tags }, [], [], false, [e]⟩

theorem Event.finish_holders_update (g : List Nat → List Nat) (s : State) (e : EntryIdx) :
    Event.finish (((Event.of s).update (State.modEntry e fun x => { x with holders := g x.holders })).touch [e])
      = s.withHolders e (g (s.entry e).holders) := by
  have h : (s.modEntry e fun x => { x with holders := g x.holders })
      = s.modEntry e fun x => { x with holders := g (s.entry e).holders } := State.modEntry_congr rfl
  exact congrArg (fun u => Event.finish ⟨u, [], [], false, [e]⟩) h

theorem State.withHolders_holders (s : State) (e : EntryIdx) (tags : List Nat) :
    ((s.withHolders e tags).entry e).holders = tags := by
  refine (Event.finish_holders _ e).trans ?_
  simp

theorem ClearanceState.code_byte (x : ClearanceState) : bigEndian 1 x.code = [match x with
    | .pending => (0 : Byte)
    | .late => 1
    | .inForce => 2] := by
  cases x <;> rfl

/-! ## The three requests -/

section
variable {rq : Request} {s : State} {e : EntryIdx} {tag : Nat}

theorem State.joinReply_of_free (hu : (s.entry e).inUse = false) : s.joinReply e tag = .no .noRecord :=
  (withIndex_val e _).trans (if_pos (by simp [hu]))

theorem State.leaveReply_of_free (hu : (s.entry e).inUse = false) : s.leaveReply e tag = .no .noRecord :=
  (withIndex_val e _).trans (if_pos (by simp [hu]))

theorem State.joinReply_of_inUse (hu : (s.entry e).inUse = true) : s.joinReply e tag =
    if badTag tag then .no .outOfRange
    else if tag ∈ (s.entry e).holders then .no .duplicate
    else if 4 ≤ (s.entry e).holders.length then .no .tableFull
    else .take (((Event.of s).update
        (State.modEntry e fun x => { x with holders := x.holders ++ [tag] })).touch [e])
      fun t => tagBytes (t.entry e).holders ++ bigEndian 1 (t.entry e).state.code :=
  (withIndex_val e _).trans (if_neg (by simp [hu]))

theorem State.leaveReply_of_inUse (hu : (s.entry e).inUse = true) : s.leaveReply e tag =
    if badTag tag then .no .outOfRange
    else if tag ∉ (s.entry e).holders then .no .notHolder
    else if (s.entry e).holders.erase tag = [] then .take ((Event.of s).retire e) fun _ => []
    else .take (((Event.of s).update
        (State.modEntry e fun x => { x with holders := x.holders.erase tag })).touch [e])
      fun t => tagBytes (t.entry e).holders :=
  (withIndex_val e _).trans (if_neg (by simp [hu]))

theorem badTag_of_outside (h : tag = 0 ∨ 65534 < tag) : badTag tag = true :=
  Bool.eq_true_of_not_eq_false fun hf => by
    have := badTag_eq_false_iff.mp hf
    omega

theorem badTag_of_inside (h1 : 1 ≤ tag) (h2 : tag ≤ 65534) : ¬ badTag tag = true := by
  simp [badTag_eq_false_iff.mpr ⟨h1, h2⟩]

theorem exec_join_no {status : Status} (ht : s.takes rq 3 = true) (h : s.joinReply e tag = .no status) :
    exec (.join rq e tag) s = .next (s.answered rq status []) :=
  congrArg Host.Outcome.next (request_of_reply_no ht h)

theorem exec_leave_no {status : Status} (ht : s.takes rq 3 = true) (h : s.leaveReply e tag = .no status) :
    exec (.leave rq e tag) s = .next (s.answered rq status []) :=
  congrArg Host.Outcome.next (request_of_reply_no ht h)

/-- A holder joins: its tag stands last in the list, and the entry makes its settling test. -/
theorem exec_join_taken (ht : s.takes rq 3 = true) (hu : (s.entry e).inUse = true) (hb : ¬ badTag tag = true)
    (hm : tag ∉ (s.entry e).holders) (hl : (s.entry e).holders.length < 4) :
    exec (.join rq e tag) s = .next ((s.withHolders e ((s.entry e).holders ++ [tag])).answered rq .accepted
      (tagBytes ((s.entry e).holders ++ [tag])
        ++ bigEndian 1 (((s.withHolders e ((s.entry e).holders ++ [tag])).entry e).state.code))) := by
  have hr := (State.joinReply_of_inUse (tag := tag) hu).trans
    ((if_neg hb).trans ((if_neg hm).trans (if_neg (not_le.mpr hl))))
  refine congrArg Host.Outcome.next ((request_of_reply_take ht hr).trans ?_)
  rw [Event.finish_holders_update (· ++ [tag]), State.withHolders_holders]

/-- A holder that is not the last leaves. -/
theorem exec_leave_taken (ht : s.takes rq 3 = true) (hu : (s.entry e).inUse = true) (hb : ¬ badTag tag = true)
    (hm : tag ∈ (s.entry e).holders) (hl : (s.entry e).holders ≠ [tag]) :
    exec (.leave rq e tag) s = .next ((s.withHolders e ((s.entry e).holders.erase tag)).answered rq .accepted
      (tagBytes ((s.entry e).holders.erase tag))) := by
  have hne : ¬ (s.entry e).holders.erase tag = [] := fun h =>
    (List.erase_eq_nil_iff.mp h).elim (fun hn => by simp [hn] at hm) hl
  have hr := (State.leaveReply_of_inUse (tag := tag) hu).trans
    ((if_neg hb).trans ((if_neg (not_not.mpr hm)).trans (if_neg hne)))
  refine congrArg Host.Outcome.next ((request_of_reply_take ht hr).trans ?_)
  rw [Event.finish_holders_update (·.erase tag), State.withHolders_holders]

/-- The last holder leaves, and the entry retires. -/
theorem exec_leave_last (ht : s.takes rq 3 = true) (hu : (s.entry e).inUse = true) (hb : ¬ badTag tag = true)
    (hl : (s.entry e).holders = [tag]) :
    exec (.leave rq e tag) s = .next (((Event.of s).retire e).finish.answered rq .accepted []) := by
  have hr := (State.leaveReply_of_inUse (tag := tag) hu).trans
    ((if_neg hb).trans ((if_neg (by simp [hl])).trans (if_pos (by simp [hl]))))
  exact congrArg Host.Outcome.next (request_of_reply_take ht hr)

theorem State.cancelReply_of_free (hu : (s.entry e).inUse = false) : s.cancelReply e = .no .noRecord :=
  (withIndex_val e _).trans (if_pos (by simp [hu]))

theorem State.cancelReply_of_inUse (hu : (s.entry e).inUse = true) : s.cancelReply e =
    if (s.entry e).state = .inForce then .no .inForce else .done ((Event.of s).retire e) :=
  (withIndex_val e _).trans (if_neg (by simp [hu]))

theorem exec_cancel_no {status : Status} (ht : s.takes rq 1 = true) (h : s.cancelReply e = .no status) :
    exec (.cancel rq e) s = .next (s.answered rq status []) :=
  congrArg Host.Outcome.next (request_of_reply_no ht h)

theorem exec_cancel_taken (ht : s.takes rq 1 = true) (hu : (s.entry e).inUse = true)
    (hs : (s.entry e).state ≠ .inForce) :
    exec (.cancel rq e) s = .next (((Event.of s).retire e).finish.answered rq .accepted []) := by
  have hr : s.cancelReply e = .take ((Event.of s).retire e) fun _ => [] :=
    (State.cancelReply_of_inUse hu).trans (if_neg hs)
  exact congrArg Host.Outcome.next (request_of_reply_take ht hr)

end

/-- Settles O47, by the checks of each request in their order. -/
theorem holdersJoinLeaveAndCancel : Obligations.HoldersJoinLeaveAndCancel := by
  intro rq e tag s x held bytes u shown
  refine ⟨fun ht => ⟨fun hu => ⟨?_, ?_⟩, fun hu hb => ⟨?_, ?_⟩, fun hu h1 h2 => ?_⟩,
    fun ht => ⟨fun hu => ?_, fun hu hs => ?_, fun hu hs => exec_cancel_taken ht hu hs⟩⟩
  · exact exec_join_no ht (State.joinReply_of_free hu)
  · exact exec_leave_no ht (State.leaveReply_of_free hu)
  · exact exec_join_no ht ((State.joinReply_of_inUse hu).trans (if_pos (badTag_of_outside hb)))
  · exact exec_leave_no ht ((State.leaveReply_of_inUse hu).trans (if_pos (badTag_of_outside hb)))
  · have hb := badTag_of_inside h1 h2
    refine ⟨fun hm => ?_, fun hm hl => ?_, fun hm hl => ?_, fun hm => ?_, fun hm hl => ?_, exec_leave_last ht hu hb⟩
    · exact exec_join_no ht ((State.joinReply_of_inUse hu).trans ((if_neg hb).trans (if_pos hm)))
    · exact exec_join_no ht ((State.joinReply_of_inUse hu).trans ((if_neg hb).trans ((if_neg hm).trans (if_pos hl))))
    · rw [exec_join_taken ht hu hb hm hl, tagBytes_eq, ClearanceState.code_byte]
      rfl
    · exact exec_leave_no ht ((State.leaveReply_of_inUse hu).trans ((if_neg hb).trans (if_pos hm)))
    · rw [exec_leave_taken ht hu hb hm hl, tagBytes_eq]
      rfl
  · exact exec_cancel_no ht (State.cancelReply_of_free hu)
  · exact exec_cancel_no ht ((State.cancelReply_of_inUse hu).trans (if_pos hs))

end Sys2Proof.Machine
end

section
/-! What a retirement does, and the plant it triggers (R138). -/

namespace Sys2Proof.Machine

section
variable {s : State} {e : EntryIdx}

/-! ## What a retirement triggers -/

theorem Event.foldl_triggerArbiter_eq (f : TipIdx → PassIdx) (ts : List TipIdx) (ev : Event) :
    ts.foldl (fun ev t => ev.triggerArbiter (f t)) ev = { ev with arb := (ts.map f).reverse ++ ev.arb } := by
  induction ts generalizing ev with
  | nil => rfl
  | cons t ts ih =>
    rw [List.foldl_cons, ih, List.map_cons, List.reverse_cons, List.append_assoc]
    rfl

/-- The entry that is freed covers nothing. -/
theorem State.freed_coversTip (o : EntryIdx) (t : TipIdx) :
    (s.modEntry e fun _ => Entry.reset).coversTip o t = (decide (o ≠ e) && s.coversTip o t) := by
  by_cases ho : o = e
  · subst ho
    simp [State.coversTip, Entry.reset]
  · simp only [State.coversTip, State.modEntry_entry_ne _ _ _ ho, State.modEntry_tip, decide_eq_true ho, Bool.true_and]

theorem State.freed_coversChute (o : EntryIdx) (c : ChuteIdx) :
    (s.modEntry e fun _ => Entry.reset).coversChute o c = (decide (o ≠ e) && s.coversChute o c) := by
  by_cases ho : o = e
  · subst ho
    simp [State.coversChute, Entry.reset]
  · simp only [State.coversChute, State.modEntry_entry_ne _ _ _ ho, State.modEntry_chute, decide_eq_true ho, Bool.true_and]

/-- No entry but the one freed covers the tip point. -/
theorem State.freed_tipCovered {t : TipIdx} : (s.modEntry e fun _ => Entry.reset).tipCovered t = false
    ↔ ∀ o, o ≠ e → s.coversTip o t = false := by
  simp only [State.tipCovered, State.freed_coversTip, List.any_eq_false, List.mem_finRange, true_imp_iff]
  simp

theorem State.freed_chuteCovered {c : ChuteIdx} : (s.modEntry e fun _ => Entry.reset).chuteCovered c = false
    ↔ ∀ o, o ≠ e → s.coversChute o c = false := by
  simp only [State.chuteCovered, State.freed_coversChute, List.any_eq_false, List.mem_finRange, true_imp_iff]
  simp

/-- A retirement clears the entry, then triggers what it alone covered. -/
theorem Event.retire_of (s : State) (e : EntryIdx) : (Event.of s).retire e =
    ⟨((Event.of s).cleared e).st,
      (((List.finRange 16).filter fun t => s.coversTip e t
        && !(s.modEntry e fun _ => Entry.reset).tipCovered t).map fun t => (s.tip t).pass).reverse
          ++ ((Event.of s).cleared e).arb,
      ((List.finRange 8).filter fun c => s.coversChute e c && !(s.modEntry e fun _ => Entry.reset).chuteCovered c)
        ++ ((Event.of s).cleared e).tries,
      (s.carriesBreaker e || (List.finRange 4).any (s.coversStation e)) || ((Event.of s).cleared e).choice,
      ((Event.of s).cleared e).touched⟩ := by
  have hfold : (Event.of s).retire e =
      if (s.carriesBreaker e || (List.finRange 4).any (s.coversStation e)) = true then
        ((((List.finRange 16).filter fun t => s.coversTip e t
          && !(s.modEntry e fun _ => Entry.reset).tipCovered t).foldl (fun ev t => ev.triggerArbiter (s.tip t).pass)
          ((Event.of s).cleared e)).triggerTries ((List.finRange 8).filter fun c => s.coversChute e c
            && !(s.modEntry e fun _ => Entry.reset).chuteCovered c)).triggerChoice
      else
        (((List.finRange 16).filter fun t => s.coversTip e t
          && !(s.modEntry e fun _ => Entry.reset).tipCovered t).foldl (fun ev t => ev.triggerArbiter (s.tip t).pass)
          ((Event.of s).cleared e)).triggerTries ((List.finRange 8).filter fun c => s.coversChute e c
            && !(s.modEntry e fun _ => Entry.reset).chuteCovered c) := rfl
  rw [hfold, Event.foldl_triggerArbiter_eq]
  split
  case isTrue h => rw [h]; rfl
  case isFalse h => rw [Bool.eq_false_iff.mpr h]; rfl

/-! ## The end of service -/

theorem Pass.leaveService_eq (q : Pass) : q.leaveService =
    if q.amended = true then { q with state := .unknown, known := false, d := 0, amended := false }
    else if q.known = true then { q with state := .running, r := q.e, d := 0, amended := false }
    else { q with state := .unknown, amended := false } := rfl

/-- A pass enters RUNNING from service where it was not amended and its estimate is known. -/
theorem Pass.leaveService_running {q : Pass} :
    q.leaveService.state = .running ↔ (!q.amended && q.known) = true := by
  unfold Pass.leaveService
  cases q.amended <;> cases q.known <;> simp

theorem Event.endService_of (s : State) (p : PassIdx) : (Event.of s).endService p =
    if (!(s.pass p).amended && (s.pass p).known) = true then
      ⟨s.modPass p Pass.leaveService, [p], s.chutesOf p, false, []⟩
    else Event.of (s.modPass p Pass.leaveService) := by
  unfold Event.endService
  dsimp only
  have hq : ((Event.of s).update (State.modPass p Pass.leaveService)).st.pass p = (s.pass p).leaveService :=
    State.modPass_pass_self ..
  rw [hq]
  refine if_congr Pass.leaveService_running ?_ rfl
  simp [Event.handOn, Event.triggerArbiter, Event.triggerTries, Event.update, Event.of, State.chutesOf]

/-- The freed entry serves its pass no more; the others serve as before. -/
theorem State.freed_serviceInForce {p : PassIdx} : (s.modEntry e fun _ => Entry.reset).serviceInForce p = false
    ↔ ∀ o, o ≠ e → ¬ ((s.entry o).inUse = true ∧ (s.entry o).serves p) := by
  rw [← Bool.not_eq_true, State.serviceInForce_iff, not_exists]
  refine forall_congr' fun o => ?_
  by_cases ho : o = e
  · subst ho
    simp [Entry.reset]
  · rw [State.modEntry_entry_ne _ _ _ ho]
    simp [ho]

/-- The pass is given back by the retirement of the entry (R22, R138). -/
def State.endsService (s : State) (e : EntryIdx) (p : PassIdx) : Prop :=
  (s.entry e).serves p ∧ (s.modEntry e fun _ => Entry.reset).serviceInForce p = false

/-- A retirement gives back no pass or one. -/
theorem Event.cleared_of (s : State) (e : EntryIdx) :
    ((Event.of s).cleared e = Event.of (s.modEntry e fun _ => Entry.reset) ∧ ∀ p, ¬ s.endsService e p)
      ∨ ∃ p, (∀ q, s.endsService e q ↔ q = p) ∧ (Event.of s).cleared e
        = (Event.of (s.modEntry e fun _ => Entry.reset)).endService p := by
  rcases (Event.of s).cleared_cases e with ⟨h, hkept⟩ | ⟨p, hp, hlast, h⟩
  · exact .inl ⟨h, fun p ⟨hs, hn⟩ => Bool.false_ne_true (hn.symm.trans (hkept p hs))⟩
  · refine .inr ⟨p, fun q => ⟨fun ⟨hs, _⟩ => ?_, fun hq => hq ▸ ⟨hp, hlast⟩⟩, h⟩
    exact Option.some.inj (hs.2.1.symm.trans hp.2.1)

/-- What the clearing does to the records. -/
theorem Event.cleared_st (s : State) (e : EntryIdx) :
    ((Event.of s).cleared e).st = { s with
        entries := (s.modEntry e fun _ => Entry.reset).entries, passes := ((Event.of s).cleared e).st.passes }
      ∧ ∀ p, (s.endsService e p → ((Event.of s).cleared e).st.pass p = (s.pass p).leaveService)
        ∧ (¬ s.endsService e p → ((Event.of s).cleared e).st.pass p = s.pass p) := by
  rcases Event.cleared_of s e with ⟨h, hno⟩ | ⟨p, hp, h⟩
  · rw [h]
    exact ⟨rfl, fun p => ⟨fun hs => absurd hs (hno p), fun _ => rfl⟩⟩
  · rw [h, Event.endService_st]
    refine ⟨rfl, fun q => ⟨fun hs => ?_, fun hs => ?_⟩⟩
    · obtain rfl := (hp q).mp hs
      exact State.modPass_pass_self ..
    · exact State.modPass_pass_ne _ _ _ fun hq => hs ((hp q).mpr hq)

/-- What the clearing triggers: the arbiter and the chutes of a pass given back to RUNNING. -/
theorem Event.cleared_triggers (s : State) (e : EntryIdx) :
    (∀ p, p ∈ ((Event.of s).cleared e).arb ↔ s.endsService e p ∧ (!(s.pass p).amended && (s.pass p).known) = true)
      ∧ (∀ c, c ∈ ((Event.of s).cleared e).tries ↔ ∃ p, (s.endsService e p
        ∧ (!(s.pass p).amended && (s.pass p).known) = true) ∧ c ∈ s.chutesOf p)
      ∧ ((Event.of s).cleared e).choice = false ∧ ((Event.of s).cleared e).touched = [] := by
  rcases Event.cleared_of s e with ⟨h, hno⟩ | ⟨p, hp, h⟩
  · rw [h]
    exact ⟨fun p => by simp [Event.of, hno p], fun c => by simp [Event.of, hno], rfl, rfl⟩
  · rw [h, Event.endService_of]
    simp only [hp, State.modEntry_pass]
    split
    case isTrue hb =>
      refine ⟨fun q => ?_, fun c => ?_, rfl, rfl⟩
      · rw [List.mem_singleton]
        exact ⟨fun hq => ⟨hq, hq ▸ hb⟩, And.left⟩
      · exact ⟨fun hc => ⟨p, ⟨rfl, hb⟩, hc⟩, fun ⟨q, ⟨hq, _⟩, hc⟩ => hq ▸ hc⟩
    case isFalse hb =>
      refine ⟨fun q => ?_, fun c => ?_, rfl, rfl⟩
      · exact ⟨fun hq => absurd hq List.not_mem_nil, fun ⟨hq, hh⟩ => absurd (hq ▸ hh) hb⟩
      · exact ⟨fun hc => absurd hc List.not_mem_nil, fun ⟨q, ⟨hq, hh⟩, _⟩ => absurd (hq ▸ hh) hb⟩

end

/-- Settles O48, from the clearing of the entry and what it triggers. -/
theorem retirementFreesAndTriggers : Obligations.RetirementFreesAndTriggers := by
  intro s e hu x u ended back
  have hended (p : PassIdx) : ended p = true ↔ s.endsService e p := by
    simp only [ended, x, State.endsService, State.freed_serviceInForce, Entry.serves, Bool.and_eq_true,
      decide_eq_true_eq, List.all_eq_true, List.mem_finRange, true_imp_iff, Bool.or_eq_true, Bool.not_eq_true',
      or_iff_not_imp_left]
    simp only [← Bool.not_eq_true, Bool.and_eq_true, decide_eq_true_eq]
  have hback (p : PassIdx) : back p = true ↔ s.endsService e p ∧ (!(s.pass p).amended && (s.pass p).known) = true := by
    simp only [back, Bool.and_eq_true, hended, and_assoc]
  obtain ⟨hst, hpass⟩ := Event.cleared_st s e
  obtain ⟨harb, htries, hchoice, htouched⟩ := Event.cleared_triggers s e
  have hu : u = _ := Event.retire_of s e
  have hentry (o : EntryIdx) : u.st.entry o = (s.modEntry e fun _ => Entry.reset).entry o := by
    rw [hu, hst]
    rfl
  refine ⟨?_, (hentry e).trans (State.modEntry_entry_self ..), fun o ho =>
    (hentry o).trans (State.modEntry_entry_ne _ _ _ ho), fun p => ?_, fun p => ?_, fun c => ?_, ?_, ?_⟩
  · rw [hu, hst]
  · rw [hu]
    by_cases hp : s.endsService e p
    · rw [if_pos ((hended p).mpr hp)]
      exact ((hpass p).1 hp).trans (Pass.leaveService_eq _)
    · rw [if_neg fun h => hp ((hended p).mp h)]
      exact (hpass p).2 hp
  · rw [hu, hback]
    simp only [List.mem_append, List.mem_reverse, List.mem_map, List.mem_filter, List.mem_finRange, true_and, harb,
      Bool.and_eq_true, Bool.not_eq_true', State.freed_tipCovered, and_assoc]
    exact or_comm
  · rw [hu]
    simp only [List.mem_append, List.mem_filter, List.mem_finRange, true_and, htries, hback,
      Bool.and_eq_true, Bool.not_eq_true', State.freed_chuteCovered, and_assoc]
    exact or_comm
  · rw [hu, hchoice]
    simp
  · rw [hu]
    exact htouched

end Sys2Proof.Machine
end

section
/-! START with its checks, RESUME and SETUP (R159, R160, R163, R164). -/

namespace Sys2Proof.Machine

/-! ## The first record that fails -/

/-- A record found beyond, numbered below. -/
theorem find?_map_or_of_none {n k : Nat} {P : Fin n → Bool} (h : ∀ i, P i = false) (rest : Option (Nat × Nat)) :
    (((List.finRange n).find? P).map (fun i => (k, i.val)) <|> rest) = rest := by
  rw [List.find?_eq_none.mpr fun i _ => by simp [h i]]
  rfl

/-- The first record of the type numbered `k` fails, where no later check names that type. -/
theorem find?_map_or_eq_some {n k : Nat} {P : Fin n → Bool} {rest : Option (Nat × Nat)} (h : ∀ j, rest ≠ some (k, j))
    (i : Fin n) : (((List.finRange n).find? P).map (fun i => (k, i.val)) <|> rest) = some (k, i.val)
      ↔ P i = true ∧ ∀ r, r < i → P r = false := by
  have hfirst : (P i = true ∧ ∀ r, r < i → P r = false) ↔ (List.finRange n).find? P = some i := by
    rw [find?_finRange_eq_some_iff]
    refine and_congr_right fun _ => forall_congr' fun r => ⟨fun hr hp => ?_, fun hr hlt => ?_⟩
    · exact not_lt.mp fun hlt => by simp [hr hlt] at hp
    · exact Bool.eq_false_iff.mpr fun hp => absurd (hr hp) (not_le.mpr hlt)
  rw [hfirst]
  cases (List.finRange n).find? P with
  | none => simpa using h i
  | some j => simp [Fin.ext_iff]

/-- The checks of a type number name no other type. -/
theorem find?_map_or_ne {n k m : Nat} {P : Fin n → Bool} {rest : Option (Nat × Nat)} (hk : k ≠ m)
    (h : ∀ j, rest ≠ some (m, j)) (j : Nat) :
    (((List.finRange n).find? P).map (fun i => (k, i.val)) <|> rest) ≠ some (m, j) := by
  cases (List.finRange n).find? P with
  | none => simpa using h j
  | some i => simp [hk]

namespace State

/-- A pass fails START's check: its profile does not fill its height (R159). -/
def passFails (s : State) (p : PassIdx) : Bool :=
  (s.pass p).defined && decide (profileHeight (s.pass p).profile ≠ (s.pass p).height)

/-- A breaker station fails START's check: its tip point's grizzly is not it (R159). -/
def stationFails (s : State) (k : StationIdx) : Bool :=
  (s.bst k).defined && decide ((s.tip (s.bst k).tip).grizzly ≠ some k)

/-- The breaker fails START's check: a station is defined and a line of the breaker is not bound (R159). -/
def breakerFails (s : State) : Bool := (List.finRange 4).any (fun k => (s.bst k).defined) && !s.breakerWired

/-- The check of the station itself. -/
def estopFault (s : State) : Option (Nat × Nat) := if s.bound .estop then none else some (7, 0)

def breakerFault (s : State) : Option (Nat × Nat) :=
  (if s.breakerFails then some (4, 0) else none) <|> s.estopFault

def stationFault (s : State) : Option (Nat × Nat) :=
  ((List.finRange 4).find? s.stationFails).map (fun k => (3, k.val)) <|> s.breakerFault

def chuteFault (s : State) : Option (Nat × Nat) :=
  ((List.finRange 8).find? s.chuteFails).map (fun c => (2, c.val)) <|> s.stationFault

def tipFault (s : State) : Option (Nat × Nat) :=
  ((List.finRange 16).find? s.tipFails).map (fun t => (1, t.val)) <|> s.chuteFault

/-- START makes its checks record type by record type. -/
theorem geometryFault_eq (s : State) : s.geometryFault =
    (((List.finRange 6).find? s.passFails).map (fun p => (0, p.val)) <|> s.tipFault) := rfl

theorem estopFault_ne {s : State} {k : Nat} (hk : k < 7) (j : Nat) : s.estopFault ≠ some (k, j) := by
  unfold estopFault
  split
  · simp
  · simp; omega

theorem breakerFault_ne {s : State} {k : Nat} (hk : k < 4) (j : Nat) : s.breakerFault ≠ some (k, j) := by
  unfold breakerFault
  split
  · simp; omega
  · simpa using estopFault_ne (by omega) j

theorem stationFault_ne {s : State} {k : Nat} (hk : k < 3) (j : Nat) : s.stationFault ≠ some (k, j) :=
  find?_map_or_ne (by omega) (breakerFault_ne (by omega)) j

theorem chuteFault_ne {s : State} {k : Nat} (hk : k < 2) (j : Nat) : s.chuteFault ≠ some (k, j) :=
  find?_map_or_ne (by omega) (stationFault_ne (by omega)) j

theorem tipFault_ne {s : State} {k : Nat} (hk : k < 1) (j : Nat) : s.tipFault ≠ some (k, j) :=
  find?_map_or_ne (by omega) (chuteFault_ne (by omega)) j

theorem breakerFault_iff {s : State} : s.breakerFault = some (4, 0) ↔ s.breakerFails = true := by
  unfold breakerFault
  split
  case isTrue h => simp [h]
  case isFalse h => simpa [h] using estopFault_ne (s := s) (k := 4) (by omega) 0

theorem breakerFault_of_wired {s : State} (h : s.breakerFails = false) : s.breakerFault = s.estopFault := by
  rw [breakerFault, h]
  rfl

theorem estopFault_iff {s : State} : (s.estopFault = some (7, 0) ↔ s.bound .estop = false)
    ∧ (s.estopFault = none ↔ s.bound .estop = true) := by
  unfold estopFault
  cases s.bound .estop <;> simp

theorem breakerFails_iff {s : State} : s.breakerFails = true ↔ (∃ k, (s.bst k).defined = true)
    ∧ ∃ f ∈ [LineFn.go, .code0, .code1, .inPosition, .grizzlyClear, .parked], s.bound f = false := by
  simp only [breakerFails, breakerWired, Bool.and_eq_true, List.any_eq_true, List.mem_finRange, true_and,
    Bool.not_eq_true', Bool.and_eq_false_iff, List.mem_cons, List.not_mem_nil, or_false, exists_eq_or_imp,
    exists_eq_left, or_assoc]

end State

/-! ## The modes -/

/-- The end of an event leaves the station's record. -/
theorem Event.finish_station (ev : Event) : ev.finish.station = ev.st.station := by
  rw [Event.finish_acted, State.endEvent_station, (ev.acted_endsAs).frame]

/-- The station enters RUN, and every arbiter, every try and the choice follow. -/
def State.entered (s : State) : State := Event.finish ⟨s, List.finRange 6, List.finRange 8, true, []⟩

/-- The station with a mode and halt causes. -/
def State.inMode (s : State) (m : Mode) (causes : HaltCauses) : State :=
  s.modStation fun x => { x with mode := m, causes := causes }

theorem State.modStation_congr {s : State} {f g : StationControl → StationControl} (h : f s.station = g s.station) :
    s.modStation f = s.modStation g := by
  rw [State.modStation, h, State.modStation]

theorem Pass.start_eq (q : Pass) : q.start =
    if q.defined = true ∧ q.state ≠ .outOfService then
      if q.known then { q with state := .running, r := if q.state = .running then q.r else q.e, d := 0 }
      else { q with state := .unknown }
    else q := by
  simp [Pass.start]

theorem State.entered_station (s : State) : s.entered.station = s.station := Event.finish_station _

section
variable {rq : Request} {s : State} (ht : s.takes rq 0 = true)
include ht

theorem exec_start_no {status : Status} (h : s.startReply = .no status) :
    exec (.start rq) s = .next (s.answered rq status []) :=
  congrArg Host.Outcome.next (request_of_reply_no ht h)

theorem exec_start_geometry {type index : Nat} (hm : s.station.mode = .setup)
    (hg : s.geometryFault = some (type, index)) :
    exec (.start rq) s = .next (s.answered rq .geometry (bigEndian 1 type ++ bigEndian 1 index)) := by
  have hr : s.startReply = .refuse .geometry (bigEndian 1 type ++ bigEndian 1 index) :=
    (if_neg (not_not.mpr hm)).trans (by rw [hg])
  change (Host.Outcome.next (request rq 0 State.startReply s) : Result) = _
  rw [request_of_takes ht, hr]
  rfl

theorem exec_start_taken (hm : s.station.mode = .setup) (hg : s.geometryFault = none) (hl : s.level .estop = false)
    (hc : s.station.causes = HaltCauses.empty) :
    exec (.start rq) s = .next (((s.inMode .run HaltCauses.empty).mapPasses fun _ q => q.start).entered.answered rq
      .accepted (bigEndian 1 1)) := by
  have hr : s.startReply = .take (Event.of s).start fun t => bigEndian 1 t.station.mode.code :=
    (if_neg (not_not.mpr hm)).trans (by rw [hg]; exact if_neg (by simp [hl, hc]))
  have hstation : (s.modStation fun x => { x with mode := .run }) = s.inMode .run HaltCauses.empty :=
    State.modStation_congr (by rw [← hc])
  have hfinish : (Event.of s).start.finish = ((s.inMode .run HaltCauses.empty).mapPasses fun _ q => q.start).entered :=
    congrArg (fun u : State => (u.mapPasses fun _ q => q.start).entered) hstation
  refine congrArg Host.Outcome.next ((request_of_reply_take ht hr).trans ?_)
  rw [hfinish, State.entered_station]
  rfl

theorem exec_resume_taken {ev : Event} (hl : s.level .estop = false) (hev : (match s.station.mode with
      | .halted => (((Event.of s).update (State.modStation fun x => { x with causes := HaltCauses.empty })).update
          (State.modStation fun x => { x with mode := .run })).enterRun
      | .setup => (Event.of s).update (State.modStation fun x => { x with causes := HaltCauses.empty })
      | .run => Event.of s) = ev) :
    exec (.resume rq) s = .next (ev.finish.answered rq .accepted
      (bigEndian 1 ev.st.station.mode.code ++ ev.st.station.causes.byte)) := by
  have hr : s.resumeReply = .take ev State.modeAndCauses := by
    rw [← hev]
    exact if_neg (by simp [hl])
  refine congrArg Host.Outcome.next ((request_of_reply_take ht hr).trans ?_)
  rw [State.modeAndCauses, Event.finish_station]

theorem exec_resume_halted (hl : s.level .estop = false) (hm : s.station.mode = .halted) :
    exec (.resume rq) s = .next ((s.inMode .run HaltCauses.empty).entered.answered rq .accepted
      (bigEndian 1 1 ++ HaltCauses.empty.byte)) :=
  exec_resume_taken ht hl (by rw [hm]; rfl)

theorem exec_resume_setup (hl : s.level .estop = false) (hm : s.station.mode = .setup) :
    exec (.resume rq) s = .next ((s.inMode .setup HaltCauses.empty).endEvent.answered rq .accepted
      (bigEndian 1 0 ++ HaltCauses.empty.byte)) := by
  have hstation : (s.modStation fun x => { x with causes := HaltCauses.empty }) = s.inMode .setup HaltCauses.empty :=
    State.modStation_congr (by rw [← hm])
  have hev : (Event.of s).update (State.modStation fun x => { x with causes := HaltCauses.empty })
      = Event.of (s.inMode .setup HaltCauses.empty) := congrArg Event.of hstation
  have h := exec_resume_taken (ev := Event.of (s.inMode .setup HaltCauses.empty)) ht hl (by rw [hm]; exact hev)
  rw [Event.finish_of] at h
  exact h

theorem exec_resume_run (hl : s.level .estop = false) (hm : s.station.mode = .run) :
    exec (.resume rq) s = .next (s.endEvent.answered rq .accepted (bigEndian 1 1 ++ s.station.causes.byte)) := by
  have h := exec_resume_taken (ev := Event.of s) ht hl (by rw [hm])
  have hst : (Event.of s).st = s := rfl
  rw [Event.finish_of, hst, hm] at h
  exact h

theorem exec_setup_taken (hm : s.station.mode = .halted) :
    exec (.setup rq) s = .next (s.enterSetup.endEvent.answered rq .accepted (bigEndian 1 0)) := by
  have hr : s.setupReply = .take ((Event.of s).update State.enterSetup) fun t => bigEndian 1 t.station.mode.code :=
    if_neg (not_not.mpr hm)
  refine congrArg Host.Outcome.next ((request_of_reply_take ht hr).trans ?_)
  rw [Event.finish_update, State.endEvent_station]
  rfl

end

/-- Settles O50, request by request, with the checks of START record type by record type. -/
theorem startResumeAndSetupChangeTheMode : Obligations.StartResumeAndSetupChangeTheMode := by
  intro rq type index s ht mode entered causes clear passBad tipBad chuteBad stationBad breakerBad
  have hpass (h : ∀ p, passBad p = false) : s.geometryFault = s.tipFault :=
    (State.geometryFault_eq s).trans (find?_map_or_of_none h _)
  have htip (h : ∀ t, tipBad t = false) : s.tipFault = s.chuteFault := find?_map_or_of_none h _
  have hchute (h : ∀ c, chuteBad c = false) : s.chuteFault = s.stationFault := find?_map_or_of_none h _
  have hstation (h : ∀ k, stationBad k = false) : s.stationFault = s.breakerFault := find?_map_or_of_none h _
  have hbreaker : s.breakerFails = true ↔ breakerBad := State.breakerFails_iff
  refine ⟨fun hm => exec_start_no ht (if_pos hm), fun hm => ⟨exec_start_geometry ht hm, fun hg hs => ?_,
    fun hg hl hc => ?_⟩, ⟨find?_map_or_eq_some (State.tipFault_ne (by omega)), fun h0 => ?_⟩, fun hl => ?_,
    fun hl => ⟨exec_resume_halted ht hl, exec_resume_setup ht hl, exec_resume_run ht hl⟩, fun hm => ?_,
    exec_setup_taken ht⟩
  · refine exec_start_no ht ((if_neg (not_not.mpr hm)).trans ?_)
    rw [hg]
    exact if_pos (by rw [Bool.or_eq_true, decide_eq_true_eq]; exact hs)
  · refine (exec_start_taken ht hm hg hl hc).trans ?_
    rw [show (fun (_ : PassIdx) (q : Pass) => q.start) = _ from funext fun _ => funext Pass.start_eq]
    rfl
  · rw [hpass h0]
    refine ⟨find?_map_or_eq_some (State.chuteFault_ne (by omega)), fun h1 => ?_⟩
    rw [htip h1]
    refine ⟨find?_map_or_eq_some (State.stationFault_ne (by omega)), fun h2 => ?_⟩
    rw [hchute h2]
    refine ⟨find?_map_or_eq_some (State.breakerFault_ne (by omega)), fun h3 => ?_⟩
    rw [hstation h3]
    refine ⟨State.breakerFault_iff.trans hbreaker, fun hb => ?_⟩
    rw [State.breakerFault_of_wired (Bool.eq_false_iff.mpr fun h => hb (hbreaker.mp h))]
    exact State.estopFault_iff
  · exact congrArg Host.Outcome.next (request_of_reply_no ht (if_pos hl))
  · exact congrArg Host.Outcome.next (request_of_reply_no ht (if_pos hm))

end Sys2Proof.Machine
end

section
/-! A hang: the revocations and the aborts of one event, one after the other (R14, R66, R67, R93). -/

namespace Sys2Proof.Machine

/-! ## The revocations and then the aborts of one event -/

/-- The tip points chosen lose their grants, then the gates chosen are aborted. -/
def Event.stop (tips : TipIdx → Bool) (gates : ChuteIdx → Bool) (ev : Event) : Event :=
  (ev.revokeWhere tips).abortWhere gates

/-- The volume the aborts of the chosen gates draw from a pass (R93). -/
def State.drawn (s : State) (gates : ChuteIdx → Bool) (p : PassIdx) : Nat :=
  ((List.finRange 8).map fun c : ChuteIdx =>
    if gates c ∧ (s.chute c).state = .holding ∧ (s.chute c).pass = p then (s.chute c).volume else 0).sum

section
variable (s : State) (tips : TipIdx → Bool) (gates : ChuteIdx → Bool)

theorem State.drawn_eq_zero {s : State} {gates : ChuteIdx → Bool} {p : PassIdx}
    (h : ∀ c, ¬ (gates c = true ∧ (s.chute c).state = .holding ∧ (s.chute c).pass = p)) : s.drawn gates p = 0 :=
  List.sum_eq_zero fun n hn => by
    obtain ⟨c, -, rfl⟩ := List.mem_map.mp hn
    exact if_neg (h c)

theorem State.drawn_congr {s t : State} {gates gates' : ChuteIdx → Bool} {p : PassIdx}
    (hc : ∀ c, t.chute c = s.chute c) (hg : ∀ c, (s.chute c).pass = p → gates' c = gates c) :
    t.drawn gates' p = s.drawn gates p := by
  refine congrArg List.sum (List.map_congr_left fun c _ => ?_)
  rw [hc]
  refine if_congr ?_ rfl rfl
  rw [and_comm, and_comm (a := gates c = true)]
  exact and_congr_right fun h => by rw [hg c h.2]

/-- A pass is debited once by what its aborted gates drew. -/
theorem Event.abortWhere_pass_of (ev : Event) (p : PassIdx) : (ev.abortWhere gates).st.pass p
    = if ∃ c, gates c = true ∧ (ev.st.chute c).state = .holding ∧ (ev.st.chute c).pass = p then
        (ev.st.pass p).debit (ev.st.drawn gates p)
      else ev.st.pass p := by
  refine ((Event.abortWhere_aborted gates ev).pass p).trans ((Pass.foldl_debit _ _).trans ?_)
  rw [← ite_not]
  exact if_congr (ev.st.drawing_eq_nil_iff gates p) (congrArg (Pass.debit · _) (ev.st.drawing_volume gates p)) rfl

theorem Event.abortWhere_e (ev : Event) (p : PassIdx) : ((ev.abortWhere gates).st.pass p).e
    = if (ev.st.pass p).defined = true ∧ (ev.st.pass p).known = true then (ev.st.pass p).e - ev.st.drawn gates p
      else (ev.st.pass p).e := by
  rw [Event.abortWhere_pass_of]
  split
  case isTrue => rw [Pass.debit_eq]
  case isFalse h => rw [State.drawn_eq_zero (not_exists.mp h), Nat.sub_zero, ite_self]

/-- An abort leaves a pass's reservation, its waiting list, its reference and its state, and D outside RUNNING. -/
theorem Event.abortWhere_pass_rest (ev : Event) (p : PassIdx) :
    ((ev.abortWhere gates).st.pass p).reserved = (ev.st.pass p).reserved
      ∧ ((ev.abortWhere gates).st.pass p).waiting = (ev.st.pass p).waiting
      ∧ ((ev.abortWhere gates).st.pass p).r = (ev.st.pass p).r
      ∧ ((ev.abortWhere gates).st.pass p).state = (ev.st.pass p).state
      ∧ ((ev.st.pass p).state ≠ .running → ((ev.abortWhere gates).st.pass p).d = (ev.st.pass p).d)
      ∧ ∀ k, raised k (ev.st.pass p).conds = true → raised k ((ev.abortWhere gates).st.pass p).conds = true := by
  rw [Event.abortWhere_pass_of]
  split
  case isFalse => exact ⟨rfl, rfl, rfl, rfl, fun _ => rfl, fun _ => id⟩
  case isTrue =>
    rw [Pass.debit_eq]
    refine ⟨rfl, rfl, rfl, rfl, fun h => if_neg fun hr => h hr.2, fun k hk => ?_⟩
    dsimp only
    split
    case isTrue => rw [raised_raise, hk, Bool.true_or]
    case isFalse => exact hk

theorem Event.stop_frame (ev : Event) : (ev.stop tips gates).st = { ev.st with
    passes := (ev.stop tips gates).st.passes, tips := (ev.stop tips gates).st.tips
    chutes := (ev.stop tips gates).st.chutes } := by
  have hr := (Event.revokeWhere_revoked tips ev).frame
  have ha := (Event.abortWhere_aborted gates (ev.revokeWhere tips)).frame
  have htips : (ev.stop tips gates).st.tips = (ev.revokeWhere tips).st.tips := by rw [Event.stop, ha]
  rw [hr] at ha
  rw [htips]
  exact ha

theorem Event.stop_tip (ev : Event) (t : TipIdx) : (ev.stop tips gates).st.tip t
    = if tips t = true ∧ (ev.st.tip t).state = .granted then ev.st.revokedTip t else ev.st.tip t :=
  (Event.abortWhere_tip ..).trans (Event.revokeWhere_tip ..)

theorem Event.stop_chute (ev : Event) (c : ChuteIdx) : (ev.stop tips gates).st.chute c
    = if gates c = true then ev.st.abortedChute c else ev.st.chute c := by
  have hr := (Event.revokeWhere_revoked tips ev).frame
  have hchute : (ev.revokeWhere tips).st.chute c = ev.st.chute c := Event.revokeWhere_chute ..
  rw [Event.stop, (Event.abortWhere_aborted gates (ev.revokeWhere tips)).chute, hchute,
    State.abortedChute_congr hchute (by rw [hr]) (by rw [hr])]
  exact if_congr (by simp) rfl rfl

/-- What the two leave of a pass: the revocations its list and its reservation, the aborts the rest. -/
theorem Event.stop_pass (ev : Event) (p : PassIdx) : (ev.stop tips gates).st.pass p
    = if ∃ c, gates c = true ∧ (ev.st.chute c).state = .holding ∧ (ev.st.chute c).pass = p then
        ((ev.revokeWhere tips).st.pass p).debit (ev.st.drawn gates p)
      else (ev.revokeWhere tips).st.pass p := by
  have hchute (c : ChuteIdx) : (ev.revokeWhere tips).st.chute c = ev.st.chute c := Event.revokeWhere_chute ..
  have h := Event.abortWhere_pass_of gates (ev.revokeWhere tips) p
  simp only [hchute, State.drawn_congr hchute fun _ _ => rfl] at h
  exact h

end

/-! ## A hang -/

/-- A RUNNING pass hangs: the estimate and the reference at the measurement, no draw (R14). -/
def Pass.hang (m : Nat) (q : Pass) : Pass :=
  { q with e := m, r := m, d := 0, state := .hung, conds := raise .hang q.conds }

section
variable {s : State} {p : PassIdx} {m : Nat}

theorem Pass.measure_hang {q : Pass} (hs : q.state = .running) (hd : 0 < q.d) (hc : 2 * ((q.r : Int) - m) < q.d)
    (hh : q.hangThreshold ≤ q.d) : q.measure m = q.hang m := by
  simp [Pass.measure, hs, Pass.measureRunning, drawConfirmed, hd.ne', not_le.mpr hc, not_lt.mpr hh, Pass.hang]

/-- The event of a hang. -/
theorem Event.applyMeasurement_of_hang (hs : (s.pass p).state = .running)
    (hm : (s.pass p).measure m = (s.pass p).hang m) : (Event.of s).applyMeasurement p m =
      ((Event.of (s.modPass p (Pass.hang m))).stop (fun t => decide ((s.tip t).pass = p ∧ (s.tip t).state = .granted))
        fun c => decide ((s.chute c).pass = p)).handOn p := by
  have hev : (Event.of s).update (State.modPass p (Pass.measure m)) = Event.of (s.modPass p (Pass.hang m)) :=
    congrArg Event.of (State.modPass_congr hm)
  have hpass : (s.modPass p (Pass.hang m)).pass p = (s.pass p).hang m := State.modPass_pass_self ..
  have hmoved : (s.pass p).moved ((s.pass p).hang m) = true := by simp [Pass.moved, Pass.hang, hs]
  unfold Event.applyMeasurement
  dsimp only
  rw [hev]
  simp only [Event.of_st, hpass, hmoved, if_true]
  rw [if_pos ⟨hs, rfl⟩]
  rfl

/-- The tip points of the pass that are GRANTED. -/
def State.grantedOf (s : State) (p : PassIdx) (t : TipIdx) : Bool :=
  decide ((s.tip t).pass = p ∧ (s.tip t).state = .granted)

/-- The pass after the revocations of its hang. -/
theorem Event.revokeWhere_hang (s : State) (p : PassIdx) (m : Nat) :
    ((Event.of (s.modPass p (Pass.hang m))).revokeWhere (s.grantedOf p)).st.pass p = { (s.pass p).hang m with
      waiting := (s.pass p).waiting ++ (List.finRange 16).filter fun t => s.grantedOf p t && s.callPresent t
      reserved := (s.pass p).reserved - (((List.finRange 16).filter fun t =>
        decide ((s.tip t).state = .granted ∧ (s.tip t).pass = p)).map fun t => (s.tip t).load).sum } := by
  have hpass : (Event.of (s.modPass p (Pass.hang m))).st.pass p = (s.pass p).hang m := State.modPass_pass_self ..
  have hmove : (fun t => s.grantedOf p t && decide ((s.tip t).state = .granted) && s.callPresent t
      && decide ((s.tip t).pass = p)) = fun t => s.grantedOf p t && s.callPresent t := by
    funext t
    by_cases hp : (s.tip t).pass = p <;> simp +contextual [State.grantedOf, hp, Bool.and_comm]
  have hfree : (fun t => s.grantedOf p t && decide ((s.tip t).state = .granted) && decide ((s.tip t).pass = p))
      = fun t => decide ((s.tip t).state = .granted ∧ (s.tip t).pass = p) := by
    funext t
    by_cases hp : (s.tip t).pass = p <;> simp [State.grantedOf, hp]
  rw [Event.revokeWhere_pass, hpass, ← hmove, ← hfree]
  rfl

/-- The revocations of a hang leave the other passes. -/
theorem Event.revokeWhere_hang_other (s : State) {p o : PassIdx} (m : Nat) (h : o ≠ p) :
    ((Event.of (s.modPass p (Pass.hang m))).revokeWhere (s.grantedOf p)).st.pass o = s.pass o := by
  have hpass : (Event.of (s.modPass p (Pass.hang m))).st.pass o = s.pass o := State.modPass_pass_ne _ _ _ h
  have hnone (Q : TipIdx → Bool) : ((List.finRange 16).filter fun t =>
      s.grantedOf p t && Q t && decide ((s.tip t).pass = o)) = [] := by
    refine List.filter_eq_nil_iff.mpr fun t _ hh => h ?_
    simp only [State.grantedOf, Bool.and_eq_true, decide_eq_true_eq] at hh
    exact hh.2.symm.trans hh.1.1.1
  have hwait := hnone fun t : TipIdx => decide ((s.tip t).state = TipState.granted) && s.callPresent t
  have hfree := hnone fun t : TipIdx => decide ((s.tip t).state = TipState.granted)
  simp only [← Bool.and_assoc] at hwait
  rw [Event.revokeWhere_pass, hpass]
  change { s.pass o with
    waiting := (s.pass o).waiting ++ (List.finRange 16).filter fun t : TipIdx => s.grantedOf p t
      && decide ((s.tip t).state = TipState.granted) && s.callPresent t && decide ((s.tip t).pass = o)
    reserved := (s.pass o).reserved - (((List.finRange 16).filter fun t : TipIdx => s.grantedOf p t
      && decide ((s.tip t).state = TipState.granted) && decide ((s.tip t).pass = o)).map fun t : TipIdx => (s.tip t).load).sum } = _
  rw [hwait, hfree, List.append_nil]
  rfl

end

/-- Settles O23: the revocations, then the aborts of a hang, each by what it leaves of every record. -/
theorem hangRevokesGrantsAndAbortsCycles : Obligations.HangRevokesGrantsAndAbortsCycles := by
  intro s p m hs hd hc hh ev u a drawn
  have hev : ev = a.handOn p := Event.applyMeasurement_of_hang hs (Pass.measure_hang hs hd hc hh)
  have hu : u = a.st := by
    change ev.st = a.st
    rw [hev]
    rfl
  let s0 : State := s.modPass p (Pass.hang m)
  let r : Event := (Event.of s0).revokeWhere (s.grantedOf p)
  have hframe : a.st = _ := Event.stop_frame (s.grantedOf p) (fun c => decide ((s.chute c).pass = p)) (Event.of s0)
  have hchute (c : ChuteIdx) : a.st.chute c = if (s.chute c).pass = p then s0.abortedChute c else s.chute c :=
    (Event.stop_chute (s.grantedOf p) _ (Event.of s0) c).trans (if_congr decide_eq_true_iff rfl rfl)
  have hrp : r.st.pass p = _ := Event.revokeWhere_hang s p m
  have hdrawn : r.st.drawn (fun c => decide ((s.chute c).pass = p)) p = drawn := by
    refine congrArg List.sum (List.map_congr_left fun c _ => ?_)
    have hrc : r.st.chute c = s.chute c := Event.revokeWhere_chute ..
    rw [hrc]
    exact if_congr (by simp) rfl rfl
  have he : (a.st.pass p).e = if (s.pass p).defined = true ∧ (s.pass p).known = true then m - drawn else m := by
    refine (Event.abortWhere_e _ r p).trans ?_
    rw [hdrawn, hrp]
    rfl
  obtain ⟨hreserved, hwaiting, hr, hstate, hd0, hconds⟩ :=
    Event.abortWhere_pass_rest (fun c => decide ((s.chute c).pass = p)) r p
  rw [hrp] at hreserved hwaiting hr hstate hd0 hconds
  have hof : a.st.chutesOf p = s.chutesOf p := by
    refine List.filter_congr fun c _ => ?_
    rw [hchute]
    split
    case isFalse => rfl
    case isTrue =>
      obtain ⟨hdef, hpass, -⟩ := s0.abortedChute_rest c
      rw [hdef, hpass]
      rfl
  rw [hu]
  refine ⟨?_, he, hreserved, hstate, hr, hd0 (by simp [Pass.hang]), ?_, hconds _ (raised_raise_self ..), fun hno => ?_,
    hwaiting, fun t => ?_, fun c hcp => ?_, fun c hcp => (hchute c).trans (if_neg hcp), fun o ho => ?_, ?_,
    fun c hcd hcp => ?_, ?_, ?_, ?_, ?_⟩
  · rw [hev, ← hof]
    rfl
  · rw [he]
    split <;> omega
  · rw [he]
    have h0 : drawn = 0 := by
      rw [← hdrawn]
      refine State.drawn_eq_zero fun c hh => hno c (of_decide_eq_true hh.1) ?_
      have hrc : r.st.chute c = s.chute c := Event.revokeWhere_chute ..
      rw [← hrc]
      exact hh.2.1
    rw [h0, Nat.sub_zero, ite_self]
  · refine (Event.stop_tip (s.grantedOf p) _ (Event.of s0) t).trans (if_congr ?_ rfl rfl)
    simp only [State.grantedOf, decide_eq_true_eq]
    exact ⟨And.left, fun hh => ⟨hh, hh.2⟩⟩
  · rw [hchute, if_pos hcp]
    exact CycleState.moving_eq_false_iff.mp (State.abortedChute_moving ..)
  · refine (Event.stop_pass (s.grantedOf p) (fun c => decide ((s.chute c).pass = p)) (Event.of s0) o).trans
      ((if_neg ?_).trans (Event.revokeWhere_hang_other s m ho))
    rintro ⟨c, hcp, -, hco⟩
    exact ho (hco.symm.trans (of_decide_eq_true hcp))
  · rw [hev]
    exact List.mem_cons_self
  · rw [hev]
    refine List.mem_append_left _ ?_
    rw [hof, State.chutesOf, List.mem_filter]
    exact ⟨List.mem_finRange c, by simp [hcd, hcp]⟩
  all_goals
    rw [hframe]
    rfl

end Sys2Proof.Machine
end

section
/-! The end of an event outside RUN, and the halt (R35, R67, R93, R108, R120, R150, R161, R162). -/

namespace Sys2Proof.Machine

/-! ## The end of an event outside RUN -/

section
variable {s : State} (hm : s.station.mode ≠ .run)
include hm

theorem State.runArbiters_of_not_run (ps : List PassIdx) : s.runArbiters ps = s :=
  State.runArbiters_induct (P := fun u => u = s) ps (fun u p _ h => by
    rw [h]
    refine State.runArbiter_of_none (State.chooseCall_eq_none_iff.mpr fun x _ => Bool.eq_false_iff.mpr fun hx => ?_)
    obtain ⟨-, hrun, -⟩ := State.eligible_iff.mp hx
    exact hm hrun) s rfl

theorem State.runTries_of_not_run (cs : List ChuteIdx) : s.runTries cs = s :=
  State.runTries_induct (P := fun u => u = s) cs (fun u c _ h => by
    rw [h]
    refine (s.startTry_cases c).resolve_right fun hh => ?_
    obtain ⟨-, -, hready, -⟩ := hh
    obtain ⟨-, -, -, -, -, hrun, -⟩ := State.startReady_iff.mp hready
    exact hm hrun) s rfl

theorem State.chooseJob_of_not_run : s.chooseJob = s := by
  refine s.chooseJob_cases.resolve_right ?_
  rintro ⟨j, -, hj, -⟩
  obtain ⟨hrun, -⟩ := State.startable_iff.mp (State.pickJob_mem hj).2
  exact hm hrun

end

/-- Outside RUN the end of an event makes its settling tests alone. -/
theorem Event.finish_of_not_run {ev : Event} (hm : ev.st.station.mode ≠ .run) :
    ev.finish = ev.settleTests.st.endEvent := by
  have hm' : ev.settleTests.st.station.mode ≠ .run := by
    rw [(Event.settleTests_endsAs ev).frame]
    exact hm
  rw [Event.finish_acted, Event.acted]
  rw [State.runArbiters_of_not_run hm', State.runTries_of_not_run hm', State.chooseJob_of_not_run hm', ite_self]

/-! ## The breaker sent home -/

/-- The breaker after a halt: sent home where it works, its list empty (R120). -/
def Breaker.halted (b : Breaker) : Breaker :=
  if b.state = .travelling ∨ b.state = .breaking then { b with
    state := .returning, current := none, jobs := [], travelTimer := none, breakTimer := none
    returnTimer := some b.travelLimit }
  else { b with jobs := [] }

/-- An idle scanner chooses again where the breaker has left BREAKING (R35). -/
def State.leftBreaking (u : State) (b : Breaker) : State :=
  if b.state = .breaking ∧ u.scanner.converting = false then u.chooseConversion else u

theorem State.leftBreaking_scanner (u : State) (b : Breaker) : ∃ sc, u.leftBreaking b = { u with scanner := sc } := by
  unfold State.leftBreaking
  split
  · exact ⟨_, u.chooseConversion_eq⟩
  · exact ⟨u.scanner, rfl⟩

/-- A move that does not end in BREAKING. -/
theorem Event.moveBreaker_home {f : Breaker → Breaker} {ev : Event} (hf : (f ev.st.breaker).state ≠ .breaking) :
    ev.moveBreaker f = ⟨(ev.st.modBreaker f).leftBreaking ev.st.breaker, ev.arb, ev.tries, ev.choice,
      List.finRange 24 ++ ev.touched⟩ := by
  by_cases hb : ev.st.breaker.state = .breaking
  · rw [Event.moveBreaker_of_switches fun h => hf (h.mp hb), State.leftBreaking]
    by_cases hc : ev.st.scanner.converting = true
    · rw [if_neg fun h => by simp [hc] at h]
      simp [Event.update, Event.touchAll, Event.touch, State.wakeScanner, hc]
    · rw [if_pos ⟨hb, by simpa using hc⟩]
      simp [Event.update, Event.touchAll, Event.touch, State.wakeScanner, hc]
  · rw [Event.moveBreaker_of_keeps (iff_of_false hb hf), State.leftBreaking, if_neg fun h => hb h.1]
    rfl

theorem Event.haltedBreaker_eq (ev : Event) : ev.haltedBreaker =
    ⟨(ev.st.modBreaker Breaker.halted).leftBreaking ev.st.breaker, ev.arb, ev.tries, ev.choice,
      if ev.st.breaker.state = .travelling ∨ ev.st.breaker.state = .breaking then List.finRange 24 ++ ev.touched
      else ev.touched⟩ := by
  unfold Event.haltedBreaker
  split
  case isTrue hw =>
    have hhome : Breaker.halted ev.st.breaker = { ev.st.breaker.sendHome with jobs := [] } := if_pos hw
    rw [Event.moveBreaker_home (by simp [Breaker.sendHome])]
    have hmod : (ev.st.modBreaker fun b => { b.sendHome with jobs := [] }) = ev.st.modBreaker Breaker.halted :=
      State.modBreaker_congr hhome.symm
    rw [hmod]
  case isFalse hw =>
    have hhome : Breaker.halted ev.st.breaker = { ev.st.breaker with jobs := [] } := if_neg hw
    have hmod : (ev.st.modBreaker fun b => { b with jobs := [] }) = ev.st.modBreaker Breaker.halted :=
      State.modBreaker_congr hhome.symm
    rw [State.leftBreaking, if_neg fun h => hw (.inr h.1), ← hmod]
    rfl

/-! ## The reports of ended jobs -/

theorem Event.foldl_reportEnd (ks : List StationIdx) (ev : Event) :
    (ks.foldl (fun ev k => ev.reportEnd k) ev).Same ⟨ev.st, ks.flatMap ev.st.endReport ++ ev.arb, ev.tries, ev.choice,
      ev.touched⟩ := by
  induction ks generalizing ev with
  | nil => exact ⟨rfl, fun _ => Iff.rfl, fun _ => Iff.rfl, rfl, fun _ => Iff.rfl⟩
  | cons k ks ih =>
    obtain ⟨hst, harb, htries, hchoice, htouched⟩ := ih (ev.reportEnd k)
    rw [List.foldl_cons]
    rw [Event.reportEnd_eq] at hst harb htries hchoice htouched ⊢
    refine ⟨hst, fun p => (harb p).trans ?_, htries, hchoice, htouched⟩
    simp only [List.flatMap_cons, List.mem_append]
    tauto

/-- The stations whose jobs a halt ends. -/
theorem State.heldStations_eq (s : State) : s.heldStations = (List.finRange 4).filter fun k =>
    (s.breaker.current.toList ++ s.breaker.jobs).any fun j => decide (j.station = k) := by
  refine List.filter_congr fun k _ => ?_
  rw [State.jobHeld, List.any_append, Bool.or_comm]
  cases s.breaker.current <;> simp

/-- A halt's treatment of the breaker and its jobs (R108, R120). -/
theorem Event.haltBreaker_same (ev : Event) : ev.haltBreaker.Same
    ⟨(ev.st.modBreaker Breaker.halted).leftBreaking ev.st.breaker,
      (ev.st.heldStations.flatMap (ev.st.modBreaker Breaker.halted).endReport) ++ ev.arb, ev.tries, ev.choice,
      if ev.st.breaker.state = .travelling ∨ ev.st.breaker.state = .breaking then List.finRange 24
      else ev.touched⟩ := by
  obtain ⟨hst, harb, htries, hchoice, htouched⟩ := Event.foldl_reportEnd ev.st.heldStations ev.haltedBreaker
  have hreport : ((ev.st.modBreaker Breaker.halted).leftBreaking ev.st.breaker).endReport
      = (ev.st.modBreaker Breaker.halted).endReport := by
    obtain ⟨sc, h⟩ := (ev.st.modBreaker Breaker.halted).leftBreaking_scanner ev.st.breaker
    rw [h]
    rfl
  rw [Event.haltedBreaker_eq] at hst harb htries hchoice htouched
  dsimp only at hst harb htries hchoice htouched
  rw [hreport] at harb
  rw [← Event.haltedBreaker_eq] at hst harb htries hchoice htouched
  refine ⟨hst, harb, htries, hchoice, fun e => (htouched e).trans ?_⟩
  dsimp only
  split
  · simp
  · exact Iff.rfl

end Sys2Proof.Machine
end

section
/-! What a halt leaves of the plant, and the three calls of a halt (R161, R162). -/

namespace Sys2Proof.Machine

/-! ## What the stages of a halt leave -/

theorem Event.stop_rest (tips : TipIdx → Bool) (gates : ChuteIdx → Bool) (ev : Event) :
    (ev.stop tips gates).st.station = ev.st.station ∧ (ev.stop tips gates).st.breaker = ev.st.breaker
      ∧ (ev.stop tips gates).st.stations = ev.st.stations := by
  rw [Event.stop_frame]
  exact ⟨rfl, rfl, rfl⟩

/-- A breaker moved out of BREAKING leaves the rest of the plant. -/
theorem State.homeward_rest (u : State) (f : Breaker → Breaker) (b : Breaker) :
    ((u.modBreaker f).leftBreaking b).station = u.station
    ∧ ((u.modBreaker f).leftBreaking b).breaker = f u.breaker
    ∧ ((u.modBreaker f).leftBreaking b).stations = u.stations
    ∧ (∀ t, ((u.modBreaker f).leftBreaking b).tip t = u.tip t)
    ∧ (∀ c, ((u.modBreaker f).leftBreaking b).chute c = u.chute c)
    ∧ ∀ p, ((u.modBreaker f).leftBreaking b).pass p = u.pass p := by
  obtain ⟨sc, h⟩ := (u.modBreaker f).leftBreaking_scanner b
  rw [h]
  exact ⟨rfl, rfl, rfl, fun _ => rfl, fun _ => rfl, fun _ => rfl⟩

theorem Event.Tested.rest {ev a : Event} {es : List EntryIdx} (h : ev.Tested es a) :
    a.st.station = ev.st.station ∧ a.st.breaker = ev.st.breaker ∧ a.st.stations = ev.st.stations
    ∧ (∀ t, a.st.tip t = ev.st.tip t) ∧ (∀ c, a.st.chute c = ev.st.chute c)
    ∧ ∀ p, (a.st.pass p).e = (ev.st.pass p).e ∧ (a.st.pass p).reserved = (ev.st.pass p).reserved
      ∧ (a.st.pass p).waiting = (ev.st.pass p).waiting := by
  have hpass (p : PassIdx) : (a.st.pass p).e = (ev.st.pass p).e ∧ (a.st.pass p).reserved = (ev.st.pass p).reserved
      ∧ (a.st.pass p).waiting = (ev.st.pass p).waiting := by
    rw [h.pass]
    split <;> exact ⟨rfl, rfl, rfl⟩
  have hframe := congrArg Event.st h.frame
  rw [hframe]
  exact ⟨rfl, rfl, rfl, fun _ => rfl, fun _ => rfl, hpass⟩

/-- Outside RUN, with no grant left, the end of an event leaves all but the entries, the state and the draw of the
passes, and the lines. -/
theorem Event.finish_rest {ev : Event} {u : State} (hst : ev.st = u) (hm : u.station.mode ≠ .run)
    (hg : ∀ t, (u.tip t).state ≠ .granted) : ev.finish.station = u.station
    ∧ ev.finish.breaker = u.breaker ∧ (∀ k, ev.finish.bst k = u.bst k)
    ∧ (∀ t, ev.finish.tip t = u.tip t) ∧ (∀ c, ev.finish.chute c = u.chute c)
    ∧ ∀ p, (ev.finish.pass p).e = (u.pass p).e ∧ (ev.finish.pass p).reserved = (u.pass p).reserved
      ∧ (ev.finish.pass p).waiting = (u.pass p).waiting := by
  subst hst
  obtain ⟨h1, h2, h3, h4, h5, h6⟩ := (Event.settleTests_tested fun t h => absurd h (hg t)).rest
  rw [Event.finish_of_not_run hm]
  simp only [State.endEvent_chute, State.endEvent_pass, State.endEvent_station, State.endEvent_tip,
    State.endEvent_breaker, State.endEvent_bst]
  exact ⟨h1, h2, fun k => congrArg (fun v : Vector Station 4 => v[k]) h3, h4, h5, h6⟩

/-- The state as a halt finds it once the mode is HALTED. -/
def State.toHalted (s : State) (c : HaltCause) : State := s.modStation fun x =>
  { x with mode := .halted, causes := x.causes.add c, conds := raise .halted x.conds }

/-- The event of a halt before the breaker is sent home: every grant revoked, every gate aborted. -/
def State.stopped (s : State) (c : HaltCause) : Event :=
  (Event.of (s.toHalted c)).stop (fun t => decide ((s.tip t).state = .granted)) fun _ => true

/-- The state a halt hands to the settling tests. -/
def State.haltedPlant (s : State) (c : HaltCause) : State :=
  ((s.stopped c).st.modBreaker Breaker.halted).leftBreaking s.breaker

section
variable (s : State) (c : HaltCause)

theorem State.stopped_rest : (s.stopped c).st.station = (s.toHalted c).station ∧ (s.stopped c).st.breaker = s.breaker
    ∧ (s.stopped c).st.stations = s.stations := by
  unfold State.stopped
  have h := Event.stop_rest (fun t => decide ((s.tip t).state = .granted)) (fun _ => true) (Event.of (s.toHalted c))
  rw [Event.of_st] at h
  obtain ⟨h1, h2, h3⟩ := h
  exact ⟨h1, h2, h3⟩

theorem State.stopped_breaker : (s.stopped c).st.breaker = s.breaker := (s.stopped_rest c).2.1

theorem State.stopped_choice : (s.stopped c).choice = false :=
  ((Event.abortWhere_aborted _ _).choice.trans (Event.revokeWhere_revoked _ _).choice)

theorem State.stopped_tip (t : TipIdx) : (s.stopped c).st.tip t =
    if (s.tip t).state = .granted then s.revokedTip t else s.tip t :=
  (Event.stop_tip ..).trans (if_congr (by
    rw [decide_eq_true_eq]
    exact ⟨And.left, fun h => ⟨h, h⟩⟩) rfl rfl)

theorem State.stopped_chute (i : ChuteIdx) : (s.stopped c).st.chute i = s.abortedChute i :=
  (Event.stop_chute ..).trans (if_pos rfl)

theorem State.stopped_not_granted (t : TipIdx) : ((s.stopped c).st.tip t).state ≠ .granted := by
  rw [State.stopped_tip]
  split
  case isTrue =>
    unfold State.revokedTip
    dsimp only
    split <;> simp
  case isFalse h => exact h

/-- Revocations and aborts leave of a waiting list what stood in it. -/
theorem Event.stop_waiting (tips : TipIdx → Bool) (gates : ChuteIdx → Bool) (ev : Event) (p : PassIdx) :
    ∃ tail, ((ev.stop tips gates).st.pass p).waiting = (ev.st.pass p).waiting ++ tail := by
  obtain ⟨-, hwaiting, -⟩ := Event.abortWhere_pass_rest gates (ev.revokeWhere tips) p
  rw [Event.revokeWhere_pass] at hwaiting
  exact ⟨_, hwaiting⟩

theorem State.stopped_waiting (p : PassIdx) :
    ∃ tail, ((s.stopped c).st.pass p).waiting = (s.pass p).waiting ++ tail :=
  Event.stop_waiting _ _ (Event.of (s.toHalted c)) p

/-- The halted plant but for what the settling tests change. -/
theorem State.haltedPlant_rest : (s.haltedPlant c).station = (s.toHalted c).station
    ∧ (s.haltedPlant c).breaker = s.breaker.halted ∧ (s.haltedPlant c).stations = s.stations
    ∧ (∀ t, (s.haltedPlant c).tip t = (s.stopped c).st.tip t) ∧ (∀ i, (s.haltedPlant c).chute i = (s.stopped c).st.chute i)
    ∧ ∀ p, (s.haltedPlant c).pass p = (s.stopped c).st.pass p := by
  obtain ⟨hstation, hbreaker, hstations⟩ := s.stopped_rest c
  unfold State.haltedPlant
  rw [← hstation, ← hstations]
  have h := State.homeward_rest (s.stopped c).st Breaker.halted s.breaker
  rw [hbreaker] at h
  exact h

/-- A halt, by what it hands to the end of the event. -/
theorem Event.halt_same : ((Event.of s).halt c).Same ⟨s.haltedPlant c,
    s.heldStations.flatMap ((s.stopped c).st.modBreaker Breaker.halted).endReport ++ (s.stopped c).arb,
    (s.stopped c).tries, false,
    if s.breaker.state = .travelling ∨ s.breaker.state = .breaking then List.finRange 24
    else (s.stopped c).touched⟩ := by
  have h := Event.haltBreaker_same (s.stopped c)
  have hheld : (s.stopped c).st.heldStations = s.heldStations := by
    simp only [State.heldStations_eq, State.stopped_breaker]
  rw [State.stopped_breaker, hheld, State.stopped_choice] at h
  exact h

/-- The halted plant at the end of its event, record by record. -/
theorem Event.halt_finish : (∀ i, (((Event.of s).halt c).finish.chute i) = (s.stopped c).st.chute i)
    ∧ (∀ p, (((Event.of s).halt c).finish.pass p).e = ((s.stopped c).st.pass p).e
      ∧ (((Event.of s).halt c).finish.pass p).reserved = ((s.stopped c).st.pass p).reserved
      ∧ (((Event.of s).halt c).finish.pass p).waiting = ((s.stopped c).st.pass p).waiting)
    ∧ ((Event.of s).halt c).finish.station = (s.toHalted c).station
    ∧ (∀ t, ((Event.of s).halt c).finish.tip t = (s.stopped c).st.tip t)
    ∧ ((Event.of s).halt c).finish.breaker = s.breaker.halted
    ∧ ∀ k, ((Event.of s).halt c).finish.bst k = s.bst k := by
  obtain ⟨h1, h2, h3, h4, h5, h6⟩ := s.haltedPlant_rest c
  have hm : (s.haltedPlant c).station.mode ≠ .run := by
    rw [h1]
    exact fun h => by cases h
  have hg (t : TipIdx) : ((s.haltedPlant c).tip t).state ≠ .granted := by
    rw [h4]
    exact s.stopped_not_granted c t
  obtain ⟨g1, g2, g3, g4, g5, g6⟩ := Event.finish_rest (Event.halt_same s c).1 hm hg
  refine ⟨fun i => (g5 i).trans (h5 i), fun p => ?_, g1.trans h1, fun t => (g4 t).trans (h4 t), g2.trans h2,
    fun k => (g3 k).trans (congrArg (fun v : Vector Station 4 => v[k]) h3)⟩
  rw [← h6]
  exact g6 p

end

/-- An abort leaves a chute's calls and its hold, and its count where it was not drawing. -/
theorem State.abortedChute_kept (s : State) (i : ChuteIdx) : (s.abortedChute i).callPending = (s.chute i).callPending
    ∧ (s.abortedChute i).held = (s.chute i).held
    ∧ ((s.chute i).state ≠ .holding → (s.abortedChute i).count = (s.chute i).count) := by
  unfold State.abortedChute
  cases (s.chute i).state with
  | nudging => dsimp only; split <;> exact ⟨rfl, rfl, fun _ => rfl⟩
  | holding => exact ⟨by rw [Chute.countDown_cycleDone_eq]; rfl, by rw [Chute.countDown_cycleDone_eq]; rfl,
      fun h => absurd rfl h⟩
  | _ => exact ⟨rfl, rfl, fun _ => rfl⟩

theorem HaltCauses.add_eq (c : HaltCause) (x : HaltCauses) : x.add c = ⟨x.estopLine || decide (c = .estopLine),
    x.linkStop || decide (c = .linkStop), x.broadcastStop || decide (c = .broadcastStop)⟩ := by
  cases c <;> simp [HaltCauses.add]

/-! ## The call of a halt -/

theorem Event.callHalt_run {u : State} (c : HaltCause) (h : u.station.mode = .run) :
    (Event.of u).callHalt c = (Event.of u).halt c := by
  rw [Event.callHalt, Event.of_st, h]

/-- In HALTED a call adds its cause. -/
theorem Event.callHalt_halted {u : State} (c : HaltCause) (h : u.station.mode = .halted) :
    ((Event.of u).callHalt c).finish = (u.modStation fun x => { x with causes := x.causes.add c }).endEvent := by
  rw [Event.callHalt, Event.of_st, h]
  exact Event.finish_update _ u

theorem Event.callHalt_setup {u : State} (c : HaltCause) (h : u.station.mode = .setup) :
    ((Event.of u).callHalt c).finish = u.endEvent := by
  rw [Event.callHalt, Event.of_st, h]
  exact Event.finish_of u

section
variable {rq : Request} {s : State}

theorem exec_stop_taken (ht : s.takes rq 0 = true) (hm : s.station.mode ≠ .setup) : exec (.stop rq) s = .next
    (((Event.of s).callHalt .linkStop).finish.answered rq .accepted
      ((Event.of s).callHalt .linkStop).finish.modeAndCauses) :=
  congrArg Host.Outcome.next (request_of_reply_take ht (if_neg hm))

theorem exec_stop_run (ht : s.takes rq 0 = true) (hm : s.station.mode = .run) : exec (.stop rq) s = .next
    (((Event.of s).halt .linkStop).finish.answered rq .accepted
      (bigEndian 1 2 ++ (s.station.causes.add .linkStop).byte)) := by
  obtain ⟨-, -, hstation, -⟩ := Event.halt_finish s .linkStop
  rw [exec_stop_taken ht (by simp [hm]), Event.callHalt_run _ hm, State.modeAndCauses, hstation]
  rfl

theorem exec_stop_halted (ht : s.takes rq 0 = true) (hm : s.station.mode = .halted) : exec (.stop rq) s = .next
    ((s.modStation fun x => { x with causes := x.causes.add .linkStop }).endEvent.answered rq .accepted
      (bigEndian 1 2 ++ (s.station.causes.add .linkStop).byte)) := by
  rw [exec_stop_taken ht (by simp [hm]), Event.callHalt_halted _ hm, State.modeAndCauses, State.endEvent_station,
    State.modStation_station, hm]
  rfl

theorem exec_broadcastStop_listening (hl : s.listening = true) :
    exec .broadcastStop s = .next ((Event.of s.frameOver).callHalt .broadcastStop).finish :=
  congrArg Host.Outcome.next (if_pos hl)

theorem exec_estop_rising {i : LineIdx} (h : s.edgeDue i .estop true = true) :
    exec (.debounceExpiry i) s = .next ((Event.of (s.debounced i)).callHalt .estopLine).finish := by
  rw [exec_debounceExpiry_of_edgeDue h]
  rfl

theorem exec_estop_falling {i : LineIdx} (h : s.edgeDue i .estop false = true) :
    exec (.debounceExpiry i) s = .next (s.debounced i).endEvent := by
  rw [exec_debounceExpiry_of_edgeDue h, ← Event.finish_of]
  rfl

end

/-- Settles O51: the calls by the mode, then what a halt leaves of each record. -/
theorem haltsStopThePlant : Obligations.HaltsStopThePlant := by
  intro rq i cause s added body halted noted hushed
  have hadd (c : HaltCause) : s.station.causes.add c = added c := HaltCauses.add_eq c _
  have hbody (c : HaltCause) : (s.station.causes.add c).byte = bigEndian 1 ((added c).estopLine.toNat
      + 2 * (added c).linkStop.toNat + 4 * (added c).broadcastStop.toNat) := by rw [hadd]; rfl
  have hnoted (c : HaltCause) {u : State} (hu : u.station = s.station) :
      (u.modStation fun x => { x with causes := x.causes.add c }).endEvent = noted c u := by
    refine congrArg State.endEvent (State.modStation_congr ?_)
    rw [hu, hadd]
  have hover : s.frameOver.station = s.station := rfl
  have hline : (s.debounced i).station = s.station := State.modLine_station ..
  refine ⟨fun ht => ⟨fun hm => ?_, fun hm => ?_, fun hm => ?_⟩, fun hl => ?_, fun he => ?_, exec_estop_falling, ?_⟩
  · rw [exec_stop_run ht hm, hbody]
  · rw [exec_stop_halted ht hm, hbody, hnoted _ rfl]
  · exact congrArg Host.Outcome.next (request_of_reply_no ht (if_pos hm))
  · rw [exec_broadcastStop_listening hl]
    refine ⟨fun hm => ?_, fun hm => ?_, fun hm => ?_⟩
    · rw [Event.callHalt_run (u := s.frameOver) _ hm]
      rfl
    · rw [Event.callHalt_halted (u := s.frameOver) _ hm, hnoted _ hover]
      rfl
    · rw [Event.callHalt_setup (u := s.frameOver) _ hm]
      rfl
  · rw [exec_estop_rising he]
    refine ⟨fun hm => ?_, fun hm => ?_, fun hm => ?_⟩
    · rw [Event.callHalt_run _ (hline ▸ hm)]
    · rw [Event.callHalt_halted _ (hline ▸ hm), hnoted _ hline]
    · rw [Event.callHalt_setup _ (hline ▸ hm)]
  · intro t a b working u ended v
    have ha : a = s.stopped cause := by
      have hstation : s.toHalted cause = s.modStation fun x => { x with
          mode := .halted, causes := added cause, conds := raise .halted x.conds } :=
        State.modStation_congr (by rw [hadd])
      unfold State.stopped
      rw [hstation]
      rfl
    have hbreaker := s.stopped_breaker cause
    have hu : u = (s.stopped cause).st.modBreaker Breaker.halted := by
      rw [← ha]
      refine State.modBreaker_congr ?_
      rw [ha, hbreaker]
      rfl
    have hended : ended = s.heldStations := s.heldStations_eq.symm
    have hv : v = s.haltedPlant cause := by
      unfold State.haltedPlant State.leftBreaking
      rw [← hu]
    have hchute (c : ChuteIdx) : a.st.chute c = s.abortedChute c := by rw [ha, State.stopped_chute]
    obtain ⟨h1, h2, h3, h4, h5, h6⟩ := Event.halt_finish s cause
    refine ⟨?_, fun c => by rw [ha]; exact h1 c, fun p => by rw [ha]; exact h2 p, h3.trans ?_, fun x => (h4 x).trans ?_,
      fun c => ?_, h5, h6, fun p => ?_⟩
    · rw [hended, hv, hu, ha]
      exact (Event.halt_same s cause).finish
    · rw [← hadd]
      rfl
    · rw [State.stopped_tip]
      refine if_congr Iff.rfl ?_ rfl
      rw [State.revokedTip, State.callPresent]
      simp only [Bool.or_eq_true, decide_eq_true_eq]
    · obtain ⟨hpending, hheld, hcount⟩ := s.abortedChute_kept c
      obtain ⟨hopening, hholding, hnudging⟩ := CycleState.moving_eq_false_iff.mp (s.abortedChute_moving c)
      have hc : t.chute c = s.abortedChute c := (h1 c).trans (s.stopped_chute cause c)
      rw [hc]
      exact ⟨hopening, hholding, hnudging, hpending, hheld, hcount⟩
    · obtain ⟨tail, htail⟩ := s.stopped_waiting cause p
      exact ⟨tail, (h2 p).2.2.trans htail⟩

end Sys2Proof.Machine
end

section
/-! POST CLEARANCE: its refusals, and the entry it makes (R123, R127, R128). -/

namespace Sys2Proof.Machine

/-! ## The free entry of lowest index -/

theorem State.freeEntry_eq_some_iff {s : State} {e : EntryIdx} : s.freeEntry = some e
    ↔ (s.entry e).inUse = false ∧ ∀ o, o < e → (s.entry o).inUse = true := by
  rw [State.freeEntry, find?_finRange_eq_some_iff]
  simp only [Bool.not_eq_true']
  exact and_congr_right fun _ => forall_congr' fun o => ⟨fun h hlt => by_contra fun hn =>
    absurd (h (by simpa using hn)) (not_le.mpr hlt), fun h hf => not_lt.mp fun hlt => by simp [h hlt] at hf⟩

theorem State.freeEntry_eq_none_iff {s : State} : s.freeEntry = none ↔ ¬ ∃ o, (s.entry o).inUse = false := by
  simp [State.freeEntry]

theorem State.exists_freeEntry {s : State} (h : ∃ o, (s.entry o).inUse = false) : ∃ e, s.freeEntry = some e := by
  cases hf : s.freeEntry with
  | none => exact absurd h (State.freeEntry_eq_none_iff.mp hf)
  | some e => exact ⟨e, rfl⟩

/-! ## The checks -/

section
variable {s : State} {e : EntryIdx} (hf : s.freeEntry = some e) {low high tag : Nat} {tips : BitVec 16}
  {chutes : BitVec 8} {breaker : Bool}
include hf

theorem State.postReply_of_unknown {m : Nat} (n : Nat) (hm : 2 < m) :
    s.postReply m n low high tips chutes breaker tag = .no .outOfRange := by
  unfold State.postReply
  obtain ⟨k, rfl⟩ : ∃ k, m = k + 3 := ⟨m - 3, by omega⟩
  rw [hf]
  rfl

theorem State.postReply_equipment (n : Nat) : s.postReply 2 n low high tips chutes breaker tag =
    if badTag tag then .no .outOfRange
    else s.posted e (postedEntry .equipment none low high tips chutes breaker tag s.station.settleTime) := by
  unfold State.postReply
  rw [hf]
  rfl

theorem State.postReply_beyond {m n : Nat} (hm : m < 2) (hn : 5 < n) :
    s.postReply m n low high tips chutes breaker tag = .no .outOfRange := by
  have hi : index? 6 n = none := index?_ge (by omega)
  unfold State.postReply
  rw [hf]
  obtain rfl | rfl : m = 0 ∨ m = 1 := by omega
  · simp only [kind?, hi]
  · simp only [kind?, hi]

theorem State.postReply_service (p : PassIdx) : s.postReply 1 p low high tips chutes breaker tag =
    if badTag tag then .no .outOfRange
    else if !(s.pass p).defined then .no .noRecord
    else s.posted e (postedEntry .service (some p) low high tips chutes breaker tag s.station.settleTime) := by
  unfold State.postReply
  rw [hf]
  simp only [kind?, index?_val]

theorem State.postReply_entry (p : PassIdx) : s.postReply 0 p low high tips chutes breaker tag =
    if badTag tag || decide (high < low) then .no .outOfRange
    else if !(s.pass p).defined then .no .noRecord
    else if (s.pass p).height < high then .no .outOfRange
    else s.posted e (postedEntry .entry (some p) low high tips chutes breaker tag s.station.settleTime) := by
  unfold State.postReply
  rw [hf]
  simp only [kind?, index?_val]

/-- A field out of its range. -/
theorem State.postReply_bad {m n : Nat} (h : 2 < m ∨ tag = 0 ∨ 65534 < tag ∨ (m ≠ 2 ∧ 5 < n) ∨ (m = 0 ∧ high < low)) :
    s.postReply m n low high tips chutes breaker tag = .no .outOfRange := by
  by_cases hm : 2 < m
  · exact State.postReply_of_unknown hf n hm
  by_cases hn : m ≠ 2 ∧ 5 < n
  · exact State.postReply_beyond hf (by omega) hn.2
  have htag : badTag tag = true ∨ (m = 0 ∧ high < low) := by
    rcases h with h | h | h | h | h
    · exact absurd h hm
    · exact .inl (badTag_of_outside (.inl h))
    · exact .inl (badTag_of_outside (.inr h))
    · exact absurd h hn
    · exact .inr h
  obtain rfl | rfl | rfl : m = 0 ∨ m = 1 ∨ m = 2 := by omega
  · obtain ⟨p, rfl⟩ : ∃ p : PassIdx, n = p.val := ⟨⟨n, by omega⟩, rfl⟩
    rw [State.postReply_entry hf, if_pos]
    rw [Bool.or_eq_true, decide_eq_true_eq]
    exact htag.imp id And.right
  · obtain ⟨p, rfl⟩ : ∃ p : PassIdx, n = p.val := ⟨⟨n, by omega⟩, rfl⟩
    rw [State.postReply_service hf, if_pos (htag.resolve_right fun h => by omega)]
  · rw [State.postReply_equipment hf, if_pos (htag.resolve_right fun h => by omega)]

theorem State.postReply_undefined {m : Nat} {p : PassIdx} (hm : m < 2) (h1 : 1 ≤ tag) (h2 : tag ≤ 65534)
    (hl : m = 0 → low ≤ high) (hd : (s.pass p).defined = false) :
    s.postReply m p low high tips chutes breaker tag = .no .noRecord := by
  have hb := badTag_of_inside h1 h2
  obtain rfl | rfl : m = 0 ∨ m = 1 := by omega
  · rw [State.postReply_entry hf, if_neg (by simp [hb, hl rfl]), if_pos (by simp [hd])]
  · rw [State.postReply_service hf, if_neg hb, if_pos (by simp [hd])]

theorem State.postReply_above {p : PassIdx} (h1 : 1 ≤ tag) (h2 : tag ≤ 65534) (hl : low ≤ high)
    (hd : (s.pass p).defined = true) (hh : (s.pass p).height < high) :
    s.postReply 0 p low high tips chutes breaker tag = .no .outOfRange := by
  have hb := badTag_of_inside h1 h2
  rw [State.postReply_entry hf, if_neg (by simp [hb, hl]), if_neg (by simp [hd]), if_pos hh]

end

/-- The number of a kind in a POST CLEARANCE (section 10.4). -/
def ClearanceKind.number : ClearanceKind → Nat
  | .entry => 0
  | .service => 1
  | .equipment => 2

/-- An accepted posting takes the free entry of lowest index. -/
theorem State.postReply_taken {s : State} {e : EntryIdx} (hf : s.freeEntry = some e) {kind : ClearanceKind}
    {p : PassIdx} {n low high tag : Nat} {tips : BitVec 16} {chutes : BitVec 8} {breaker : Bool} (h1 : 1 ≤ tag)
    (h2 : tag ≤ 65534) (hp : kind ≠ .equipment → n = p ∧ (s.pass p).defined = true)
    (he : kind = .entry → low ≤ high ∧ high ≤ (s.pass p).height) :
    s.postReply kind.number n low high tips chutes breaker tag =
      s.posted e (postedEntry kind (some p) low high tips chutes breaker tag s.station.settleTime) := by
  have hb := badTag_of_inside h1 h2
  cases kind with
  | equipment => rw [ClearanceKind.number, State.postReply_equipment hf, if_neg hb]; rfl
  | service =>
    obtain ⟨rfl, hd⟩ := hp (by simp)
    rw [ClearanceKind.number, State.postReply_service hf, if_neg hb, if_neg (by simp [hd])]
  | entry =>
    obtain ⟨rfl, hd⟩ := hp (by simp)
    obtain ⟨hl, hh⟩ := he rfl
    rw [ClearanceKind.number, State.postReply_entry hf, if_neg (by simp [hb, hl]), if_neg (by simp [hd]),
      if_neg (not_lt.mpr hh)]

theorem postedEntry_eq (kind : ClearanceKind) (p : PassIdx) (low high : Nat) (tips : BitVec 16) (chutes : BitVec 8)
    (breaker : Bool) (tag time : Nat) : postedEntry kind (some p) low high tips chutes breaker tag time = {
      inUse := true, kind := kind, pass := if kind = .equipment then none else some p
      low := if kind = .entry then low else 0, high := if kind = .entry then high else 0
      maskTips := tips, maskChutes := chutes, maskBreaker := breaker, holders := [tag], state := .pending
      timer := some time, breaches := 0, firstBreach := none, conds := 0 } := by
  cases kind <;> rfl

end Sys2Proof.Machine
end

section
/-! The plant an entry covers, from the posting to the end of its event (R128, R129). -/

namespace Sys2Proof.Machine

/-! ## Coverage in the stages of an event's end -/

/-- The entry covers the same plant in both states, and no covered tip point becomes GRANTED, no covered chute moves,
and the breaker starts only work that the entry does not reach. -/
structure State.StillAt (s : State) (e : EntryIdx) (t : State) : Prop where
  tips : ∀ x, t.coversTip e x = s.coversTip e x
  chutes : ∀ c, t.coversChute e c = s.coversChute e c
  stations : ∀ k, t.coversStation e k = s.coversStation e k
  carries : t.carriesBreaker e = s.carriesBreaker e
  granted : ∀ x, s.coversTip e x = true → (t.tip x).state ≠ .granted
  safe : ∀ c, s.coversChute e c = true → (t.chute c).state = (s.chute c).state ∧ t.closedHigh c = s.closedHigh c
  breaker : t.breaker = s.breaker ∨ (s.breaker.state = .parked ∧ s.carriesBreaker e = false
    ∧ ∀ k, s.coversStation e k = true → t.breakerAt k = false)

namespace State.StillAt

variable {s t u : State} {e : EntryIdx}

theorem refl (h : ∀ x, s.coversTip e x = true → (s.tip x).state ≠ .granted) : s.StillAt e s :=
  ⟨fun _ => rfl, fun _ => rfl, fun _ => rfl, rfl, h, fun _ _ => ⟨rfl, rfl⟩, .inl rfl⟩

/-- A step that leaves the breaker and what the entry covers. -/
theorem step (h : s.StillAt e t) (hu : (u.entry e).inUse = (t.entry e).inUse)
    (hm : (u.entry e).maskBreaker = (t.entry e).maskBreaker) (htips : ∀ x, u.coversTip e x = t.coversTip e x)
    (hchutes : ∀ c, u.coversChute e c = t.coversChute e c) (hbst : u.stations = t.stations)
    (hgranted : ∀ x, s.coversTip e x = true → (u.tip x).state = .granted → (t.tip x).state = .granted)
    (hsafe : ∀ c, s.coversChute e c = true → (u.chute c).state = (t.chute c).state ∧ u.closedHigh c = t.closedHigh c)
    (hbreaker : u.breaker = t.breaker) : s.StillAt e u where
  tips x := (htips x).trans (h.tips x)
  chutes c := (hchutes c).trans (h.chutes c)
  stations k := by
    rw [← h.stations]
    have hk : u.bst k = t.bst k := congrArg (fun v : Vector Station 4 => v[k]) hbst
    rw [State.coversStation, hk, htips, State.coversStation]
  carries := by
    rw [← h.carries, State.carriesBreaker, hu, hm, State.carriesBreaker]
  granted x hx hg := h.granted x hx (hgranted x hx hg)
  safe c hc := ⟨(hsafe c hc).1.trans (h.safe c hc).1, (hsafe c hc).2.trans (h.safe c hc).2⟩
  breaker := by
    refine h.breaker.imp hbreaker.trans fun ⟨hp, hc, hk⟩ => ⟨hp, hc, fun k hcov => ?_⟩
    have := hk k hcov
    rwa [State.breakerAt, ← hbreaker, ← State.breakerAt] at this

/-- Whether the entry is settled does not change. -/
theorem settled (h : s.StillAt e t) (hs : ∀ x, s.coversTip e x = true → (s.tip x).state ≠ .granted) :
    t.settled e = true ↔ s.settled e = true := by
  rw [State.settled_iff_safe, State.settled_iff_safe]
  simp only [h.tips, h.chutes, h.stations, h.carries]
  refine and_congr (forall_congr' fun c => forall_congr' fun hc => ?_) (and_congr ?_ ?_)
  · obtain ⟨hstate, hlevel⟩ := h.safe c hc
    rw [hstate]
    exact and_congr_right fun _ => iff_of_eq (congrArg (· = true) hlevel)
  · exact iff_of_true h.granted hs
  · rcases h.breaker with hb | ⟨hp, hc, hk⟩
    · simp only [hb, State.breakerAt]
    · refine and_congr (by simp [hc]) (forall_congr' fun k => forall_congr' fun hcov => ?_)
      refine iff_of_true (hk k hcov) (Bool.eq_false_iff.mpr fun hat => ?_)
      obtain ⟨hw, -⟩ := State.breakerAt_iff_current.mp hat
      simp [hp] at hw

/-- Another entry, or this one, becomes IN_FORCE. -/
theorem forced (h : s.StillAt e t) (i : EntryIdx) : s.StillAt e (t.modEntry i Entry.forced) := by
  have hentry : (t.modEntry i Entry.forced).entry e = t.entry e
      ∨ (t.modEntry i Entry.forced).entry e = (t.entry e).forced := by
    rw [State.modEntry_entry]
    split
    case isTrue hi => exact .inr (hi ▸ rfl)
    case isFalse => exact .inl rfl
  have hsame {P : Entry → Prop} (h1 : P (t.entry e)) (h2 : P (t.entry e).forced) :
      P ((t.modEntry i Entry.forced).entry e) := hentry.elim (fun h => h ▸ h1) fun h => h ▸ h2
  refine h.step (hsame (P := fun x => x.inUse = _) rfl rfl) (hsame (P := fun x => x.maskBreaker = _) rfl rfl)
    (fun x => ?_) (fun c => ?_) rfl (fun _ _ => id) (fun _ _ => ⟨rfl, rfl⟩) rfl
  · rw [State.coversTip, State.modEntry_tip]
    rcases hentry with he | he <;> rw [he] <;> rfl
  · rw [State.coversChute, State.modEntry_chute]
    rcases hentry with he | he <;> rw [he] <;> rfl

theorem modPass (h : s.StillAt e t) (p : PassIdx) (f : Pass → Pass) : s.StillAt e (t.modPass p f) :=
  h.step rfl rfl (fun _ => rfl) (fun _ => rfl) rfl (fun _ _ => id) (fun _ _ => ⟨rfl, rfl⟩) rfl

/-- A revocation makes no tip point GRANTED. -/
theorem revokeWhere {ev : Event} (h : s.StillAt e ev.st) (which : TipIdx → Bool) :
    s.StillAt e (ev.revokeWhere which).st := by
  have hr := Event.revokeWhere_revoked which ev
  have hframe := hr.frame
  have hentry : (ev.revokeWhere which).st.entry e = ev.st.entry e :=
    congrArg (fun v : Vector Entry 24 => v[e]) hr.entries
  refine h.step (by rw [hentry]) (by rw [hentry]) (hr.coversTip e) (fun c => ?_) (by rw [hframe])
    (fun x _ hg => ?_) (fun c _ => ⟨?_, State.level_of_lines hr.lines _⟩) (by rw [hframe])
  · exact State.coversChute_congr hr.entries (by rw [Event.revokeWhere_chute]) (by rw [Event.revokeWhere_chute])
      (by rw [Event.revokeWhere_chute])
  · rw [Event.revokeWhere_tip] at hg
    split at hg
    case isTrue hw => exact hw.2
    case isFalse => exact hg
  · rw [Event.revokeWhere_chute]

theorem settleTest {ev : Event} (h : s.StillAt e ev.st) (i : EntryIdx) : s.StillAt e (ev.settleTest i).st := by
  rcases ev.settleTest_cases i with hs | ⟨-, -, -, hs⟩
  · rwa [hs]
  rw [hs]
  rcases ev.enterForce_cases i with ⟨h', -⟩ | ⟨p, -, -, -, h'⟩
  · rw [h']
    exact h.forced i
  · rw [h']
    exact revokeWhere (ev := (ev.update (State.modEntry i Entry.forced)).update (State.modPass p Pass.enterService))
      ((h.forced i).modPass p Pass.enterService) _

/-- An arbiter grants no covered tip point (R57). -/
theorem grant (h : s.StillAt e t) {p : PassIdx} {i : TipIdx} (hc : t.chooseCall p = some i) :
    s.StillAt e (t.grant p i) := by
  obtain ⟨-, -, -, hfree, -⟩ := State.eligible_iff.mp (State.chooseCall_mem hc).2
  have htip (x : TipIdx) : ((t.grant p i).tip x).defined = (t.tip x).defined
      ∧ ((t.grant p i).tip x).pass = (t.tip x).pass ∧ ((t.grant p i).tip x).elevation = (t.tip x).elevation := by
    rw [State.grant_tip]
    split
    case isTrue hx => rw [hx]; exact ⟨rfl, rfl, rfl⟩
    case isFalse => exact ⟨rfl, rfl, rfl⟩
  refine h.step rfl rfl (fun x => State.coversTip_congr rfl (htip x).1 (htip x).2.1 (htip x).2.2) (fun _ => rfl) rfl
    (fun x hx hg => ?_) (fun _ _ => ⟨rfl, rfl⟩) rfl
  rw [State.grant_tip, if_neg] at hg
  · exact hg
  · rintro rfl
    rw [← h.tips, hfree e] at hx
    cases hx

theorem modChute (h : s.StillAt e t) {c : ChuteIdx} {f : Chute → Chute} (hfree : t.coversChute e c = false)
    (hf : (f (t.chute c)).defined = (t.chute c).defined ∧ (f (t.chute c)).pass = (t.chute c).pass
      ∧ (f (t.chute c)).elevation = (t.chute c).elevation) : s.StillAt e (t.modChute c f) := by
  have hchute (i : ChuteIdx) : ((t.modChute c f).chute i).defined = (t.chute i).defined
      ∧ ((t.modChute c f).chute i).pass = (t.chute i).pass
      ∧ ((t.modChute c f).chute i).elevation = (t.chute i).elevation := by
    rw [State.modChute_chute]
    split
    case isTrue hi => rw [hi]; exact hf
    case isFalse => exact ⟨rfl, rfl, rfl⟩
  refine h.step rfl rfl (fun _ => rfl) (fun i => State.coversChute_congr rfl (hchute i).1 (hchute i).2.1 (hchute i).2.2)
    rfl (fun _ _ => id) (fun i hi => ⟨?_, rfl⟩) rfl
  rw [State.modChute_chute_ne]
  rintro rfl
  rw [← h.chutes, hfree] at hi
  cases hi

/-- No covered chute starts (R82). -/
theorem startTry (h : s.StillAt e t) (c : ChuteIdx) : s.StillAt e (t.startTry c) := by
  rcases t.startTry_cases c with h' | ⟨-, -, hready, hcases⟩
  · rwa [h']
  obtain ⟨-, -, -, -, -, -, -, hfree⟩ := State.startReady_iff.mp hready
  rcases hcases with ⟨-, h'⟩ | ⟨-, -, h'⟩ | ⟨-, -, h'⟩ <;> rw [h'] <;>
    exact h.modChute (hfree e) ⟨rfl, rfl, rfl⟩

/-- The choice starts no job that a covered station or a covered breaker holds back (R109). -/
theorem chooseJob (h : s.StillAt e t) : s.StillAt e t.chooseJob := by
  rcases t.chooseJob_cases with h' | ⟨j, hp, hj, h'⟩
  · rwa [h']
  obtain ⟨-, -, hbreaker, hstation⟩ := State.startable_iff.mp (State.pickJob_mem hj).2
  rw [h']
  have hcarries : s.carriesBreaker e = false := by
    rw [← h.carries]
    simpa using (List.any_eq_false.mp hbreaker) e (List.mem_finRange e)
  refine ⟨h.tips, h.chutes, h.stations, h.carries, h.granted, h.safe, .inr ⟨?_, hcarries, fun k hk => ?_⟩⟩
  · rcases h.breaker with hb | ⟨hsp, -, -⟩
    · rw [← hb, hp]
    · exact hsp
  · refine Bool.eq_false_iff.mpr fun hat => ?_
    obtain ⟨-, hcur⟩ := State.breakerAt_iff_current.mp hat
    have hjk : j.station = k := Option.some.inj hcur
    rw [← h.stations, ← hjk] at hk
    exact (List.any_eq_false.mp hstation) e (List.mem_finRange e) hk

theorem endEvent (h : s.StillAt e t) : s.StillAt e t.endEvent := by
  refine h.step (by rw [State.endEvent_entry]) (by rw [State.endEvent_entry]) (fun x => ?_) (fun c => ?_)
    (State.endEvent_stations t) (fun x _ hg => ?_) (fun c _ => ⟨?_, State.endEvent_closedHigh t c⟩)
    (State.endEvent_breaker t)
  · exact State.coversTip_congr (State.endEvent_entries t) (by rw [State.endEvent_tip]) (by rw [State.endEvent_tip])
      (by rw [State.endEvent_tip])
  · exact State.coversChute_congr (State.endEvent_entries t) (by rw [State.endEvent_chute])
      (by rw [State.endEvent_chute]) (by rw [State.endEvent_chute])
  · rwa [State.endEvent_tip] at hg
  · rw [State.endEvent_chute]

end State.StillAt

/-- From where no covered tip point is GRANTED on, the settling tests and then the whole end of an event keep the
covered plant. -/
theorem Event.settleTests_stillAt {ev : Event} {e : EntryIdx}
    (h : ∀ x, ev.st.coversTip e x = true → (ev.st.tip x).state ≠ .granted) : ev.st.StillAt e ev.settleTests.st :=
  Event.settleTests_induct (P := fun a => ev.st.StillAt e a.st) ev (fun _ i _ ha => ha.settleTest i) (.refl h)

theorem Event.finish_stillAt {ev : Event} {e : EntryIdx}
    (h : ∀ x, ev.st.coversTip e x = true → (ev.st.tip x).state ≠ .granted) : ev.st.StillAt e ev.finish :=
  Event.finish_induct (P := ev.st.StillAt e) ev (fun _ i ha => ha.settleTest i) (fun _ _ _ ha hc _ => ha.grant hc)
    (fun _ c ha => ha.startTry c) (fun _ ha => ha.chooseJob) (fun _ ha => ha.endEvent) (.refl h)

/-! ## The state of the entry -/

/-- After the settling tests no entry they tested waits settled. -/
theorem Event.foldl_settleTest_awaits (es : List EntryIdx) (ev : Event) {e : EntryIdx}
    (h : (es.foldl (fun ev e => ev.settleTest e) ev).st.awaits e = true) : e ∉ es := by
  suffices H : e ∉ es ∧ ev.st.awaits e = true from H.1
  induction es generalizing ev with
  | nil => exact ⟨by simp, h⟩
  | cons i es ih =>
    obtain ⟨hes, ha⟩ := ih _ h
    obtain ⟨hi, hev⟩ := Event.settleTest_awaits ha
    exact ⟨by simp [hi, hes], hev⟩

theorem Event.settleTests_not_awaits {ev : Event} {e : EntryIdx} (h : e ∈ ev.touched) :
    ev.settleTests.st.awaits e = false :=
  Bool.eq_false_iff.mpr fun ha => Event.foldl_settleTest_awaits _ _ ha (mem_touched.mpr h)

/-- After its settling tests an event changes no entry. -/
theorem Event.finish_entry (ev : Event) (e : EntryIdx) : ev.finish.entry e = ev.settleTests.st.entry e := by
  have h2 := (State.runArbiters_reach ev.settleTests.arb ev.settleTests.st).2.1
  have h3 := (State.runTries_reach ev.settleTests.tries (ev.settleTests.st.runArbiters ev.settleTests.arb)).2.1
  have hentries : ev.acted.entries = ev.settleTests.st.entries := by
    rw [← h2, ← h3]
    unfold Event.acted
    dsimp only
    split
    · generalize State.runTries _ _ = u
      rcases u.chooseJob_cases with h | ⟨j, -, -, h⟩
      · rw [h]
      · rw [h]; rfl
    · rfl
  rw [Event.finish_acted, State.endEvent_entry]
  exact congrArg (fun v : Vector Entry 24 => v[e]) hentries

/-- An entry made IN_FORCE by the settling tests was settled. -/
theorem Event.settleTests_inForce {ev : Event} {e : EntryIdx}
    (h : ∀ x, ev.st.coversTip e x = true → (ev.st.tip x).state ≠ .granted)
    (hw : (ev.st.entry e).state ≠ .inForce) (hf : (ev.settleTests.st.entry e).state = .inForce) :
    ev.st.settled e = true := by
  refine (Event.settleTests_induct (P := fun a => ev.st.StillAt e a.st
    ∧ ((a.st.entry e).state = .inForce → ev.st.settled e = true)) ev (fun a i _ ⟨hstill, ha⟩ => ?_)
    ⟨.refl h, fun hf => absurd hf hw⟩).2 hf
  refine ⟨hstill.settleTest i, fun hf => ?_⟩
  rcases a.settleTest_cases i with hs | ⟨-, -, hs, heq⟩
  · rw [hs] at hf
    exact ha hf
  · by_cases hi : e = i
    · subst hi
      exact (hstill.settled h).mp hs
    · refine ha ?_
      rwa [heq, Event.enterForce_entry, State.modEntry_entry_ne _ _ _ hi] at hf

/-- A touched entry that waits ends the event IN_FORCE exactly where it is settled. -/
theorem Event.finish_entry_state {ev : Event} {e : EntryIdx}
    (h : ∀ x, ev.st.coversTip e x = true → (ev.st.tip x).state ≠ .granted) (ht : e ∈ ev.touched)
    (hu : (ev.st.entry e).inUse = true) (hp : (ev.st.entry e).state = .pending) :
    (ev.finish.entry e).state = if ev.finish.settled e = true then .inForce else .pending := by
  have hfinish := (Event.finish_stillAt h).settled h
  have htests := (Event.settleTests_stillAt h).settled h
  have hentry := ev.finish_entry e
  by_cases hs : ev.st.settled e = true
  · rw [if_pos (hfinish.mpr hs), hentry]
    by_contra hn
    have hinUse : (ev.settleTests.st.entry e).inUse = true := by
      rw [← hentry]
      rcases ev.finish_entry_cases e with h' | h' <;> rw [h'] <;> exact hu
    have := Event.settleTests_not_awaits ht
    simp [State.awaits, hinUse, hn, htests.mpr hs] at this
  · rw [if_neg fun h' => hs (hfinish.mp h')]
    rcases ev.finish_entry_cases e with h' | h'
    · rw [h', hp]
    · refine absurd (Event.settleTests_inForce h (by simp [hp]) ?_) hs
      rw [← hentry, h']
      rfl

end Sys2Proof.Machine
end

section
/-! The event of a posting, and the plant it leaves (R119, R128). -/

namespace Sys2Proof.Machine

/-! ## The breaker reached -/

/-- The breaker after the abort of its work: its job is listed again at the head (R118, R119). -/
def Breaker.aborted (b : Breaker) : Breaker := { b with
  state := .returning, current := none, jobs := b.current.toList ++ b.jobs, travelTimer := none, breakTimer := none
  returnTimer := some b.travelLimit }

/-- The state after the breaker is reached, or not. -/
def State.afterReach (u : State) (e : EntryIdx) : State :=
  if u.breakerReached e = true then (u.modBreaker Breaker.aborted).leftBreaking u.breaker else u

/-- The last steps of a posting: the breaker's work, and the touch of the new entry (R128 steps 5 and 6). -/
theorem Event.reach_same (e : EntryIdx) (ev : Event) :
    (Event.touch [e] (if ev.st.breakerReached e = true then ev.abortBreaker else ev)).Same
      ⟨ev.st.afterReach e, ev.arb, ev.tries, ev.choice,
        if ev.st.breakerReached e = true then List.finRange 24 else e :: ev.touched⟩ := by
  unfold State.afterReach
  split
  case isTrue =>
    have h : ev.abortBreaker = ⟨(ev.st.modBreaker Breaker.aborted).leftBreaking ev.st.breaker, ev.arb, ev.tries,
        ev.choice, List.finRange 24 ++ ev.touched⟩ := Event.moveBreaker_home (by simp [Breaker.sendHome])
    rw [h]
    exact ⟨rfl, fun _ => Iff.rfl, fun _ => Iff.rfl, rfl, fun o => by simp [Event.touch]⟩
  case isFalse => exact ⟨rfl, fun _ => Iff.rfl, fun _ => Iff.rfl, rfl, fun _ => Iff.rfl⟩

/-- The breaker's abort leaves the plant that an entry covers. -/
theorem State.afterReach_rest (u : State) (e : EntryIdx) : (u.afterReach e).entries = u.entries
    ∧ (∀ c, (u.afterReach e).chute c = u.chute c)
    ∧ (u.afterReach e).breaker = if u.breakerReached e = true then u.breaker.aborted else u.breaker := by
  unfold State.afterReach
  split
  case isTrue =>
    obtain ⟨sc, h⟩ := (u.modBreaker Breaker.aborted).leftBreaking_scanner u.breaker
    rw [h]
    exact ⟨rfl, fun _ => rfl, rfl⟩
  case isFalse => exact ⟨rfl, fun _ => rfl, rfl⟩

/-! ## The plant stilled -/

section
variable (e : EntryIdx) (ev : Event)

theorem Event.stilled_rest : (ev.stilled e).st.breaker = ev.st.breaker ∧ (ev.stilled e).st.stations = ev.st.stations
    ∧ (ev.stilled e).choice = ev.choice := by
  obtain ⟨-, hbreaker, hstations⟩ := Event.stop_rest (fun t => ev.st.coversTip e t && decide ((ev.st.tip t).state = .granted))
    (ev.st.coversChute e) ev
  exact ⟨hbreaker, hstations, (Event.abortWhere_aborted _ _).choice.trans (Event.revokeWhere_revoked _ ev).choice⟩

theorem Event.stilled_chute (c : ChuteIdx) : (ev.stilled e).st.chute c
    = if ev.st.coversChute e c = true then ev.st.abortedChute c else ev.st.chute c := Event.stop_chute ..

theorem Event.stilled_coversTip (t : TipIdx) : (ev.stilled e).st.coversTip e t = ev.st.coversTip e t := by
  have hr := Event.revokeWhere_revoked (fun t => ev.st.coversTip e t && decide ((ev.st.tip t).state = .granted)) ev
  have htip : (ev.stilled e).st.tip t = (ev.revokeWhere fun t =>
      ev.st.coversTip e t && decide ((ev.st.tip t).state = .granted)).st.tip t := Event.abortWhere_tip ..
  obtain ⟨hd, hp, hel, -, -⟩ := hr.tip_rest t
  exact State.coversTip_congr (ev.stilled_entries e) (by rw [htip, hd]) (by rw [htip, hp]) (by rw [htip, hel])

theorem Event.stilled_coversChute (c : ChuteIdx) : (ev.stilled e).st.coversChute e c = ev.st.coversChute e c := by
  have hrest : ((ev.stilled e).st.chute c).defined = (ev.st.chute c).defined
      ∧ ((ev.stilled e).st.chute c).pass = (ev.st.chute c).pass
      ∧ ((ev.stilled e).st.chute c).elevation = (ev.st.chute c).elevation := by
    rw [Event.stilled_chute]
    split
    · exact ev.st.abortedChute_rest c
    · exact ⟨rfl, rfl, rfl⟩
  exact State.coversChute_congr (ev.stilled_entries e) hrest.1 hrest.2.1 hrest.2.2

theorem Event.stilled_coversStation (k : StationIdx) :
    (ev.stilled e).st.coversStation e k = ev.st.coversStation e k := by
  have hk : (ev.stilled e).st.bst k = ev.st.bst k :=
    congrArg (fun v : Vector Station 4 => v[k]) (Event.stilled_rest e ev).2.1
  rw [State.coversStation, hk, Event.stilled_coversTip, State.coversStation]

/-- The posting reaches the breaker where it works, by the bit or by the station it works at (R119). -/
theorem Event.stilled_reached : (ev.stilled e).st.breakerReached e = true ↔
    (ev.st.breaker.state = .travelling ∨ ev.st.breaker.state = .breaking) ∧ (ev.st.carriesBreaker e = true
      ∨ ∃ k, ev.st.coversStation e k = true ∧ ev.st.breaker.current.map Job.station = some k) := by
  have hcarries : (ev.stilled e).st.carriesBreaker e = ev.st.carriesBreaker e := by
    have hentry : (ev.stilled e).st.entry e = ev.st.entry e :=
      congrArg (fun v : Vector Entry 24 => v[e]) (ev.stilled_entries e)
    rw [State.carriesBreaker, hentry, State.carriesBreaker]
  have hcurrent : (ev.st.breaker.current.any fun j => ev.st.coversStation e j.station) = true
      ↔ ∃ k, ev.st.coversStation e k = true ∧ ev.st.breaker.current.map Job.station = some k := by
    cases ev.st.breaker.current <;> simp
  simp only [State.breakerReached, (Event.stilled_rest e ev).1, hcarries, Event.stilled_coversStation,
    Bool.and_eq_true, Bool.or_eq_true, decide_eq_true_eq, hcurrent]

end

/-! ## The end of the posting -/

/-- The covered plant at the end of an event that has stilled it for the entry `e`. -/
theorem Event.finish_of_stilled {ev : Event} {e : EntryIdx} {u : State} (hst : ev.st = u) (hk : u.KeptStill e)
    (ht : e ∈ ev.touched) (hu : (u.entry e).inUse = true) (hp : (u.entry e).state = .pending)
    (hc : ∀ c, u.coversChute e c = true → (u.chute c).state.moving = false)
    (hb : u.carriesBreaker e = true → u.breaker.state.goes = false) :
    (∀ x, ev.finish.coversTip e x = true → (ev.finish.tip x).state ≠ .granted)
      ∧ (∀ c, ev.finish.coversChute e c = true → (ev.finish.chute c).state ≠ .opening
          ∧ (ev.finish.chute c).state ≠ .holding ∧ (ev.finish.chute c).state ≠ .nudging)
      ∧ (∀ k, ev.finish.coversStation e k = true → ev.finish.breakerAt k = false)
      ∧ (u.carriesBreaker e = true → ev.finish.breaker.state ≠ .travelling ∧ ev.finish.breaker.state ≠ .breaking)
      ∧ (ev.finish.entry e).state = if ev.finish.settled e = true then .inForce else .pending := by
  subst hst
  obtain ⟨hgranted, hstations, -⟩ := hk
  have h := Event.finish_stillAt hgranted
  refine ⟨fun x hx => h.granted x (h.tips x ▸ hx), fun c hcov => ?_, fun k hcov => ?_, fun hcar => ?_,
    Event.finish_entry_state hgranted ht hu hp⟩
  · rw [h.chutes] at hcov
    rw [(h.safe c hcov).1]
    exact CycleState.moving_eq_false_iff.mp (hc c hcov)
  · rw [h.stations] at hcov
    rcases h.breaker with heq | ⟨-, -, hat⟩
    · rw [State.breakerAt, heq, ← State.breakerAt]
      exact hstations k hcov
    · exact hat k hcov
  · rcases h.breaker with heq | ⟨-, hn, -⟩
    · rw [heq]
      exact BreakerState.goes_eq_false_iff.mp (hb hcar)
    · rw [hn] at hcar
      cases hcar

/-! ## The request -/

/-- The state with a new entry. -/
def State.withEntry (s : State) (e : EntryIdx) (x : Entry) : State := s.modEntry e fun _ => x

/-- The state a posting hands to the end of its event. -/
def State.postedPlant (s : State) (e : EntryIdx) (x : Entry) : State :=
  ((Event.of (s.withEntry e x)).stilled e).st.afterReach e

section
variable (s : State) (e : EntryIdx) (x : Entry)

theorem Event.post_same : ((Event.of s).post e x).Same ⟨s.postedPlant e x, ((Event.of (s.withEntry e x)).stilled e).arb,
    ((Event.of (s.withEntry e x)).stilled e).tries, false,
    if ((Event.of (s.withEntry e x)).stilled e).st.breakerReached e = true then List.finRange 24
    else e :: ((Event.of (s.withEntry e x)).stilled e).touched⟩ := by
  have h := Event.reach_same e ((Event.of (s.withEntry e x)).stilled e)
  rw [(Event.stilled_rest e (Event.of (s.withEntry e x))).2.2] at h
  exact h

theorem State.withEntry_entry : (s.withEntry e x).entry e = x := State.modEntry_entry_self ..

theorem State.postedPlant_entries : (s.postedPlant e x).entries = (s.withEntry e x).entries :=
  (State.afterReach_rest _ e).1.trans (Event.stilled_entries ..)

theorem State.postedPlant_entry : (s.postedPlant e x).entry e = x :=
  (congrArg (fun v : Vector Entry 24 => v[e]) (s.postedPlant_entries e x)).trans (s.withEntry_entry e x)

theorem State.postedPlant_chute (c : ChuteIdx) : (s.postedPlant e x).chute c
    = if (s.withEntry e x).coversChute e c = true then (s.withEntry e x).abortedChute c else s.chute c :=
  ((State.afterReach_rest _ e).2.1 c).trans (Event.stilled_chute ..)

theorem State.postedPlant_coversChute (c : ChuteIdx) :
    (s.postedPlant e x).coversChute e c = (s.withEntry e x).coversChute e c := by
  have hchute : (s.postedPlant e x).chute c = ((Event.of (s.withEntry e x)).stilled e).st.chute c :=
    (State.afterReach_rest _ e).2.1 c
  refine Eq.trans ?_ (Event.stilled_coversChute e (Event.of (s.withEntry e x)) c)
  exact State.coversChute_congr (State.afterReach_rest _ e).1 (by rw [hchute]) (by rw [hchute]) (by rw [hchute])

/-- No covered gate moves once a posting has stilled the plant. -/
theorem State.postedPlant_still {c : ChuteIdx} (h : (s.postedPlant e x).coversChute e c = true) :
    ((s.postedPlant e x).chute c).state.moving = false := by
  rw [State.postedPlant_coversChute] at h
  rw [State.postedPlant_chute, if_pos h]
  exact State.abortedChute_moving ..

/-- When the posting reaches the breaker, from the state before it. -/
theorem State.postedPlant_reached (hu : x.inUse = true) :
    ((Event.of (s.withEntry e x)).stilled e).st.breakerReached e = true ↔
      (s.breaker.state = .travelling ∨ s.breaker.state = .breaking) ∧ (x.maskBreaker = true
        ∨ ∃ k, (s.withEntry e x).coversStation e k = true ∧ s.breaker.current.map Job.station = some k) := by
  have hcarries : (s.withEntry e x).carriesBreaker e = x.maskBreaker := by
    rw [State.carriesBreaker, State.withEntry_entry, hu, Bool.true_and]
  have h := Event.stilled_reached e (Event.of (s.withEntry e x))
  rw [Event.of_st, hcarries] at h
  exact h

theorem State.postedPlant_breaker : (s.postedPlant e x).breaker =
    if ((Event.of (s.withEntry e x)).stilled e).st.breakerReached e = true then s.breaker.aborted else s.breaker := by
  have h := (State.afterReach_rest ((Event.of (s.withEntry e x)).stilled e).st e).2.2
  rw [(Event.stilled_rest e (Event.of (s.withEntry e x))).1] at h
  exact h

/-- A breaker that the new entry carries does not work on. -/
theorem State.postedPlant_carries (h : (s.postedPlant e x).carriesBreaker e = true) :
    (s.postedPlant e x).breaker.state.goes = false := by
  rw [State.carriesBreaker_iff, State.postedPlant_entry] at h
  rw [State.postedPlant_breaker]
  split
  case isTrue => rfl
  case isFalse hn =>
    rw [State.postedPlant_reached s e x h.1] at hn
    exact Bool.eq_false_iff.mpr fun hg => hn ⟨BreakerState.goes_iff.mp hg, .inl h.2⟩

/-- The end of a posting: the covered plant is still, and the entry IN_FORCE where it is settled. -/
theorem Event.post_finish (hu : x.inUse = true) (hp : x.state = .pending) :
    (∀ i, ((Event.of s).post e x).finish.coversTip e i = true
        → (((Event.of s).post e x).finish.tip i).state ≠ .granted)
      ∧ (∀ c, ((Event.of s).post e x).finish.coversChute e c = true
        → (((Event.of s).post e x).finish.chute c).state ≠ .opening
          ∧ (((Event.of s).post e x).finish.chute c).state ≠ .holding
          ∧ (((Event.of s).post e x).finish.chute c).state ≠ .nudging)
      ∧ (∀ k, ((Event.of s).post e x).finish.coversStation e k = true
        → ((Event.of s).post e x).finish.breakerAt k = false)
      ∧ (x.maskBreaker = true → ((Event.of s).post e x).finish.breaker.state ≠ .travelling
        ∧ ((Event.of s).post e x).finish.breaker.state ≠ .breaking)
      ∧ (((Event.of s).post e x).finish.entry e).state
        = if ((Event.of s).post e x).finish.settled e = true then .inForce else .pending := by
  have hst : ((Event.of s).post e x).st = s.postedPlant e x := (Event.post_same s e x).1
  have hkept : (s.postedPlant e x).KeptStill e := by
    rw [← hst]
    exact Event.post_keptStill (by simp [hp])
  have hin : e ∈ ((Event.of s).post e x).touched := List.mem_cons_self
  obtain ⟨htips, hchutes, hstations, hcarried, hstate⟩ := Event.finish_of_stilled hst hkept hin
    (by rw [State.postedPlant_entry]; exact hu) (by rw [State.postedPlant_entry]; exact hp)
    (fun c hc => s.postedPlant_still e x hc) (s.postedPlant_carries e x)
  refine ⟨htips, hchutes, hstations, fun hb => hcarried ?_, hstate⟩
  rw [State.carriesBreaker_iff, State.postedPlant_entry]
  exact ⟨hu, hb⟩

end

/-- Settles O46: the checks in their order, and the end of the posting's event from the plant it has stilled. -/
theorem postClearanceStillsTheCoveredPlant : Obligations.PostClearanceStillsTheCoveredPlant := by
  intro rq kind m n p low high tips chutes breaker tag e s ht code post bad free
  have hno {k i : Nat} {status : Status} (h : s.postReply k i low high tips chutes breaker tag = .no status) :
      exec (post k i) s = .next (s.answered rq status []) :=
    congrArg Host.Outcome.next (request_of_reply_no ht h)
  refine ⟨fun hfull => ?_, fun hfree hbad => ?_, fun hfree hm h1 h2 hl => ⟨fun hd => ?_, fun hd hm0 hh => ?_⟩, ?_⟩
  · refine hno ?_
    unfold State.postReply
    rw [State.freeEntry_eq_none_iff.mpr hfull]
  · obtain ⟨i, hf⟩ := State.exists_freeEntry hfree
    exact hno (State.postReply_bad hf hbad)
  · obtain ⟨i, hf⟩ := State.exists_freeEntry hfree
    exact hno (State.postReply_undefined hf hm h1 h2 hl hd)
  · obtain ⟨i, hf⟩ := State.exists_freeEntry hfree
    subst hm0
    exact hno (State.postReply_above hf h1 h2 (hl rfl) hd hh)
  · intro hfree hlow h1 h2 hp hk s1 ev b reached u v t
    set x : Entry := postedEntry kind (some p) low high tips chutes breaker tag s.station.settleTime with hx
    have hxeq := postedEntry_eq kind p low high tips chutes breaker tag s.station.settleTime
    have hs1 : s1 = s.withEntry e x := by rw [hx, hxeq]; rfl
    have hinUse : x.inUse = true := by rw [hx, hxeq]
    have hpending : x.state = .pending := by rw [hx, hxeq]
    have hmask : x.maskBreaker = breaker := by rw [hx, hxeq]
    have hev : ev = (Event.of (s.withEntry e x)).stilled e := by rw [← hs1]; rfl
    have hreached : ((Event.of (s.withEntry e x)).stilled e).st.breakerReached e = true ↔ reached := by
      rw [State.postedPlant_reached s e x hinUse, ← hs1, hmask]
    have hbreaker : ((Event.of (s.withEntry e x)).stilled e).st.breaker = b :=
      (Event.stilled_rest e (Event.of (s.withEntry e x))).1
    have hv : v = s.postedPlant e x := by
      unfold State.postedPlant State.afterReach
      by_cases hr : reached
      · have hu : u = ((Event.of (s.withEntry e x)).stilled e).st.modBreaker Breaker.aborted := by
          rw [← hev]
          exact if_pos hr
        rw [if_pos (hreached.mpr hr), hbreaker, State.leftBreaking, ← hu]
        exact if_congr (and_iff_right hr) rfl rfl
      · have hu : u = ((Event.of (s.withEntry e x)).stilled e).st := by
          rw [← hev]
          exact if_neg hr
        rw [if_neg fun h => hr (hreached.mp h), ← hu]
        exact if_neg fun h => hr h.1
    have htouched : (if reached then List.finRange 24 else e :: ev.touched) =
        if ((Event.of (s.withEntry e x)).stilled e).st.breakerReached e = true then List.finRange 24
        else e :: ((Event.of (s.withEntry e x)).stilled e).touched := by
      rw [← hev]
      exact if_congr (by rw [hev]; exact hreached.symm) rfl rfl
    have hfinish : ((Event.of s).post e x).finish = t := by
      refine (Event.post_same s e x).finish.trans ?_
      rw [← htouched, ← hv, ← hev]
    obtain ⟨htips, hchutes, hstations, hcarried, hstate⟩ := Event.post_finish s e x hinUse hpending
    rw [hfinish] at htips hchutes hstations hcarried hstate
    rw [hmask] at hcarried
    refine ⟨?_, htips, hchutes, hstations, hcarried, hstate⟩
    have hcode : code = kind.number := by cases kind <;> rfl
    have hr := State.postReply_taken (State.freeEntry_eq_some_iff.mpr ⟨hfree, hlow⟩) (tips := tips) (chutes := chutes)
      (breaker := breaker) h1 h2 hp hk
    have hexec := request_of_reply_take ht hr
    rw [hfinish, hstate, apply_ite ClearanceState.code] at hexec
    rw [hcode]
    exact congrArg Host.Outcome.next hexec

end Sys2Proof.Machine
end
